-- ==== Sys2Proof/Word.lean ====
section
/-! DEFINITION. The word types of the Imberlo 2260 and the four head lines. Positions, tallies, item
refs and times are bit vectors because the manual counts them modulo a power of two (00_scope.md,
Conventions; R1, R3, R90, R116). -/

namespace Sys2Proof

/-- One byte of a link frame or of the configuration block (11_formats.md). -/
abbrev Byte := BitVec 8
/-- One 10-bit symbol of a head line (11_formats.md, section 11.1). -/
abbrev Symbol := BitVec 10
/-- The encoder position and every stored position, 0..16777215 (R1). -/
abbrev Pos := BitVec 24
/-- The 24-bit tally (R116). -/
abbrev Tally := BitVec 24
/-- The 16-bit wrapping item ref (R3). -/
abbrev ItemRef := BitVec 16
/-- The 32-bit millisecond count and every time stored from it (R90). -/
abbrev Millis := BitVec 32
/-- A 16-bit event count, wrapping from 65535 to 0 (R20, R36, R52, R72, R88, R113, R136, R158, R174). -/
abbrev Count := BitVec 16

/-- The distance from an earlier position to a later one, modulo 2^24 (00_scope.md, Positions and distances; R1). -/
def dist (earlier later : Pos) : Nat := (later - earlier).toNat

/-- The age of a stored time at a later count, modulo 2^32 (R90). -/
def age (stored now : Millis) : Nat := (now - stored).toNat

/-- The four head lines: identifier readers 0 and 1, the scale (line 2) and the gauge (line 3) (section 2.1). -/
inductive Head where
  | reader0
  | reader1
  | scale
  | gauge
deriving DecidableEq, Repr

/-- One value for each of the four heads. -/
structure PerHead (α : Type) where
  reader0 : α
  reader1 : α
  scale : α
  gauge : α
deriving DecidableEq, Repr

/-- The value of one head. -/
def PerHead.get {α : Type} (p : PerHead α) : Head → α
  | .reader0 => p.reader0
  | .reader1 => p.reader1
  | .scale => p.scale
  | .gauge => p.gauge

/-- The same values with one head's replaced. -/
def PerHead.set {α : Type} (p : PerHead α) (h : Head) (a : α) : PerHead α :=
  match h with
  | .reader0 => { p with reader0 := a }
  | .reader1 => { p with reader1 := a }
  | .scale => { p with scale := a }
  | .gauge => { p with gauge := a }

/-- One value given to all four heads. -/
def PerHead.same {α : Type} (a : α) : PerHead α := ⟨a, a, a, a⟩

/-- A function applied to each head's value. -/
def PerHead.map {α β : Type} (f : α → β) (p : PerHead α) : PerHead β :=
  ⟨f p.reader0, f p.reader1, f p.scale, f p.gauge⟩

/-- The four values as a list, line 0 first. -/
def PerHead.toList {α : Type} (p : PerHead α) : List α := [p.reader0, p.reader1, p.scale, p.gauge]

end Sys2Proof
end

