-- ==== Sys2Proof/Syntax.lean ====
section
/-! DEFINITION. The commands of the Imberlo 2260: one constructor for each row of spec/opcode_table.json. The
station is a block, not a processor, so a command is an event that reaches it (00_scope.md, Events and timing).
An item is named by its item ref, a head line by its `Head`, a frame of the transmit queue by its place in it.
The eleven delivery rows (HEARD_CLAIM to UNADDRESSED_FRAME and the three requests) carry no operand: they take the
frame at the front of the receive queue (R156). -/

namespace Sys2Proof

/-- The kind of a key (R44 to R47). -/
inductive KeyKind where
  | article
  | serial
  | provisional
deriving DecidableEq, Repr

/-- A key names what an item is a copy of: a kind and a value. Two keys are equal when both are (R47). -/
structure Key where
  kind : KeyKind
  value : Nat
deriving DecidableEq, Repr

/-- The commands, one for each row of spec/opcode_table.json, in its order. -/
inductive Instr where
  /-- POWER_ON (R177) -/
  | powerOn
  /-- CONFIG_READ_COMPLETE (R182): the 512 levels the configuration port clocked in from data in, in order (R178); true is 1 -/
  | configReadComplete (block : Vector Bool 512)
  /-- MILLISECOND_TICK (R90) -/
  | millisecondTick
  /-- ENCODER_FORWARD_COUNT (R1) -/
  | encoderForwardCount
  /-- ENCODER_REVERSE_COUNT (R1) -/
  | encoderReverseCount
  /-- LEADING_EDGE (R3) -/
  | leadingEdge
  /-- TRAILING_EDGE (R5) -/
  | trailingEdge
  /-- OVERLONG_CLOSE_OFF (R6), of the sensor owner -/
  | overlongCloseOff
  /-- WINDOW_OPEN (R10), of one item's window for one head -/
  | windowOpen (ref : ItemRef) (head : Head)
  /-- WINDOW_CLOSE (R11) -/
  | windowClose (ref : ItemRef) (head : Head)
  /-- WEIGHT_COMPLETION (R63), of the computation in flight for one item -/
  | weightCompletion (ref : ItemRef)
  /-- DECISION_DUE (R15) -/
  | decisionDue (ref : ItemRef)
  /-- DIVERT_POINT (R16) -/
  | divertPoint (ref : ItemRef)
  /-- DEPARTURE (R17) -/
  | departure (ref : ItemRef)
  /-- HEAD_SYMBOL_ARRIVAL (R23) -/
  | headSymbolArrival (head : Head) (symbol : Symbol)
  /-- FRAMER_TAKE_SYMBOL (R25) -/
  | framerTakeSymbol (head : Head)
  /-- HAND_OVER (R34) -/
  | handOver (head : Head)
  /-- SETTLE_EXPIRY (R123) -/
  | settleExpiry (ref : ItemRef)
  /-- CLAIM_EXPIRY (R108), of one non-own claim of one entry -/
  | claimExpiry (key : Key) (station : Nat) (ref : ItemRef)
  /-- REQUESTED_LAPSE (R109) -/
  | requestedLapse (key : Key)
  /-- JOIN_QUIET_EXPIRY (R183) -/
  | joinQuietExpiry
  /-- LINE_IDLE (R140) -/
  | lineIdle
  /-- ATTEMPT_BEGIN (R145) -/
  | attemptBegin
  /-- CHAIN_CONTINUATION (R150) -/
  | chainContinuation
  /-- COLLISION (R146) -/
  | collision
  /-- JAM_END (R148) -/
  | jamEnd
  /-- BACKOFF_EXPIRY (R147), of the frame at one place of the transmit queue, oldest frame at place 0 -/
  | backoffExpiry (place : Nat)
  /-- ATTEMPT_COMPLETE (R149) -/
  | attemptComplete
  /-- FRAME_RECEIVED (R153): the bits on the line from the recessive bit times before the lead on, the lead's own (R190) and the stuff
  bits (R140) among them; true is recessive, a 1 -/
  | frameReceived (bits : List Bool)
  /-- RX_LINE_ERROR (R153): the line error itself, a run of eight equal bits or a payload length above 48 -/
  | rxLineError
  /-- HEARD_CLAIM (R104) -/
  | heardClaim
  /-- HEARD_COMMIT (R105) -/
  | heardCommit
  /-- HEARD_WITHDRAW (R106) -/
  | heardWithdraw
  /-- HEARD_HOLDINGS (R107) -/
  | heardHoldings
  /-- HEARD_ANNOUNCE (R183) -/
  | heardAnnounce
  /-- STATUS_REQUEST (R171) -/
  | statusRequest
  /-- CALIBRATE (R67) -/
  | calibrate
  /-- RESTART (R189) -/
  | restart
  /-- LOCAL_RESTART (R188) -/
  | localRestart
  /-- MISDIRECTED_FRAME (R156) -/
  | misdirectedFrame
  /-- MALFORMED_FRAME (R157) -/
  | malformedFrame
  /-- UNADDRESSED_FRAME (R156) -/
  | unaddressedFrame
  /-- LOCAL_RESTART_RELEASE (R188) -/
  | localRestartRelease
  /-- LINE_LEAVES_IDLE (R140) -/
  | lineLeavesIdle
  /-- LEAD_FOUND (R153) -/
  | leadFound
deriving DecidableEq, Repr

end Sys2Proof
end

