-- ==== Sys2Proof/Decode.lean ====
section
/-! DEFINITION. spec/opcode_table.json gives no row a word: its rows are events, and every row's 'fields' is empty. So no word
spells a command, and the decoder of table words answers none for all of them. -/

namespace Sys2Proof

/-- The command that a word spells by the opcode table's bits: none, since the table gives no row any bits. -/
def decodeTableWord (_nbits _w : Nat) : Option Instr := none

end Sys2Proof
end

