-- ==== Sys2Proof/Config.lean ====
section
/-! DEFINITION. What the part fixes once for every station: the capacities of 00_scope.md's block table and the
values the manual leaves open. The values a dock's designer sets are no part of this file: they are loaded at
power-on and stand in `Machine.Settings`. -/

namespace Sys2Proof.Config

/-- Items in the Item Queue (R7). -/
def itemCapacity : Nat := 8
/-- Symbols in one head FIFO (R23). -/
def fifoCapacity : Nat := 64
/-- Samples in one sample buffer (R57). -/
def bufferCapacity : Nat := 64
/-- References in the provisional roster (R81). -/
def rosterCapacity : Nat := 64
/-- Entries in the Correlation Table (R91). -/
def tableCapacity : Nat := 4096
/-- Claims in one pending claim list (R93). -/
def claimCapacity : Nat := 6
/-- Records in one own committed list (R97). -/
def committedCapacity : Nat := 4
/-- Frames in the transmit queue (R141). -/
def txCapacity : Nat := 16
/-- Frames in the receive queue (R155). -/
def rxCapacity : Nat := 32
/-- The longest payload of a link frame, in bytes (R153). -/
def payloadLimit : Nat := 48
/-- Recessive bit times before a lead, at the least (R153, R190). -/
def leadGap : Nat := 4
/-- The most bits a reception takes: the lead's 16, then 54 bytes of header, payload and check, and at most one stuff bit for
every six of their bits, since a stuff bit is the first of the next run (R140, R153, R190). -/
def receptionLimit : Nat := 520
/-- The highest provisional index is never issued (R85). -/
def lastProvisionalIndex : Nat := 4095
/-- The instruction and address bytes of the one read of the configuration memory, in the order sent (R178). -/
def configReadCommand : List Byte := [0x03, 0x00, 0x00]

/-- FREE VALUE (notes/assumptions/3.md). R93 inserts a claim 'at the place claim order gives it', and R92 orders any
two claims but is not transitive when tallies lie more than 2^23 apart. Where no place of the list has every claim
ahead of it before the newcomer and every claim behind it after the newcomer, the manual states no place, and the place is
this constant applied to the list's claims and the newcomer, each as (tally, station id, item ref). No body: nothing can be proved of it. -/
opaque unorderedPlace : List (Nat × Nat × Nat) → (Nat × Nat × Nat) → Nat

/-- FREE VALUE (notes/assumptions/3.md). A full list gives up 'the latest non-own claim in claim order' (R93). Where every non-own
claim of the seven has another one after it, none is the latest and the manual names none: the claim that goes is the one of
this number among them, modulo how many there are. No body: nothing can be proved of it. -/
opaque unorderedLatest : List (Nat × Nat × Nat) → Nat

end Sys2Proof.Config
end

