-- ==== Sys2Proof/Machine/State.lean ====
section
/-! DEFINITION. The state of one Imberlo 2260 station, block by block as 00_scope.md's table of owners gives it, and
the state after power-on. Everything is plain data. The outputs that the manual recomputes from other state (Lane
Hold, the fault indicator, the chute select lines) are views of it in Machine/Ops.lean. -/

namespace Sys2Proof.Machine

/-- How the station can stop. The manual names no way: no command ends in a fault (notes/assumptions/2.md), so there is no constructor and nothing raises one. -/
inductive Fault where
deriving DecidableEq, Repr

/-- Why a command has no meaning. -/
inductive Refusal where
  /-- Raised by `exec` alone, for a command that has no meaning yet. Safe: the model stops. No arm of `exec` raises it. -/
  | notModelled (mnemonic : String)
deriving DecidableEq, Repr

/-! ### Configuration values (chapter 10, section 10.3) -/

/-- A chute of the diverter, 0..3. -/
abbrev Chute := Fin 4

/-- One row of the chute map: ordinals 1, 2, 3, and 4 or more (R161). -/
structure ChuteRow where
  first : Chute
  second : Chute
  third : Chute
  further : Chute
deriving DecidableEq, Repr

/-- The chute map, a row for each key kind (R161). -/
structure ChuteMap where
  article : ChuteRow
  serial : ChuteRow
  provisional : ChuteRow
deriving DecidableEq, Repr

/-- The four bit rates of the dock link (section 8.1). -/
inductive BitRate where
  | k250
  | k500
  | m1
  | m2
deriving DecidableEq, Repr

/-- The configuration values handed out at completion of the configuration read (R182), station id excepted. -/
structure Settings where
  version : BitVec 16
  wide : Bool
  gatewayPresent : Bool
  distance : PerHead Nat
  margin : PerHead Nat
  dDec : Nat
  dDiv : Nat
  minLength : Nat
  maxLength : Nat
  itemHold : Nat
  txHold : Nat
  acceptValue : PerHead Byte
  acceptMask : PerHead Byte
  settleCount : Nat
  settleBand : Nat
  tareLimit : Nat
  scaleFactor : Nat
  weightTolerance : Nat
  thicknessTolerance : Nat
  scanDepth : Nat
  claimLifetime : Nat
  settleTime : Nat
  bitRate : BitRate
  retryLimit : Nat
  holdBudget : Nat
  chuteMap : ChuteMap
  joinQuiet : Nat
deriving DecidableEq, Repr

/-! ### The item record (chapter 1, section 1.3) -/

/-- The lane states (R9). -/
inductive LaneState where
  | entering
  | reading
  | read
  | decided
  | diverting
deriving DecidableEq, Repr

/-- The states of one head window (R10). -/
inductive WindowState where
  | notYetOpen
  | opened
  | closed
  | forceClosed
deriving DecidableEq, Repr

/-- The three numbers of a consignment slip (R43). -/
structure Slip where
  number : Nat
  declared : Nat
  publisher : Nat
deriving DecidableEq, Repr

/-- The Key Builder's verdict on a reading (section 3.1). -/
inductive Verdict where
  | valid (key : Key)
  | slip (slip : Slip)
  | misread
deriving DecidableEq, Repr

/-- A candidate slot's content: the most recent reading from one reader, with its verdict (R39). -/
structure Reading where
  subtype : Byte
  symbols : List Symbol
  verdict : Verdict
deriving DecidableEq, Repr

/-- The identifier outcome written at the identifier close (R50). The key of KEYED stands in the item's key. -/
inductive IdOutcome where
  | keyed
  | slip
  | unidentified
  | refused (ambiguous : Bool)
deriving DecidableEq, Repr

/-- Why a weight is absent (section 4.3). -/
inductive AbsenceCause where
  | crowded
  | buffer
  | noSamples
  | tooFewSamples
  | noTare
  | late
deriving DecidableEq, Repr

/-- An item's weight record (section 4.3). `spread` is R61's own test; the GAP flag stands in the item (R57), and the
UNSTEADY flag every consumer reads is `Item.unsteady`. -/
inductive WeightRecord where
  | present (grams : Nat) (spread : Bool) (belowTare : Bool)
  | absent (cause : AbsenceCause)
deriving DecidableEq, Repr

/-- Why an item is REJECTED (section 7.2). -/
inductive Rejection where
  | notActive
  | tableFull
  | claimsFull
  | claimAbandoned
  | unsettled
deriving DecidableEq, Repr

/-- The correlation states (R118). SETTLING carries its settle deadline. -/
inductive CorrState where
  | unkeyed
  | queued
  | settling (deadline : Millis)
  | waiting
  | committed
  | rejected (reason : Rejection)
deriving DecidableEq, Repr

/-- The Consignment Tracker's marks for review (R82, R83, R85). -/
inductive TrackerMark where
  | noKey
  | notActive
  | weightAbsent
  | tableFull
deriving DecidableEq, Repr

/-- The review reasons, in the order of their codes (section 11.3). -/
inductive ReviewReason where
  | noKey
  | ambiguous
  | crowded
  | overlong
  | lateReadings
  | weightAbsent
  | tableFull
  | claimsFull
  | unsettled
  | claimAbandoned
  | notActive
  | calibration
deriving DecidableEq, Repr

/-- One tracked item: the item record of section 1.3 with each block's own work for the item (candidate slots, gauge
maxima, buffer refusal, matching wait, claim context, and `depositHeld`: its DEPOSIT stands built in the overflow slot, R18). -/
structure Item where
  ref : ItemRef
  lead : Pos
  trail : Option Pos
  lane : LaneState
  windows : PerHead WindowState
  crowdMarks : PerHead Bool
  departed : Bool
  depositHeld : Bool
  consignment : Option Nat
  slot0 : Option Reading
  slot1 : Option Reading
  outcome : Option IdOutcome
  bufferRefused : Bool
  gap : Bool
  weight : Option WeightRecord
  maxThickness : Option Nat
  maxWidth : Option Nat
  thickness : Option Nat
  width : Option Nat
  calMark : Bool
  key : Option Key
  corr : CorrState
  claimTally : Option Tally
  ordinal : Option Nat
  ranked : Bool
  holdingsUnconfirmed : Bool
  unconfirmed : Bool
  unconfirmedMark : Bool
  crowded : Bool
  overlong : Bool
  misread : Bool
  misdiverted : Bool
  lateReadings : Bool
  trackerMark : Option TrackerMark
  matching : Bool
  chute : Option Chute
  review : Option ReviewReason
deriving DecidableEq, Repr

/-! ### Lane Tracker (chapter 1) -/

/-- The four lane counts (R20). -/
structure LaneCounts where
  untracked : Count
  blips : Count
  strays : Count
  crowded : Count
deriving DecidableEq, Repr

/-- The Lane Tracker: encoder position, Item Queue oldest first, next item ref, sensor owner, diverter (R21). -/
structure Lane where
  pos : Pos
  queue : List Item
  nextRef : ItemRef
  sensorOwner : Option ItemRef
  diverterChute : Chute
  diverterHolder : Option ItemRef
  counts : LaneCounts
deriving DecidableEq, Repr

/-! ### Head Receivers (chapter 2) -/

/-- How many lead symbols the framer has seen in a row (R26). -/
inductive LeadProgress where
  | zero
  | one
  | two
deriving DecidableEq, Repr

/-- A checked head packet as handed to the Lane Tracker (R34). -/
structure Packet where
  typeCode : Byte
  second : Byte
  count : Nat
  symbols : List Symbol
  stamp : Pos
  gapMark : Bool
deriving DecidableEq, Repr

/-- The seven framer states with what each holds (section 2.3). Sums are modulo 1024. -/
inductive Framer where
  | hunt (progress : LeadProgress)
  | type
  | second (typeCode : Byte) (sum : BitVec 10)
  | count (typeCode second : Byte) (sum : BitVec 10)
  | data (typeCode second : Byte) (count : Nat) (symbols : List Symbol) (remaining : Nat) (sum : BitVec 10)
  | check (typeCode second : Byte) (count : Nat) (symbols : List Symbol) (sum : BitVec 10)
  | handOver (packet : Packet)
deriving DecidableEq, Repr

/-- A symbol waiting in a head FIFO, with its overrun mark (R24). -/
structure FifoSymbol where
  symbol : Symbol
  overrun : Bool
deriving DecidableEq, Repr

/-- One Head Receiver (section 2.1, R37). The accept value and mask stand in the settings. -/
structure Receiver where
  fifo : List FifoSymbol
  markArmed : Bool
  framer : Framer
  lastSequence : Option Byte
deriving DecidableEq, Repr

/-- The four head counts (R36). -/
structure HeadCounts where
  formatErrors : Count
  overruns : Count
  scaleGaps : Count
  gaugeGaps : Count
deriving DecidableEq, Repr

/-! ### Key Builder (chapter 3) -/

/-- The Key Builder's counts (R52). Its candidates stand in the item records. -/
structure KeyCounts where
  misreads : Count
  ambiguous : Count
deriving DecidableEq, Repr

/-! ### Measurement Unit (chapter 4) -/

/-- A computation in flight: the tare and factor copied at the scale close (R59). -/
structure Computation where
  tare : Int
  factor : Nat
deriving DecidableEq, Repr

/-- One of the two sample buffers: its item, its samples in arrival order, and the computation in flight on it (R56, R57, R59). -/
structure SampleBuffer where
  holder : Option ItemRef
  samples : List Int
  computing : Option Computation
deriving DecidableEq, Repr

/-- The calibration record (R67, R68). -/
inductive Calibration where
  | none
  | pending (grams : Nat)
  | chosen (grams : Nat) (ref : ItemRef)
deriving DecidableEq, Repr

/-- The Measurement Unit's counts (R72). -/
structure MeasureCounts where
  bufferRefusals : Count
  shortWeights : Count
  tareRezeros : Count
deriving DecidableEq, Repr

/-- The Measurement Unit (R73). -/
structure Measurement where
  bufferA : SampleBuffer
  bufferB : SampleBuffer
  tare : Option Int
  rejectedRun : Nat
  factor : Nat
  calibration : Calibration
  counts : MeasureCounts
deriving DecidableEq, Repr

/-! ### Consignment Tracker (chapter 5) -/

/-- The open consignment context (section 5.1). The roster names its entries by their keys, oldest first. -/
structure Consignment where
  number : Nat
  publisher : Nat
  declared : Nat
  counted : Nat
  identified : Nat
  provisional : Nat
  review : Nat
  nextIndex : Nat
  members : List ItemRef
  roster : List Key
deriving DecidableEq, Repr

/-- The Consignment Tracker: its context, OPEN or NONE, and its two counts (R88, R89). -/
structure Tracker where
  context : Option Consignment
  matches_ : Count
  issued : Count
deriving DecidableEq, Repr

/-! ### Correlation Table (chapter 6) -/

/-- The holdings state of an entry (R96). REQUESTED carries its time of entry and the note of R90 that its age has
reached the claim lifetime. -/
inductive Holdings where
  | unknown
  | requested (since : Millis) (lapseNoted : Bool)
  | known
deriving DecidableEq, Repr

/-- One claim of a pending claim list (section 6.1). -/
structure Claim where
  station : Nat
  tally : Tally
  ref : ItemRef
  heard : Option Millis
  own : Bool
deriving DecidableEq, Repr

/-- One own committed record (R97). -/
structure CommitRecord where
  ref : ItemRef
  ordinal : Nat
  tally : Tally
deriving DecidableEq, Repr

/-- The provisional part of an entry (R86). -/
structure Stored where
  grams : Nat
  unsteady : Bool
  thickness : Option Nat
deriving DecidableEq, Repr

/-- One entry of the Correlation Table (section 6.1). Its last-touch is its place in the table's list. -/
structure Entry where
  key : Key
  committed : Nat
  holdings : Holdings
  pending : List Claim
  ownCommitted : List CommitRecord
  overfull : Bool
  stored : Option Stored
deriving DecidableEq, Repr

/-- The table's counts (R113). -/
structure TableCounts where
  evictions : Count
  fullRefusals : Count
  droppedClaims : Count
  expiries : Count
  unusable : Count
  merges : Count
deriving DecidableEq, Repr

/-- The Correlation Table: its entries in touch order, least recently touched first (R98). -/
structure Table where
  entries : List Entry
  counts : TableCounts
deriving DecidableEq, Repr

/-! ### Claim Engine (chapter 7) -/

/-- The Claim Engine's counts (R136). -/
structure ClaimCounts where
  offered : Count
  commits : Count
  ranked : Count
  withdrawals : Count
  corrections : Count
deriving DecidableEq, Repr

/-- The Claim Engine: the tally T and its counts (R137). Each item's claim context stands in its record. -/
structure ClaimEngine where
  tally : Tally
  counts : ClaimCounts
deriving DecidableEq, Repr

/-! ### Frames and records (chapters 8 and 9) -/

/-- The ways a consignment ends (R80). -/
inductive EndCause where
  | complete
  | short
  | nextSlip
  | interrupted
deriving DecidableEq, Repr

/-- Why an ordinal is corrected (R133, R135). -/
inductive CorrectionReason where
  | clash
  | holdings
deriving DecidableEq, Repr

/-- The groups of counts a STATUS can carry (section 9.7): 0 lane and sensing, 1 correlation, 2 link and records. -/
inductive StatusGroup where
  | sensing
  | correlation
  | link
deriving DecidableEq, Repr

/-- The station states (section 10.1). -/
inductive StationState where
  | configLoad
  | joining
  | active
  | listenOnly
deriving DecidableEq, Repr

/-- A DEPOSIT record (R166). -/
structure Deposit where
  ref : ItemRef
  consignment : Option Nat
  key : Option Key
  ordinal : Option Nat
  chute : Chute
  review : Option ReviewReason
  flags : BitVec 10
  grams : Option Nat
  thickness : Option Nat
  width : Option Nat
  length : Nat
deriving DecidableEq, Repr

/-- A CORRECTION record (R169). -/
structure Correction where
  ref : ItemRef
  key : Key
  ordinal : Nat
  reason : CorrectionReason
  other : Option Nat
deriving DecidableEq, Repr

/-- A CONSIGNMENT SUMMARY record (R170). -/
structure Summary where
  number : Nat
  publisher : Nat
  declared : Nat
  counted : Nat
  identified : Nat
  provisional : Nat
  review : Nat
  cause : EndCause
deriving DecidableEq, Repr

/-- The contents a STATUS is given when it is sampled (R172). -/
structure StatusContents where
  state : StationState
  flags : BitVec 13
  tally : Tally
  tare : Option Int
  factor : Nat
  version : BitVec 16
  counts : List Count
deriving DecidableEq, Repr

/-- What a frame of the transmit queue says: its kind with the payload's fields (section 8.2). A STATUS has no
contents until its first attempt begins (R171, R172). -/
inductive Body where
  | claim (key : Key) (tally : Tally) (ref : ItemRef) (known : Nat) (wanted : Bool)
  | commit (key : Key) (tally : Tally) (ref : ItemRef) (ordinal : Nat)
  | withdraw (key : Key) (tally : Tally) (ref : ItemRef)
  | announce (tally : Tally) (version : BitVec 16)
  | deposit (record : Deposit)
  | correction (record : Correction)
  | summary (record : Summary)
  | status (group : StatusGroup) (contents : Option StatusContents)
deriving DecidableEq, Repr

/-- The standing of a frame (section 8.2). BACKOFF carries the slots drawn, counted from the end of the jam (R147). -/
inductive Standing where
  | ready
  | backoff (slots : Nat)
  | onLine
deriving DecidableEq, Repr

/-- A frame of the transmit queue. `takenBack` is the Claim Engine's asking back of a CLAIM that is ON LINE (R151). -/
structure TxFrame where
  body : Body
  attempts : Nat
  standing : Standing
  takenBack : Bool
deriving DecidableEq, Repr

/-! ### Link Controller (chapter 8) -/

/-- A frame as the receiver has taken it from the line, stuff bits removed (R153): the header fields, the payload
(its length is the payload length byte) and the two check bytes. -/
structure RxFrame where
  kind : Byte
  source : Byte
  dest : Byte
  payload : List Byte
  check : BitVec 16
deriving DecidableEq, Repr

/-- What the station itself does on the line: nothing, sending the coded bits of the frame ON LINE (R140, R145), or
driving its jam (R146). -/
inductive Sending where
  | quiet
  | frame (bits : List Bool)
  | jam
deriving DecidableEq, Repr

/-- What the receiver does: looking for a lead, or taking a frame bit by bit (R153). -/
inductive Reception where
  | seeking
  | taking
deriving DecidableEq, Repr

/-- The Link Controller's counts (R158). -/
structure LinkCounts where
  sent : Count
  collisions : Count
  abandons : Count
  checkFailures : Count
  rxDrops : Count
  misdirected : Count
  malformed : Count
deriving DecidableEq, Repr

/-- The Link Controller (R159). The transmit queue stands in order of entry; a class's order is its order within it. -/
structure Link where
  txQueue : List TxFrame
  rxQueue : List RxFrame
  sending : Sending
  holding : Bool
  chain : Nat
  lineIdle : Bool
  reception : Reception
  generator : BitVec 16
  gateOpen : Bool
  counts : LinkCounts
deriving DecidableEq, Repr

/-! ### Record Builder (chapter 9) -/

/-- The pending STATUS marks: for each group, the accumulated clear mask if a STATUS of it is pending (R171). -/
structure PendingStatus where
  sensing : Option (BitVec 13)
  correlation : Option (BitVec 13)
  link : Option (BitVec 13)
deriving DecidableEq, Repr

/-- The Record Builder's counts (R174). -/
structure RecordCounts where
  disposed : Count
  reviews : Count
  lost : Count
deriving DecidableEq, Repr

/-- The Record Builder: overflow slot, pending STATUS marks, the thirteen sticky flags (bit numbers of section 11.3)
and its counts (R175). -/
structure Records where
  overflow : Option Body
  pending : PendingStatus
  flags : BitVec 13
  counts : RecordCounts
deriving DecidableEq, Repr

/-! ### Start-up Controller (chapter 10) -/

/-- The standing of the station's ANNOUNCE (chapter 10's opening). -/
inductive AnnounceStanding where
  | none
  | waiting
  | queued
deriving DecidableEq, Repr

/-- The Start-up Controller (R177). `settings` is absent until the configuration read completes; `portSelect` is the
configuration port's select, active while the one read is in flight (R178); `joinTimer` is the time the running
join-quiet timer started; `restartInput` is the level of the local restart input (R188). -/
structure Startup where
  state : StationState
  settings : Option Settings
  stationId : Option Nat
  portSelect : Bool
  joinTimer : Option Millis
  announce : AnnounceStanding
  restartInput : Bool
deriving DecidableEq, Repr

/-! ### The station and the machine -/

/-- One station: its ten blocks and the millisecond count (R90). -/
structure Station where
  clock : Millis
  lane : Lane
  receivers : PerHead Receiver
  headCounts : HeadCounts
  keyCounts : KeyCounts
  measurement : Measurement
  tracker : Tracker
  table : Table
  claims : ClaimEngine
  link : Link
  records : Records
  startup : Startup
deriving DecidableEq, Repr

/-- The machine: the station, and the commands waiting for it, first in, first out. -/
structure State where
  station : Station
  pending : List Instr
deriving DecidableEq, Repr

/-- A free sample buffer (R73). -/
def SampleBuffer.free : SampleBuffer := { holder := none, samples := [], computing := none }

/-- A Head Receiver after power-on (R37). -/
def Receiver.powerOn : Receiver :=
  { fifo := [], markArmed := false, framer := .hunt .zero, lastSequence := none }

/-- The station right after power-on: R21, R37, R54, R73, R89, R90, R114, R137, R159, R175, R177. The values the manual
gives no power-on value for, the scale factor (1024), the generator (0) and the restart input's level (inactive),
are those of notes/assumptions/1.md. -/
def Station.powerOn : Station :=
  { clock := 0
    lane :=
      { pos := 0, queue := [], nextRef := 0, sensorOwner := none, diverterChute := 0, diverterHolder := none
        counts := { untracked := 0, blips := 0, strays := 0, crowded := 0 } }
    receivers := PerHead.same Receiver.powerOn
    headCounts := { formatErrors := 0, overruns := 0, scaleGaps := 0, gaugeGaps := 0 }
    keyCounts := { misreads := 0, ambiguous := 0 }
    measurement :=
      { bufferA := SampleBuffer.free, bufferB := SampleBuffer.free, tare := none, rejectedRun := 0, factor := 1024
        calibration := .none, counts := { bufferRefusals := 0, shortWeights := 0, tareRezeros := 0 } }
    tracker := { context := none, matches_ := 0, issued := 0 }
    table :=
      { entries := []
        counts := { evictions := 0, fullRefusals := 0, droppedClaims := 0, expiries := 0, unusable := 0, merges := 0 } }
    claims := { tally := 0, counts := { offered := 0, commits := 0, ranked := 0, withdrawals := 0, corrections := 0 } }
    link :=
      { txQueue := [], rxQueue := [], sending := .quiet, holding := false, chain := 0, lineIdle := false
        reception := .seeking, generator := 0, gateOpen := false
        counts :=
          { sent := 0, collisions := 0, abandons := 0, checkFailures := 0, rxDrops := 0, misdirected := 0, malformed := 0 } }
    records :=
      { overflow := none, pending := { sensing := none, correlation := none, link := none }, flags := 0
        counts := { disposed := 0, reviews := 0, lost := 0 } }
    startup :=
      { state := .configLoad, settings := none, stationId := none, portSelect := true, joinTimer := none
        announce := .none, restartInput := false } }

/-- The machine right after power-on, with no command waiting. -/
def State.reset : State := { station := Station.powerOn, pending := [] }

end Sys2Proof.Machine
end

