-- ==== Sys2Proof/Machine/Settings.lean ====
section
/-! DEFINITION. The configuration values: every chapter's defaults, and the reading, clamping and adjusting of the
64-byte block (R179 to R182, R192, section 11.4). -/

namespace Sys2Proof.Machine

/-- The default chute map (section 9.1). -/
def ChuteMap.defaults : ChuteMap :=
  { article := ⟨1, 2, 3, 3⟩, serial := ⟨1, 2, 3, 3⟩, provisional := ⟨0, 0, 0, 0⟩ }

/-- Every chapter's defaults, taken by a station with no valid configuration (R179; the tables of sections 1.1, 2.1,
4, 5.1, 8.1 and 10.3). -/
def Settings.defaults : Settings :=
  { version := 0, wide := true, gatewayPresent := true
    distance := ⟨300, 320, 600, 800⟩, margin := ⟨20, 20, 30, 10⟩
    dDec := 1500, dDiv := 2400, minLength := 40, maxLength := 600, itemHold := 6, txHold := 12
    acceptValue := ⟨0x91, 0x91, 0x22, 0x23⟩, acceptMask := PerHead.same 0xFF
    settleCount := 8, settleBand := 24, tareLimit := 200, scaleFactor := 1024
    weightTolerance := 6, thicknessTolerance := 5, scanDepth := 16
    claimLifetime := 4000, settleTime := 20, bitRate := .m1, retryLimit := 8, holdBudget := 2
    chuteMap := ChuteMap.defaults, joinQuiet := 500 }

/-- The number that bits spell, most significant bit first (section 8.1, R178). -/
def msbValue (bits : List Bool) : Nat := bits.foldl (fun v b => 2 * v + b.toNat) 0

/-- The 512 levels clocked in from data in at power-on, in the order received (R178). -/
abbrev ConfigBlock := Vector Bool 512

/-- Configuration byte i, of the eight levels clocked in for it, the first the most significant (R178); places past byte 63 do
not occur. -/
def blockByte (b : ConfigBlock) (i : Nat) : Nat := msbValue ((b.toList.drop (8 * i)).take 8)

/-- The same byte as eight bits. -/
def blockBits (b : ConfigBlock) (i : Nat) : Byte := BitVec.ofNat 8 (blockByte b i)

/-- A two-byte field, most significant byte first (R192). -/
def blockWord (b : ConfigBlock) (i : Nat) : Nat := blockByte b i * 256 + blockByte b (i + 1)

/-- Bytes 0 and 1 hold the signature 0x22, 0x60 (R179). -/
def signatureRight (b : ConfigBlock) : Bool := blockByte b 0 == 0x22 && blockByte b 1 == 0x60

/-- A value clamped to the nearer of its limits (R180). -/
def clampTo (lo hi v : Nat) : Nat := if v < lo then lo else if hi < v then hi else v

/-- The range fields of the block as read, each with its limits (sections 10.3 and 11.4): D_0 to D_3, D_dec, D_div,
minimum and maximum length, the two hold thresholds, S, settle band, tare limit, scale factor, the two tolerances,
scan depth, claim lifetime, settle time, bit rate code, retry limit, hold budget, join-quiet interval. -/
def rangeFields (b : ConfigBlock) : List (Nat × Nat × Nat) :=
  [(blockWord b 6, 0, 8191), (blockWord b 8, 0, 8191), (blockWord b 10, 0, 8191), (blockWord b 12, 0, 8191),
   (blockWord b 18, 1, 8191), (blockWord b 20, 1, 8191), (blockWord b 22, 10, 400), (blockWord b 24, 50, 2000),
   (blockByte b 26, 2, 8), (blockByte b 27, 4, 16), (blockByte b 36, 4, 16), (blockWord b 37, 1, 1023),
   (blockWord b 39, 1, 4095), (blockWord b 41, 1, 65535), (blockByte b 43, 1, 255), (blockByte b 44, 1, 255),
   (blockByte b 45, 1, 64), (blockWord b 46, 100, 10000), (blockByte b 48, 2, 250), (blockByte b 49, 0, 3),
   (blockByte b 50, 1, 15), (blockByte b 51, 1, 4), (blockWord b 58, 100, 5000)]

/-- The twelve places of the chute map as read, four bits each, the high half of each byte first (section 11.4). -/
def rawChutes (b : ConfigBlock) : List Nat :=
  [52, 53, 54, 55, 56, 57].flatMap (fun i => [blockByte b i / 16, blockByte b i % 16])

/-- A chute place above 3 becomes 0 (R180). -/
def chutePlace (b : ConfigBlock) (i : Nat) : Chute :=
  match (rawChutes b).getD i 0 with
  | 1 => 1
  | 2 => 2
  | 3 => 3
  | _ => 0

/-- The bit rate of a code; a code that names no rate is 2 Mbit/s, the nearer end rate (R180, R192). -/
def bitRateOf (code : Nat) : BitRate :=
  match code with
  | 0 => .k250
  | 1 => .k500
  | 2 => .m1
  | _ => .m2

/-- The fields of a block with a right signature, each clamped alone (R180). -/
def clampedSettings (b : ConfigBlock) : Settings :=
  { version := BitVec.ofNat 16 (blockWord b 2)
    wide := blockByte b 5 % 2 == 1
    gatewayPresent := blockByte b 5 / 2 % 2 == 1
    distance := ⟨clampTo 0 8191 (blockWord b 6), clampTo 0 8191 (blockWord b 8), clampTo 0 8191 (blockWord b 10),
      clampTo 0 8191 (blockWord b 12)⟩
    margin := ⟨blockByte b 14, blockByte b 15, blockByte b 16, blockByte b 17⟩
    dDec := clampTo 1 8191 (blockWord b 18)
    dDiv := clampTo 1 8191 (blockWord b 20)
    minLength := clampTo 10 400 (blockWord b 22)
    maxLength := clampTo 50 2000 (blockWord b 24)
    itemHold := clampTo 2 8 (blockByte b 26)
    txHold := clampTo 4 16 (blockByte b 27)
    acceptValue := ⟨blockBits b 28, blockBits b 30, blockBits b 32, blockBits b 34⟩
    acceptMask := ⟨blockBits b 29, blockBits b 31, blockBits b 33, blockBits b 35⟩
    settleCount := clampTo 4 16 (blockByte b 36)
    settleBand := clampTo 1 1023 (blockWord b 37)
    tareLimit := clampTo 1 4095 (blockWord b 39)
    scaleFactor := clampTo 1 65535 (blockWord b 41)
    weightTolerance := clampTo 1 255 (blockByte b 43)
    thicknessTolerance := clampTo 1 255 (blockByte b 44)
    scanDepth := clampTo 1 64 (blockByte b 45)
    claimLifetime := clampTo 100 10000 (blockWord b 46)
    settleTime := clampTo 2 250 (blockByte b 48)
    bitRate := bitRateOf (blockByte b 49)
    retryLimit := clampTo 1 15 (blockByte b 50)
    holdBudget := clampTo 1 4 (blockByte b 51)
    chuteMap :=
      { article := ⟨chutePlace b 0, chutePlace b 1, chutePlace b 2, chutePlace b 3⟩
        serial := ⟨chutePlace b 4, chutePlace b 5, chutePlace b 6, chutePlace b 7⟩
        provisional := ⟨chutePlace b 8, chutePlace b 9, chutePlace b 10, chutePlace b 11⟩ }
    joinQuiet := clampTo 100 5000 (blockWord b 58) }

/-- R180 changed a field: a range field outside its limits, or a chute place above 3. -/
def clampChanged (b : ConfigBlock) : Bool :=
  (rangeFields b).any (fun f => decide (f.1 < f.2.1) || decide (f.2.2 < f.1)) || (rawChutes b).any (fun v => decide (3 < v))

/-- The largest D_h + m_h over the four heads (R181). -/
def Settings.farthestWindow (c : Settings) : Nat :=
  max (max (c.distance.reader0 + c.margin.reader0) (c.distance.reader1 + c.margin.reader1))
    (max (c.distance.scale + c.margin.scale) (c.distance.gauge + c.margin.gauge))

/-- The three adjustments between fields, in their order (R181). -/
def Settings.adjust (c : Settings) : Settings :=
  let c1 := if c.maxLength < c.minLength then { c with maxLength := c.minLength } else c
  let c2 := if c1.dDec ≤ c1.farthestWindow then { c1 with dDec := c1.farthestWindow + 1 } else c1
  if c2.dDiv ≤ c2.dDec then { c2 with dDiv := c2.dDec + 1 } else c2

/-- The configured values of a block with a right signature (R180, R181). -/
def configuredSettings (b : ConfigBlock) : Settings := (clampedSettings b).adjust

/-- CONFIG ADJUSTED is set by any change of R180 or R181. -/
def configAdjusted (b : ConfigBlock) : Bool :=
  clampChanged b || decide (configuredSettings b ≠ clampedSettings b)

/-- The station id of byte 4, if it lies in 1..31 (R182, R192). -/
def configuredId (b : ConfigBlock) : Option Nat :=
  if 1 ≤ blockByte b 4 ∧ blockByte b 4 ≤ 31 then some (blockByte b 4) else none

/-- The chute for a key kind and an ordinal: ordinals 4 to 255 use the fourth place (R161). -/
def ChuteMap.chute (m : ChuteMap) (kind : KeyKind) (ordinal : Nat) : Chute :=
  let row := match kind with
    | .article => m.article
    | .serial => m.serial
    | .provisional => m.provisional
  match ordinal with
  | 0 => row.first
  | 1 => row.first
  | 2 => row.second
  | 3 => row.third
  | _ => row.further

end Sys2Proof.Machine
end

