-- ==== Sys2Proof/Machine/Flags.lean ====
section
/-! DEFINITION. The thirteen sticky flags as bits of one word (R173; bit numbers of section 11.3). -/

namespace Sys2Proof.Machine

/-- The sticky flags, in the order of their bits from bit 0 (section 11.3). -/
inductive Flag where
  | configAdjusted
  | duplicateId
  | headFormatError
  | headOverrun
  | scaleDrift
  | calDone
  | calFailed
  | calIgnored
  | rxOverflow
  | txAbandon
  | tableFull
  | queueOverrun
  | clashSeen
deriving DecidableEq, Repr

/-- The flag's bit number, used alike in STATUS and in a clear mask (section 11.3). -/
def Flag.index : Flag → Nat
  | .configAdjusted => 0
  | .duplicateId => 1
  | .headFormatError => 2
  | .headOverrun => 3
  | .scaleDrift => 4
  | .calDone => 5
  | .calFailed => 6
  | .calIgnored => 7
  | .rxOverflow => 8
  | .txAbandon => 9
  | .tableFull => 10
  | .queueOverrun => 11
  | .clashSeen => 12

/-- The flag's bit alone. -/
def Flag.bit (f : Flag) : BitVec 13 := 1#13 <<< f.index

/-- Set a flag, already set or not (R173). -/
def Station.raise (f : Flag) (s : Station) : Station :=
  { s with records := { s.records with flags := s.records.flags ||| f.bit } }

/-- The flag is set. -/
def Station.flag (f : Flag) (s : Station) : Bool := s.records.flags.getLsbD f.index

/-- Clear every flag a mask selects (R172). -/
def Station.clearFlags (mask : BitVec 13) (s : Station) : Station :=
  { s with records := { s.records with flags := s.records.flags &&& ~~~mask } }

end Sys2Proof.Machine
end

