-- ==== Sys2Proof/Machine/Ops.lean ====
section
/-! DEFINITION. The named operations over the station's state that the meanings share: the settings in force, the
outputs, the item records, the sample buffers, removal of an item. -/

namespace Sys2Proof.Machine

/-- The settings in force: the configured values, or the defaults in a station that took no configuration. While the
station is in CONFIG LOAD it holds none and no rule consults them. -/
def Station.cfg (s : Station) : Settings := s.startup.settings.getD Settings.defaults

/-- The station is out of CONFIG LOAD (R2, R23, R153). -/
def Station.ready (s : Station) : Bool := s.startup.state != .configLoad

/-- The station is in LISTEN-ONLY (R186). -/
def Station.listening (s : Station) : Bool := s.startup.state == .listenOnly

/-! ### Outputs -/

/-- The Lane Hold output: asserted while an occupancy is at its threshold, or while the station is not ACTIVE (R19). -/
def Station.laneHold (s : Station) : Bool :=
  decide (s.cfg.itemHold ≤ s.lane.queue.length) || decide (s.cfg.txHold ≤ s.link.txQueue.length) ||
    s.startup.state != .active

/-- The fault indicator: lit while DUPLICATE ID is set (R185). -/
def Station.faultIndicator (s : Station) : Bool := s.flag .duplicateId

/-- The chute select lines: the diverter's chute at all times (section 1.8). -/
def Station.chuteSelect (s : Station) : Chute := s.lane.diverterChute

/-! ### Items -/

/-- The item with a ref, if it is in the Item Queue (R8). -/
def Station.findItem (ref : ItemRef) (s : Station) : Option Item := s.lane.queue.find? (fun i => i.ref = ref)

/-- Write an item's record by its ref; a ref no longer in the queue finds nothing (R8). -/
def Station.modifyItem (ref : ItemRef) (f : Item → Item) (s : Station) : Station :=
  { s with lane := { s.lane with queue := s.lane.queue.map (fun i => if i.ref = ref then f i else i) } }

/-- The UNSTEADY flag every consumer reads: R61's spread test, or the GAP flag. -/
def Item.unsteady (i : Item) : Bool :=
  i.gap || match i.weight with
    | some (.present _ spread _) => spread
    | _ => false

/-- The item's grams, if its weight is present (section 4.3). -/
def Item.grams (i : Item) : Option Nat :=
  match i.weight with
  | some (.present grams _ _) => some grams
  | _ => none

/-- The weight has the BELOW TARE flag (R62). -/
def Item.belowTare (i : Item) : Bool :=
  match i.weight with
  | some (.present _ _ below) => below
  | _ => false

/-- The item carries the slip mark (R50). -/
def Item.isSlip (i : Item) : Bool := i.outcome == some .slip

/-- The item's settle deadline or its wait is still open: SETTLING or WAITING (R126). -/
def Item.settlingOrWaiting (i : Item) : Bool :=
  match i.corr with
  | .settling _ => true
  | .waiting => true
  | _ => false

/-! ### Windows (R10) -/

/-- The head-h window opens when P − L reaches this distance; a window with D_h ≤ m_h is open from creation. -/
def Settings.openDistance (c : Settings) (h : Head) : Nat := c.distance.get h - c.margin.get h

/-- D_h + m_h, the distance from T at which the span ends. -/
def Settings.closeDistance (c : Settings) (h : Head) : Nat := c.distance.get h + c.margin.get h

/-- The window of a head is open from the item's creation (R10). -/
def Settings.opensAtCreation (c : Settings) (h : Head) : Bool := decide (c.distance.get h ≤ c.margin.get h)

/-- A stamp lies in an item's head window (R10). A closed window contains no stamp (R11), and no window of a departed item does
(R12, R18), however long the item waits. A distance of 2^23 or more is a stamp behind the stored position, since R1 keeps every
true distance below 2^23 (notes/assumptions/5.md).
DESIGN CHOICE (notes/assumptions/28.md): a force-closed window is held to the stamp alone. R10's two conditions put a stamp of its span
inside it also when P has passed its upper end before the hand-over; R10's 'not yet past its upper end, at the moment of
hand-over' and R13's 'until its upper end has passed' put it outside. -/
def Item.windowHolds (c : Settings) (h : Head) (stamp : Pos) (i : Item) : Bool :=
  !i.departed && i.windows.get h != .closed &&
  (c.opensAtCreation h ||
    (decide (c.openDistance h ≤ dist i.lead stamp) && decide (dist i.lead stamp < 8388608))) &&
  match i.trail with
  | none => true
  | some t => decide (dist t stamp ≤ c.closeDistance h) || decide (8388608 ≤ dist t stamp)

/-! ### Sample buffers (R56) -/

/-- The buffer taken by an item, if any. -/
def Measurement.bufferOf (ref : ItemRef) (m : Measurement) : Option SampleBuffer :=
  if m.bufferA.holder = some ref then some m.bufferA
  else if m.bufferB.holder = some ref then some m.bufferB
  else none

/-- Change the buffer taken by an item. -/
def Measurement.modifyBuffer (ref : ItemRef) (f : SampleBuffer → SampleBuffer) (m : Measurement) : Measurement :=
  if m.bufferA.holder = some ref then { m with bufferA := f m.bufferA }
  else if m.bufferB.holder = some ref then { m with bufferB := f m.bufferB }
  else m

/-- Free the buffer of an item, its samples and computation with it (R63, R65). -/
def Measurement.freeBuffer (ref : ItemRef) (m : Measurement) : Measurement :=
  m.modifyBuffer ref (fun _ => SampleBuffer.free)

/-- Free an item's buffer. -/
def Station.freeBuffer (ref : ItemRef) (s : Station) : Station :=
  { s with measurement := s.measurement.freeBuffer ref }

/-! ### Removal (R8, R17, R65, R70) -/

/-- The calibration ends without an outcome when its item is removed: the record returns to NONE (R70). CAL FAILED is
set for a blip or a departure, and not for a lane restart (`flagged` false). -/
def Station.endCalibrationOf (ref : ItemRef) (flagged : Bool) (s : Station) : Station :=
  match s.measurement.calibration with
  | .chosen _ r =>
    if r = ref then
      let s1 := { s with measurement := { s.measurement with calibration := .none } }
      if flagged then s1.raise .calFailed else s1
    else s
  | _ => s

/-- Remove an item from the Item Queue; every block drops its work for it (R8). The candidate slots, gauge maxima,
matching wait and claim context go with the record; the sample buffer and the calibration record are dropped here (R65, R70). -/
def Station.removeItem (ref : ItemRef) (flagged : Bool) (s : Station) : Station :=
  let s1 := { s with lane := { s.lane with queue := s.lane.queue.filter (fun i => i.ref ≠ ref) } }
  (s1.freeBuffer ref).endCalibrationOf ref flagged

end Sys2Proof.Machine
end

