-- ==== Sys2Proof/Machine/Formats.lean ====
section
/-! DEFINITION. The layouts of the dock link (chapter 11) and its coding (R140): payload fields, payloads built and
read, the frame check, the bits of a frame with stuff bits. -/

namespace Sys2Proof.Machine

/-! ### Fields -/

/-- A number as n bytes, most significant byte first (chapter 11's opening). -/
def beBytes : Nat → Nat → List Byte
  | 0, _ => []
  | n + 1, v => BitVec.ofNat 8 (v / 256 ^ n) :: beBytes n v

/-- The number that bytes spell, most significant byte first. -/
def beValue (bytes : List Byte) : Nat := bytes.foldl (fun v b => v * 256 + b.toNat) 0

/-- The field of a received payload at a place, of a size in bytes (R191). -/
def payloadField (p : List Byte) (place size : Nat) : Nat := beValue ((p.drop place).take size)

/-- The kind byte of a key (section 11.3). -/
def kindCode : KeyKind → Nat
  | .article => 1
  | .serial => 2
  | .provisional => 3

/-- A key: kind byte, then the value as a 6-byte number (section 11.3). -/
def keyBytes (k : Key) : List Byte := beBytes 1 (kindCode k.kind) ++ beBytes 6 k.value

/-- A key field that may be absent: kind byte 0 and value bytes 0 (section 11.3, R191). -/
def optKeyBytes : Option Key → List Byte
  | some k => keyBytes k
  | none => beBytes 7 0

/-- A heard key, if it is usable: kind ARTICLE or SERIAL, value in range (R103, R191). -/
def heardKey (p : List Byte) (place : Nat) : Option Key :=
  let value := payloadField p (place + 1) 6
  match payloadField p place 1 with
  | 1 => if value ≤ 9999999999999 then some ⟨.article, value⟩ else none
  | 2 => if value ≤ 1279999972 then some ⟨.serial, value⟩ else none
  | _ => none

/-- Bits as a number, bit 0 first (flag and presence fields of section 11.3). -/
def bitsValue : List Bool → Nat
  | [] => 0
  | b :: bs => (if b then 1 else 0) + 2 * bitsValue bs

/-! ### Codes -/

/-- Review reason codes (section 11.3). -/
def ReviewReason.code : ReviewReason → Nat
  | .noKey => 1
  | .ambiguous => 2
  | .crowded => 3
  | .overlong => 4
  | .lateReadings => 5
  | .weightAbsent => 6
  | .tableFull => 7
  | .claimsFull => 8
  | .unsettled => 9
  | .claimAbandoned => 10
  | .notActive => 11
  | .calibration => 12

/-- End cause codes (section 11.3). -/
def EndCause.code : EndCause → Nat
  | .complete => 1
  | .short => 2
  | .nextSlip => 3
  | .interrupted => 4

/-- Correction reason codes (section 11.3). -/
def CorrectionReason.code : CorrectionReason → Nat
  | .clash => 1
  | .holdings => 2

/-- Group numbers (section 9.7). -/
def StatusGroup.number : StatusGroup → Nat
  | .sensing => 0
  | .correlation => 1
  | .link => 2

/-- The group a request names; a group above 2 is taken as group 0 (R171). -/
def StatusGroup.ofNumber (n : Nat) : StatusGroup :=
  match n with
  | 1 => .correlation
  | 2 => .link
  | _ => .sensing

/-- Station state codes of STATUS (section 11.3). No STATUS is sampled in the other two states (R144, R172), so their code is never sent. -/
def StationState.code : StationState → Nat
  | .joining => 1
  | .active => 2
  | .configLoad => 0
  | .listenOnly => 0

/-- The kind codes of the frames the station sends (section 11.2). -/
def Body.kindCode : Body → Nat
  | .claim .. => 0x11
  | .commit .. => 0x12
  | .withdraw .. => 0x13
  | .announce .. => 0x14
  | .deposit .. => 0x31
  | .correction .. => 0x32
  | .summary .. => 0x33
  | .status .. => 0x34

/-- The payload length the table of section 11.2 gives a kind code, if it names one. -/
def kindLength (kind : Nat) : Option Nat :=
  match kind with
  | 0x11 => some 14
  | 0x12 => some 13
  | 0x13 => some 12
  | 0x14 => some 5
  | 0x21 => some 12
  | 0x22 => some 3
  | 0x23 => some 2
  | 0x24 => some 0
  | 0x31 => some 27
  | 0x32 => some 12
  | 0x33 => some 18
  | 0x34 => some 44
  | _ => none

/-! ### Payloads (section 11.3, R191) -/

/-- An optional number of n bytes, 0 where absent (R191). -/
def optBytes (n : Nat) (v : Option Nat) : List Byte := beBytes n (v.getD 0)

/-- The 15 count places of a STATUS: its group's counts from the first place, the rest 0 (section 11.3). -/
def countPlaces (counts : List Count) : List Byte :=
  (List.range 15).flatMap (fun i => beBytes 2 ((counts.map BitVec.toNat).getD i 0))

/-- A DEPOSIT payload (section 11.3). -/
def Deposit.payload (d : Deposit) : List Byte :=
  beBytes 2 d.ref.toNat ++
  beBytes 1 (bitsValue [d.consignment.isSome, d.grams.isSome, d.thickness.isSome, d.width.isSome]) ++
  optBytes 4 d.consignment ++ optKeyBytes d.key ++ optBytes 1 d.ordinal ++ beBytes 1 d.chute.val ++
  beBytes 1 ((d.review.map ReviewReason.code).getD 0) ++ beBytes 2 d.flags.toNat ++
  optBytes 2 d.grams ++ optBytes 2 d.thickness ++ optBytes 2 d.width ++ beBytes 2 d.length

/-- A CORRECTION payload (section 11.3). -/
def Correction.payload (c : Correction) : List Byte :=
  beBytes 2 c.ref.toNat ++ keyBytes c.key ++ beBytes 1 c.ordinal ++ beBytes 1 c.reason.code ++ optBytes 1 c.other

/-- A CONSIGNMENT SUMMARY payload (section 11.3). -/
def Summary.payload (c : Summary) : List Byte :=
  beBytes 4 c.number ++ beBytes 3 c.publisher ++ beBytes 2 c.declared ++ beBytes 2 c.counted ++
  beBytes 2 c.identified ++ beBytes 2 c.provisional ++ beBytes 2 c.review ++ beBytes 1 c.cause.code

/-- A STATUS payload (section 11.3); the tare is two's complement. -/
def StatusContents.payload (g : StatusGroup) (c : StatusContents) : List Byte :=
  beBytes 1 c.state.code ++ beBytes 1 g.number ++ beBytes 2 c.flags.toNat ++ beBytes 3 c.tally.toNat ++
  beBytes 1 (bitsValue [c.tare.isSome]) ++ beBytes 2 (BitVec.ofInt 16 (c.tare.getD 0)).toNat ++
  beBytes 2 c.factor ++ beBytes 2 c.version.toNat ++ countPlaces c.counts

/-- The payload of a frame of the transmit queue. A STATUS has its contents by the time it is sent (R172). -/
def Body.payload : Body → List Byte
  | .claim k t r known wanted =>
    keyBytes k ++ beBytes 3 t.toNat ++ beBytes 2 r.toNat ++ beBytes 1 known ++ beBytes 1 (bitsValue [wanted])
  | .commit k t r ordinal => keyBytes k ++ beBytes 3 t.toNat ++ beBytes 2 r.toNat ++ beBytes 1 ordinal
  | .withdraw k t r => keyBytes k ++ beBytes 3 t.toNat ++ beBytes 2 r.toNat
  | .announce t version => beBytes 3 t.toNat ++ beBytes 2 version.toNat
  | .deposit d => d.payload
  | .correction c => c.payload
  | .summary c => c.payload
  | .status g contents =>
    match contents with
    | some c => c.payload g
    | none => beBytes 44 0

/-! ### The frame check (R190) -/

/-- A byte's bits, most significant first (section 8.1). -/
def byteBits (b : Byte) : List Bool :=
  [b.getLsbD 7, b.getLsbD 6, b.getLsbD 5, b.getLsbD 4, b.getLsbD 3, b.getLsbD 2, b.getLsbD 1, b.getLsbD 0]

/-- One bit of the division by x^16 + x^12 + x^5 + 1. -/
def crcStep (r : BitVec 16) (bit : Bool) : BitVec 16 :=
  if r.getLsbD 15 != bit then (r <<< 1) ^^^ 0x1021 else r <<< 1

/-- The remainder over bytes, from 0xFFFF, most significant bit first (R190). -/
def frameCheck (bytes : List Byte) : BitVec 16 := (bytes.flatMap byteBits).foldl crcStep 0xFFFF

/-- The bytes of a received frame that its check covers (R190). -/
def coveredBytes (f : RxFrame) : List Byte :=
  [f.kind, f.source, f.dest, BitVec.ofNat 8 f.payload.length] ++ f.payload

/-- The check matches (R153, R190). -/
def goodFrame (f : RxFrame) : Bool := frameCheck (coveredBytes f) == f.check

/-! ### The frame on the line (section 11.2, R140) -/

/-- The destination: 255, all nodes, for claims and notices; 0, the gateway, for records (section 8.2). -/
def Body.destination : Body → Nat
  | .claim .. => 255
  | .commit .. => 255
  | .withdraw .. => 255
  | .announce .. => 255
  | .deposit .. => 0
  | .correction .. => 0
  | .summary .. => 0
  | .status .. => 0

/-- The bytes the check covers: kind, source, destination, payload length, payload (R190). -/
def Body.covered (source : Nat) (b : Body) : List Byte :=
  beBytes 1 b.kindCode ++ beBytes 1 source ++ beBytes 1 b.destination ++ beBytes 1 b.payload.length ++ b.payload

/-- The lead: 0x55, then 0x5D (section 11.2). -/
def leadBytes : List Byte := [0x55, 0x5D]

/-- The lead's 16 bits, the first of them dominant (R190). -/
def leadBits : List Bool := leadBytes.flatMap byteBits

/-- A frame's bytes in the order sent: lead, the covered bytes, check (section 11.2). -/
def Body.frameBytes (source : Nat) (b : Body) : List Byte :=
  leadBytes ++ b.covered source ++ beBytes 2 (frameCheck (b.covered source)).toNat

/-- Insert stuff bits: after every run of 7 equal bits, stuff bits counted, one bit of the opposite state (R140).
`last` is the last bit put on the line and `run` the length of its run so far. -/
def stuffFrom : Bool → Nat → List Bool → List Bool
  | _, _, [] => []
  | last, run, b :: bs =>
    let run' := if b = last then run + 1 else 1
    if run' = 7 then b :: (!b) :: stuffFrom (!b) 1 bs else b :: stuffFrom b run' bs

/-- The coded bits of a frame, stuffing from the first bit of the lead to the last bit of the check (R140). -/
def stuff (bits : List Bool) : List Bool := stuffFrom true 0 bits

/-- One bit of the line as a receiver takes it behind a run of `run` bits `last`: none at a run of 8 equal bits, a line error
(R153); otherwise the frame's bit, none where it is a stuff bit, which is removed (R140), and the run's new length. -/
def takeBit (last : Bool) (run : Nat) (b : Bool) : Option (Option Bool × Nat) :=
  if run = 7 then
    if b = last then none else some (none, 1)
  else some (some b, if b = last then run + 1 else 1)

/-- Remove stuff bits as a receiver does; none at a line error (R140, R153). -/
def unstuffFrom : Bool → Nat → List Bool → Option (List Bool)
  | _, _, [] => some []
  | last, run, b :: bs =>
    match takeBit last run b with
    | none => none
    | some (none, run') => unstuffFrom b run' bs
    | some (some x, run') => (unstuffFrom b run' bs).map (x :: ·)

/-- The bits of a frame from its coded bits, or none at a line error. -/
def unstuff (bits : List Bool) : Option (List Bool) := unstuffFrom true 0 bits

/-- The coded bits an attempt puts on the line (R140, R190). A dominant bit is 0, a recessive bit 1. -/
def Body.lineBits (source : Nat) (b : Body) : List Bool := stuff ((b.frameBytes source).flatMap byteBits)

/-! ### Reception (R153) -/

/-- What taking so many bits of a frame from the line comes to: a line error; a line that has not sent them all; or the
bits, with the run the receiver stands behind and the line's bits not yet taken. -/
inductive Taking where
  | lineError
  | unfinished
  | taken (bits : List Bool) (last : Bool) (run : Nat) (rest : List Bool)
deriving DecidableEq, Repr

/-- The same with a bit taken before. -/
def Taking.cons (b : Bool) : Taking → Taking
  | .lineError => .lineError
  | .unfinished => .unfinished
  | .taken bits last run rest => .taken (b :: bits) last run rest

/-- Take n bits of a frame, bit by bit, removing stuff bits (R140, R153). -/
def takeBits : Nat → Bool → Nat → List Bool → Taking
  | 0, last, run, line => .taken [] last run line
  | _ + 1, _, _, [] => .unfinished
  | n + 1, last, run, b :: line =>
    match takeBit last run b with
    | none => .lineError
    | some (none, run') => takeBits (n + 1) b run' line
    | some (some x, run') => (takeBits n b run' line).cons x

/-- The byte at a place of a frame's bits, most significant bit first (section 8.1). -/
def byteAt (bits : List Bool) (place : Nat) : Byte := BitVec.ofNat 8 (msbValue ((bits.drop (8 * place)).take 8))

/-- A frame from the bits of its header and of its payload and check (section 11.2). -/
def frameOf (header body : List Bool) (length : Nat) : RxFrame :=
  { kind := byteAt header 0, source := byteAt header 1, dest := byteAt header 2
    payload := (List.range length).map (byteAt body)
    check := BitVec.ofNat 16 (msbValue (body.drop (8 * length))) }

/-- The line behind a lead, if the receiver recognises one: at least 4 recessive bit times, then the lead's 16 bits (R153, R190).
The first dominant bit is the first bit that can begin a lead. -/
def afterLead (line : List Bool) : Option (List Bool) :=
  let heard := line.dropWhile id
  if Config.leadGap ≤ (line.takeWhile id).length ∧ heard.take 16 = leadBits then some (heard.drop 16) else none

/-- What the line's bits come to: no lead in front, so that nothing is taken; a line error; a whole frame, whose check is still to be
compared; or none of these yet (R153, R190). -/
inductive Ending where
  | noLead
  | lineError
  | unfinished
  | frame (f : RxFrame)
deriving DecidableEq, Repr

/-- The rest of a frame behind its lead: the header, then, if its payload length is at most 48, payload and check (R153, R190).
The lead ends in a single recessive bit (0x5D), so the receiver starts behind a run of one. -/
def takeFrame (line : List Bool) : Ending :=
  match takeBits 32 true 1 line with
  | .lineError => .lineError
  | .unfinished => .unfinished
  | .taken header last run rest =>
    let length := (byteAt header 3).toNat
    if Config.payloadLimit < length then .lineError
    else
      match takeBits (8 * length + 16) last run rest with
      | .lineError => .lineError
      | .unfinished => .unfinished
      | .taken body _ _ _ => .frame (frameOf header body length)

/-- A reception, from the recessive bit times before the lead on: the lead is recognised by its bits, and the frame taken behind it. -/
def receive (line : List Bool) : Ending :=
  match afterLead line with
  | none => .noLead
  | some rest => takeFrame rest

/-! ### Delivery (R156, R157) -/

/-- Where a frame taken from the receive queue goes. -/
inductive Delivery where
  | claim
  | commit
  | withdraw
  | announce
  | holdings
  | statusRequest
  | calibrate
  | restart
  | misdirected
  | malformed
  | unaddressed
deriving DecidableEq, Repr

/-- A CLAIM, COMMIT or WITHDRAW is delivered from source 0 (and found unusable, R103) and from stations 1..31 (R156). -/
def stationKind (source : Nat) (d : Delivery) : Delivery := if source ≤ 31 then d else .misdirected

/-- A request is delivered from the gateway to this station, misdirected from another source to this station, and
otherwise not addressed to it; a station with no id is addressed by none (R156). -/
def requestKind (own : Option Nat) (source dest : Nat) (d : Delivery) : Delivery :=
  if own = some dest then (if source = 0 then d else .misdirected) else .unaddressed

/-- R156's table, after R157's test of kind and payload length. -/
def classify (own : Option Nat) (f : RxFrame) : Delivery :=
  if kindLength f.kind.toNat ≠ some f.payload.length then .malformed
  else
    match f.kind.toNat with
    | 0x11 => stationKind f.source.toNat .claim
    | 0x12 => stationKind f.source.toNat .commit
    | 0x13 => stationKind f.source.toNat .withdraw
    | 0x14 => if f.source.toNat = 0 then .misdirected else stationKind f.source.toNat .announce
    | 0x21 => if f.source.toNat = 0 then .holdings else .misdirected
    | 0x22 => requestKind own f.source.toNat f.dest.toNat .statusRequest
    | 0x23 => requestKind own f.source.toNat f.dest.toNat .calibrate
    | 0x24 => requestKind own f.source.toNat f.dest.toNat .restart
    | _ => .unaddressed

end Sys2Proof.Machine
end

