-- ==== Sys2Proof/Machine/Operands.lean ====
section
/-! DEFINITION. What the symbols of a head packet say: characters and codes (chapter 3), raw samples (R55), gauge pairs
(R71); and the exact arithmetic of weighing (R60 to R62, R64, R66, R69). -/

namespace Sys2Proof.Machine

/-! ### Characters and codes (R40 to R46) -/

/-- The digit a data symbol carries; a top bit set makes the character unknown (R40). -/
def digitOf (s : Symbol) : Option Nat :=
  if 0x30 ≤ s.toNat ∧ s.toNat ≤ 0x39 then some (s.toNat - 0x30) else none

/-- The digits of a run of symbols, if every one is a digit. -/
def digitsOf : List Symbol → Option (List Nat)
  | [] => some []
  | s :: rest =>
    match digitOf s, digitsOf rest with
    | some d, some ds => some (d :: ds)
    | _, _ => none

/-- A digit group read as a decimal number, leftmost digit first (R43, R46). -/
def decimal (digits : List Nat) : Nat := digits.foldl (fun v d => v * 10 + d) 0

/-- The decimal value of the digits at a place of a code. -/
def decimalAt (digits : List Nat) (place size : Nat) : Nat := decimal ((digits.drop place).take size)

/-- The weighted sum of a 13-digit code: weights 1 and 3 in turn from the left (R41). -/
def articleSum (digits : List Nat) : Nat :=
  ((digits.take 13).zipIdx.map (fun p => if p.2 % 2 = 0 then p.1 else 3 * p.1)).sum

/-- The weighted sum of the first seven digits of an 8-character code: weights 8 down to 2 (R42). -/
def serialSum (digits : List Nat) : Nat := ((digits.take 7).zipIdx.map (fun p => (8 - p.2) * p.1)).sum

/-- The value of the eighth character: a digit, or X for 10 (R40, R42). -/
def checkValueOf (s : Symbol) : Option Nat := if s.toNat = 0x58 then some 10 else digitOf s

/-- The key of a valid 13-digit code: SERIAL for a code beginning 977 (R44), ARTICLE otherwise (R46). -/
def articleKey (digits : List Nat) (issue : Nat) : Key :=
  if decimalAt digits 0 3 = 977 then ⟨.serial, decimalAt digits 3 7 * 128 + issue⟩
  else ⟨.article, decimalAt digits 0 13⟩

/-- The verdict on a 13-digit reading with an add-on of a given length, subtypes 1 to 3 (R40, R41, R44, R46). Only a
2-digit add-on gives the issue; otherwise it is 100. -/
def articleVerdict (addOn : Nat) (symbols : List Symbol) : Verdict :=
  match digitsOf symbols with
  | none => .misread
  | some digits =>
    if digits.length = 13 + addOn ∧ articleSum digits % 10 = 0 then
      .valid (articleKey digits (if addOn = 2 then decimalAt digits 13 2 else 100))
    else .misread

/-- The verdict on an 8-character reading, subtypes 4 and 5 (R40, R42, R45). -/
def serialVerdict (addOn : Nat) (symbols : List Symbol) : Verdict :=
  match digitsOf (symbols.take 7), (symbols[7]?).bind checkValueOf, digitsOf (symbols.drop 8) with
  | some base, some check, some issue =>
    if symbols.length = 8 + addOn ∧ check = (11 - serialSum base % 11) % 11 then
      .valid ⟨.serial, decimal base * 128 + (if addOn = 2 then decimal issue else 100)⟩
    else .misread
  | _, _, _ => .misread

/-- The verdict on an alphanumeric reading, subtype 6: a slip, or a misread (R43). -/
def slipVerdict (symbols : List Symbol) : Verdict :=
  match digitsOf (symbols.drop 2) with
  | none => .misread
  | some digits =>
    if symbols.length = 19 ∧ (symbols.take 2).map BitVec.toNat = [0x44, 0x53] then
      .slip { number := decimalAt digits 0 8, declared := decimalAt digits 8 4, publisher := decimalAt digits 12 5 }
    else .misread

/-- The verdict on a reading, by its subtype (R39, R40). -/
def verdictOf (subtype : Byte) (symbols : List Symbol) : Verdict :=
  match subtype.toNat with
  | 1 => articleVerdict 0 symbols
  | 2 => articleVerdict 2 symbols
  | 3 => articleVerdict 5 symbols
  | 4 => serialVerdict 0 symbols
  | 5 => serialVerdict 2 symbols
  | 6 => slipVerdict symbols
  | _ => .misread

/-- What R49 finds from the two slots. -/
inductive Reconciled where
  | keyed (key : Key)
  | slip (slip : Slip)
  | unidentified
  | ambiguous
deriving DecidableEq, Repr

/-- R49's table: the verdicts in the two slots, in either order. -/
def reconcile (a b : Option Verdict) : Reconciled :=
  match a, b with
  | some (.valid k), some (.valid k') => if k = k' then .keyed k else .ambiguous
  | some (.slip x), some (.slip y) => if x = y then .slip x else .ambiguous
  | some (.valid _), some (.slip _) => .ambiguous
  | some (.slip _), some (.valid _) => .ambiguous
  | some (.valid k), _ => .keyed k
  | _, some (.valid k) => .keyed k
  | some (.slip x), _ => .slip x
  | _, some (.slip x) => .slip x
  | _, _ => .unidentified

/-! ### Samples and gauge pairs (R55, R71) -/

/-- The raw samples of a scale packet: one signed symbol each in narrow mode, two symbols each in wide mode, low byte
first, top two bits ignored (R55). -/
def samplesOf (wide : Bool) : List Symbol → List Int
  | [] => []
  | [s] => if wide then [] else [s.toInt]
  | s :: t :: rest =>
    if wide then (BitVec.ofNat 16 (t.toNat % 256 * 256 + s.toNat % 256)).toInt :: samplesOf wide rest
    else s.toInt :: samplesOf wide (t :: rest)

/-- The pairs of a gauge packet: thickness, then width (R71). -/
def pairsOf : List Symbol → List (Nat × Nat)
  | t :: w :: rest => (t.toNat, w.toNat) :: pairsOf rest
  | _ => []

/-- A maximum meets a value; an absent maximum takes it (R71). -/
def raiseMax (m : Option Nat) (v : Nat) : Option Nat :=
  match m with
  | none => some v
  | some x => some (max x v)

/-! ### Weighing (R60 to R62) -/

/-- The filtered values: floor of a weighted mean of neighbours, the missing neighbour mirrored at each end (R60).
`/` on Int with a positive divisor is floor. -/
def filtered (xs : List Int) : List Int :=
  (List.range xs.length).map (fun i =>
    let before := if i = 0 then xs.getD 1 0 else xs.getD (i - 1) 0
    let after := if i + 1 = xs.length then xs.getD (xs.length - 2) 0 else xs.getD (i + 1) 0
    (before + 2 * xs.getD i 0 + after + 2) / 4)

/-- The last S of a list of values. -/
def lastOf (n : Nat) (ys : List Int) : List Int := ys.drop (ys.length - n)

/-- Largest less smallest of a list of values (R61). -/
def spreadOf : List Int → Int
  | [] => 0
  | y :: ys => ys.foldl max y - ys.foldl min y

/-- The mean of n values rounded to the nearest whole count, a tie going toward plus infinity (R62, R64). -/
def roundedMean (ys : List Int) : Int := (2 * ys.sum + ys.length) / (2 * ys.length)

/-- What a computation gives: its weight record and its net (R61, R62). -/
def computeWeight (settleCount settleBand : Nat) (c : Computation) (samples : List Int) : WeightRecord × Int :=
  let settled := lastOf settleCount (filtered samples)
  let spread := decide ((settleBand : Int) < spreadOf settled)
  let net := roundedMean settled - c.tare
  if net ≤ 0 then (.present 0 spread true, net)
  else (.present (min 65535 ((net * c.factor + 512) / 1024).toNat) spread false, net)

/-- The new scale factor of a calibration, if it lies in 1..65535 (R69). -/
def calibratedFactor (grams : Nat) (net : Int) : Option Nat :=
  let f := (grams * 1024 + net / 2) / net
  if 0 < net ∧ 1 ≤ f ∧ f ≤ 65535 then some f.toNat else none

/-! ### Tare (R64, R66) -/

/-- What an empty packet's mean does: the tare and rejected-run count after it, whether it was rejected, and whether it
re-zeroed the scale (R64, R66). -/
structure TareStep where
  tare : Int
  run : Nat
  rejected : Bool
  rezeroed : Bool
deriving DecidableEq, Repr

/-- One empty packet with mean m against the tare held (R64, R66). -/
def tareStep (limit : Nat) (tare : Option Int) (run : Nat) (m : Int) : TareStep :=
  match tare with
  | none => { tare := m, run := run, rejected := false, rezeroed := false }
  | some t =>
    if (m - t).natAbs ≤ limit then
      { tare := t + (m - t).tdiv 8, run := 0, rejected := false, rezeroed := false }
    else if run + 1 = 4 then { tare := m, run := 0, rejected := true, rezeroed := true }
    else { tare := t, run := run + 1, rejected := true, rezeroed := false }

/-- The difference of two numbers, without sign (R84). -/
def absDiff (a b : Nat) : Nat := (a - b) + (b - a)

end Sys2Proof.Machine
end

