-- ==== Sys2Proof/Machine/Heads.lean ====
section
/-! DEFINITION. The Head Receivers: FIFO, framer, sequence test (chapter 2). -/

namespace Sys2Proof.Machine

/-- The number of one bits in a type code, modulo 4: its type check (section 2.3). -/
def typeCheck (code : Byte) : Nat := (((List.range 8).filter (fun i => code.getLsbD i)).length) % 4

/-- The type code of a type symbol: its low eight bits (section 11.1). -/
def typeCodeOf (s : Symbol) : Byte := BitVec.ofNat 8 s.toNat

/-- A line is disabled when its accept value has a one bit where its mask has a zero (R27). -/
def lineDisabled (c : Settings) (h : Head) : Bool := c.acceptValue.get h &&& ~~~(c.acceptMask.get h) != 0

/-- The type symbol is qualified on the line (R27). -/
def qualified (c : Settings) (h : Head) (s : Symbol) : Bool :=
  s.toNat / 256 == typeCheck (typeCodeOf s) &&
    typeCodeOf s &&& c.acceptMask.get h == c.acceptValue.get h &&& c.acceptMask.get h

/-- The count passes the limit and the rule of the line (R29). -/
def countAllowed (c : Settings) (h : Head) (typeCode : Byte) (n : Nat) : Bool :=
  match h with
  | .reader0 | .reader1 => decide (0x80 ≤ typeCode.toNat) && decide (1 ≤ n) && decide (n ≤ 40)
  | .scale => decide (typeCode.toNat < 0x80) && decide (n ≤ 60) && (!c.wide || n % 2 == 0)
  | .gauge => decide (typeCode.toNat < 0x80) && decide (n ≤ 60) && n % 2 == 0

/-- One symbol taken in HUNT (R26). -/
def huntStep (progress : LeadProgress) (s : Symbol) : Framer :=
  match progress with
  | .zero => if s = 0x3FF then .hunt .one else .hunt .zero
  | .one => if s = 0x3FF then .hunt .one else if s = 0x000 then .hunt .two else .hunt .zero
  | .two => if s = 0x3FF then .type else .hunt .zero

/-- A head format error: counted and flagged (R36). -/
def Station.formatError (s : Station) : Station :=
  { s with headCounts := { s.headCounts with formatErrors := s.headCounts.formatErrors + 1 } }.raise .headFormatError

/-- Change one line's receiver. -/
def Station.withReceiver (h : Head) (r : Receiver) (s : Station) : Station :=
  { s with receivers := s.receivers.set h r }

/-- The packet's sequence number leaves a gap after the line's last (R33). -/
def sequenceGap (last : Option Byte) (n : Byte) : Bool :=
  match last with
  | none => false
  | some l => n != l + 1

/-- Count a sequence gap on its line (R33). -/
def Station.countGap (h : Head) (s : Station) : Station :=
  match h with
  | .scale => { s with headCounts := { s.headCounts with scaleGaps := s.headCounts.scaleGaps + 1 } }
  | .gauge => { s with headCounts := { s.headCounts with gaugeGaps := s.headCounts.gaugeGaps + 1 } }
  | .reader0 | .reader1 => s

/-- The line makes the sequence test (R33). -/
def sequenced (h : Head) : Bool :=
  match h with
  | .scale | .gauge => true
  | .reader0 | .reader1 => false

/-- An accepted packet: stamped with P, tested for a gap, held in HAND-OVER (R31, R33). -/
def Station.acceptPacket (h : Head) (r : Receiver) (typeCode second : Byte) (count : Nat) (symbols : List Symbol)
    (s : Station) : Station :=
  let gap := sequenced h && sequenceGap r.lastSequence second
  let packet : Packet :=
    { typeCode := typeCode, second := second, count := count, symbols := symbols, stamp := s.lane.pos
      gapMark := gap && decide (h = .scale) }
  let r' : Receiver :=
    { r with framer := .handOver packet, lastSequence := if sequenced h then some second else r.lastSequence }
  let s1 := s.withReceiver h r'
  if gap then s1.countGap h else s1

/-- One symbol taken by the framer in its state, its overrun mark already dealt with (R26 to R31). `r` is the
receiver with the symbol gone from its FIFO. -/
def Station.frameSymbol (h : Head) (r : Receiver) (sym : Symbol) (s : Station) : Station :=
  match r.framer with
  | .hunt p => s.withReceiver h { r with framer := huntStep p sym }
  | .type =>
    if qualified s.cfg h sym then s.withReceiver h { r with framer := .second (typeCodeOf sym) sym }
    else s.withReceiver h { r with framer := huntStep .zero sym }
  | .second t sum => s.withReceiver h { r with framer := .count t (BitVec.ofNat 8 sym.toNat) (sum + sym) }
  | .count t n sum =>
    if countAllowed s.cfg h t sym.toNat then
      if sym.toNat = 0 then s.withReceiver h { r with framer := .check t n 0 [] (sum + sym) }
      else s.withReceiver h { r with framer := .data t n sym.toNat [] sym.toNat (sum + sym) }
    else (s.withReceiver h { r with framer := .hunt .zero }).formatError
  | .data t n count symbols remaining sum =>
    if remaining ≤ 1 then s.withReceiver h { r with framer := .check t n count (symbols ++ [sym]) (sum + sym) }
    else s.withReceiver h { r with framer := .data t n count (symbols ++ [sym]) (remaining - 1) (sum + sym) }
  | .check t n count symbols sum =>
    if sym = sum then s.acceptPacket h r t n count symbols
    else (s.withReceiver h { r with framer := .hunt .zero }).formatError
  | .handOver _ => s

/-- The framer reaches a symbol with an overrun mark: a packet in assembly is spoiled, and the lead progress returns to
0 (R32). -/
def Station.overrunGap (r : Receiver) (s : Station) : Station × Receiver :=
  match r.framer with
  | .hunt _ => (s, { r with framer := .hunt .zero })
  | .handOver _ => (s, r)
  | .type | .second .. | .count .. | .data .. | .check .. => (s.formatError, { r with framer := .hunt .zero })

/-- FRAMER_TAKE_SYMBOL: the front symbol of a line's FIFO, in any state but HAND-OVER (R25). -/
def Station.framerTake (h : Head) (s : Station) : Station :=
  let r := s.receivers.get h
  match r.framer, r.fifo with
  | .handOver _, _ => s
  | _, [] => s
  | _, x :: rest =>
    let r1 := { r with fifo := rest }
    if x.overrun then
      let g := s.overrunGap r1
      g.1.frameSymbol h g.2 x.symbol
    else s.frameSymbol h r1 x.symbol

/-- HEAD_SYMBOL_ARRIVAL: discarded in CONFIG LOAD and on a disabled line, stored while there is room, otherwise dropped
with an overrun mark armed (R23, R24). -/
def Station.symbolArrives (h : Head) (sym : Symbol) (s : Station) : Station :=
  if !s.ready || lineDisabled s.cfg h then s
  else
    let r := s.receivers.get h
    if r.fifo.length < Config.fifoCapacity then
      s.withReceiver h { r with fifo := r.fifo ++ [⟨sym, r.markArmed⟩], markArmed := false }
    else
      let s1 := s.withReceiver h { r with markArmed := true }
      { s1 with headCounts := { s1.headCounts with overruns := s1.headCounts.overruns + 1 } }.raise .headOverrun

/-- A lane restart at one receiver (R38). -/
def Receiver.restarted : Receiver :=
  { fifo := [], markArmed := false, framer := .hunt .zero, lastSequence := none }

end Sys2Proof.Machine
end

