-- ==== Sys2Proof/Machine/Queue.lean ====
section
/-! DEFINITION. The transmit queue and what is offered to it: classes, offers and refusals (R141, R142), the Record
Builder's placing of records and its overflow slot (R166 to R168), the ANNOUNCE (R183, R184), and what each departure
from the queue sets off. -/

namespace Sys2Proof.Machine

/-- The three classes (section 8.2). -/
inductive FrameClass where
  | claim
  | notice
  | record
deriving DecidableEq, Repr

/-- A frame's class is fixed by its kind (R141). -/
def Body.cls : Body → FrameClass
  | .claim .. => .claim
  | .commit .. => .notice
  | .withdraw .. => .notice
  | .announce .. => .notice
  | .deposit .. => .record
  | .correction .. => .record
  | .summary .. => .record
  | .status .. => .record

/-- The queue has room for one more frame (R141). -/
def Station.txRoom (s : Station) : Bool := decide (s.link.txQueue.length < Config.txCapacity)

/-- A frame joins the queue: READY, attempt count 0, at the back (R141). -/
def Station.txPush (b : Body) (s : Station) : Station :=
  { s with link := { s.link with
      txQueue := s.link.txQueue ++ [{ body := b, attempts := 0, standing := .ready, takenBack := false }] } }

/-- Count an abandon (R158). -/
def Station.countAbandon (s : Station) : Station :=
  { s with link := { s.link with counts := { s.link.counts with abandons := s.link.counts.abandons + 1 } } }

/-- Offer a notice: it joins, or is dropped with TX ABANDON set and an abandon counted (R142). -/
def Station.offerNotice (b : Body) (s : Station) : Station :=
  if s.txRoom then s.txPush b else s.countAbandon.raise .txAbandon

/-- Offer a WITHDRAW, counted whether taken or refused (R136). -/
def Station.offerWithdraw (k : Key) (t : Tally) (ref : ItemRef) (s : Station) : Station :=
  let s1 := { s with claims := { s.claims with
      counts := { s.claims.counts with withdrawals := s.claims.counts.withdrawals + 1 } } }
  s1.offerNotice (.withdraw k t ref)

/-- Offer an ANNOUNCE with T and the configuration version as they stand; refused, it waits for the next departure (R183, R184). -/
def Station.offerAnnounce (s : Station) : Station :=
  let standing : AnnounceStanding := if s.txRoom then .queued else .waiting
  let s1 := s.offerNotice (.announce s.claims.tally s.cfg.version)
  { s1 with startup := { s1.startup with announce := standing } }

/-! ### Records (R167) -/

/-- What becomes of a record other than a DEPOSIT (R167). -/
inductive Placing where
  | queued
  | slotted
  | lost
deriving DecidableEq, Repr

/-- Where a record offered now would go (R167). -/
def Station.placing (s : Station) : Placing :=
  if s.txRoom then .queued else if s.records.overflow = none then .slotted else .lost

/-- Offer a CORRECTION, CONSIGNMENT SUMMARY or STATUS (R167). -/
def Station.offerRecord (b : Body) (s : Station) : Station :=
  match s.placing with
  | .queued => s.txPush b
  | .slotted => { s with records := { s.records with overflow := some b } }
  | .lost => { s with records := { s.records with
      counts := { s.records.counts with lost := s.records.counts.lost + 1 } } }

/-- A record that is not built in LISTEN-ONLY (R169, R170, R176). -/
def Station.buildRecord (b : Body) (s : Station) : Station := if s.listening then s else s.offerRecord b

/-- A DEPOSIT's flag bits, from bit 0 (section 11.3). -/
def Item.depositFlags (i : Item) : BitVec 10 :=
  BitVec.ofNat 10 (bitsValue [i.crowded, i.overlong, i.misread, i.ranked, i.holdingsUnconfirmed, i.unconfirmed,
    i.misdiverted, i.unsteady, i.gap, i.belowTare])

/-- The DEPOSIT record of an item as it stands (R166). A departed item has its trailing position and its chute. -/
def Item.deposit (i : Item) : Deposit :=
  { ref := i.ref, consignment := i.consignment, key := i.key
    ordinal := if i.corr = .committed then i.ordinal else none
    chute := i.chute.getD 0, review := i.review, flags := i.depositFlags
    grams := i.grams, thickness := i.thickness, width := i.width
    length := dist i.lead (i.trail.getD i.lead) }

/-- Offer a departed item's DEPOSIT: it enters the queue and the item is removed; or it is held in the overflow slot and
the item stays, its DEPOSIT held; or, with the slot occupied, it is not built (R18, R167). `flagged` is as in `removeItem`. -/
def Station.offerDeposit (i : Item) (flagged : Bool) (s : Station) : Station :=
  match s.placing with
  | .queued => (s.txPush (.deposit i.deposit)).removeItem i.ref flagged
  | .slotted =>
    { s with records := { s.records with overflow := some (.deposit i.deposit) } }.modifyItem i.ref
      (fun x => { x with depositHeld := true })
  | .lost => s

/-- The oldest departed item still in the Item Queue (R18). -/
def Station.oldestDeparted (s : Station) : Option Item := s.lane.queue.find? (fun i => i.departed)

/-- The item of a DEPOSIT that has just entered the queue from the overflow slot is removed, if it is still there (R168): an item
of the same ref whose own DEPOSIT the slot did not hold is another one, created after a lane restart took that item. -/
def Station.removeDeposited (b : Body) (flagged : Bool) (s : Station) : Station :=
  match b with
  | .deposit d =>
    match s.findItem d.ref with
    | some i => if i.depositHeld then s.removeItem d.ref flagged else s
    | none => s
  | _ => s

/-- The overflow slot's record moves into the room, and the oldest departed item still waiting is offered (R168). A
lane restart offers none, since it builds no DEPOSIT for the items it removes (R22, R160). -/
def Station.moveOverflow (restarting : Bool) (s : Station) : Station :=
  match s.records.overflow with
  | none => s
  | some b =>
    if s.txRoom then
      let s1 := ({ s with records := { s.records with overflow := none } }.txPush b).removeDeposited b (!restarting)
      if restarting then s1
      else match s1.oldestDeparted with
        | some i => s1.offerDeposit i true
        | none => s1
    else s

/-- A departure from the transmit queue is reported: first to the Record Builder, whose slot takes the room before any
other offer (R168), then to the Start-up Controller, which offers a waiting ANNOUNCE (R184). -/
def Station.roomReport (restarting : Bool) (s : Station) : Station :=
  let s1 := s.moveOverflow restarting
  if s1.startup.announce = .waiting then s1.offerAnnounce else s1

/-- The frame ON LINE, if any (R141). -/
def Station.onLine (s : Station) : Option TxFrame := s.link.txQueue.find? (fun f => f.standing = Standing.onLine)

/-- The frame ON LINE leaves the queue, and the room is reported (R141). -/
def Station.departOnLine (s : Station) : Station :=
  { s with link := { s.link with
      txQueue := s.link.txQueue.eraseP (fun f => f.standing = Standing.onLine) } }.roomReport false

/-- The frame is the CLAIM of an item, not yet taken back. -/
def TxFrame.isClaimOf (ref : ItemRef) (f : TxFrame) : Bool :=
  match f.body with
  | .claim _ _ r _ _ => decide (r = ref) && !f.takenBack
  | _ => false

/-- Take an item's CLAIM back: a frame waiting leaves the queue at once, uncounted; a frame ON LINE is marked and its
attempt runs on to its end (R151). -/
def Station.takeBack (ref : ItemRef) (restarting : Bool) (s : Station) : Station :=
  match s.link.txQueue.find? (fun f => f.isClaimOf ref) with
  | none => s
  | some f =>
    if f.standing = .onLine then
      { s with link := { s.link with
          txQueue := s.link.txQueue.map (fun g => if g.isClaimOf ref then { g with takenBack := true } else g) } }
    else
      { s with link := { s.link with
          txQueue := s.link.txQueue.eraseP (fun g => g.isClaimOf ref) } }.roomReport restarting

end Sys2Proof.Machine
end

