-- ==== Sys2Proof/Machine/Table.lean ====
section
/-! DEFINITION. The Correlation Table (chapter 6): claim order, the pending claim list, entries in touch order,
creation with eviction, own writes. What a change sets off at the Claim Engine is in Machine/Claims.lean. -/

namespace Sys2Proof.Machine

/-! ### Claim order (R92) -/

/-- Claim a, with its tally, station id and item ref, is before claim b (R92). -/
def claimBefore (ta : Tally) (sa : Nat) (ra : ItemRef) (tb : Tally) (sb : Nat) (rb : ItemRef) : Bool :=
  let d := (tb - ta).toNat
  (decide (1 ≤ d) && decide (d ≤ 8388607)) ||
  (decide (d = 0) && decide (sa < sb)) ||
  (decide (d = 8388608) && decide (sa < sb)) ||
  (decide (sa = sb) && (decide (d = 0) || decide (d = 8388608)) && decide (ra.toNat < rb.toNat))

/-- Claim order on claims. -/
def Claim.before (a b : Claim) : Bool := claimBefore a.tally a.station a.ref b.tally b.station b.ref

/-- A claim as plain numbers. -/
def Claim.numbers (c : Claim) : Nat × Nat × Nat := (c.tally.toNat, c.station, c.ref.toNat)

/-! ### The pending claim list (R93, R94) -/

/-- Claims in claim order, first claim first, wherever they can be put so that each is before all behind it (R93). Claims of which
some stand in a cycle have no such order, and they keep the one they stand in (notes/assumptions/3.md). -/
def inClaimOrder (l : List Claim) : List Claim :=
  let sorted := l.insertionSort (fun a b => a.before b = true)
  if sorted.Pairwise (fun a b => a.before b = true) then sorted else l

/-- The place claim order gives a newcomer: behind the claims before it and ahead of those after it (R93). Where no
place does both, the manual states none, and the place is free (notes/assumptions/3.md). -/
def claimPlace (c : Claim) (l : List Claim) : Nat :=
  let k := (l.filter (fun x => x.before c)).length
  if (l.take k).all (fun x => x.before c) && (l.drop k).all (fun x => c.before x) then k
  else Config.unorderedPlace (l.map Claim.numbers) c.numbers % (l.length + 1)

/-- The newcomer inserted at its place, the list in claim order where it has one (R93). -/
def insertClaim (c : Claim) (l : List Claim) : List Claim :=
  inClaimOrder (l.take (claimPlace c l) ++ c :: l.drop (claimPlace c l))

/-- The latest non-own claim of some in claim order: the one that every other non-own claim is before (R93). Where each has another
after it, which claims more than 2^23 apart allow, the manual names none, and which one is taken is free
(notes/assumptions/3.md). None if every claim is own. -/
def latestNonOwn (l : List Claim) : Option Claim :=
  let others := l.filter (fun c => !c.own)
  match others.find? (fun c => others.all (fun a => a == c || a.before c)) with
  | some c => some c
  | none => others[Config.unorderedLatest (others.map Claim.numbers) % others.length]?

/-- Insertion into a list of at most 6. A full list and the newcomer, seven together, give up their latest non-own claim: the list is
unchanged if that is the newcomer, and otherwise loses that claim and takes the newcomer at its place (R93). The flag says
whether a claim was dropped. A full list of own claims takes no further own claim; the Claim Engine offers none (R119). -/
def insertLimited (c : Claim) (l : List Claim) : List Claim × Bool :=
  if l.length < Config.claimCapacity then (insertClaim c l, false)
  else
    match latestNonOwn (c :: l) with
    | none => (l, false)
    | some x => (if x = c then l else insertClaim c (inClaimOrder (l.erase x)), true)

/-- A claim names its sender's station id and item ref (R93). -/
def Claim.isOf (station : Nat) (ref : ItemRef) (c : Claim) : Bool := decide (c.station = station) && decide (c.ref = ref)

/-- Remove the claims a test selects, those that stay in claim order where they have one (R93): with a claim of a cycle gone they
may have one they had not before. The overfull flag is cleared when the list becomes empty (R94). -/
def Entry.removeClaims (p : Claim → Bool) (e : Entry) : Entry :=
  let l := inClaimOrder (e.pending.filter (fun c => !p c))
  { e with pending := l, overfull := e.overfull && !l.isEmpty }

/-- Insert a claim by R93, setting overfull if one was dropped (R94). -/
def Entry.insert (c : Claim) (e : Entry) : Entry × Bool :=
  let r := insertLimited c e.pending
  ({ e with pending := r.1, overfull := e.overfull || r.2 }, r.2)

/-- The entry holds an own claim. -/
def Entry.holdsOwn (e : Entry) : Bool := e.pending.any (fun c => c.own)

/-- Add a record to the own committed list: one of the same item ref is dropped first; otherwise the oldest of four (R97). -/
def Entry.addRecord (r : CommitRecord) (e : Entry) : Entry :=
  let l := e.ownCommitted.filter (fun x => x.ref ≠ r.ref)
  let l' := if l.length < Config.committedCapacity then l else l.drop (l.length + 1 - Config.committedCapacity)
  { e with ownCommitted := l' ++ [r] }

/-! ### Entries (R91, R98) -/

/-- A lookup finds an entry by key equality alone (R91). -/
def Station.entry (k : Key) (s : Station) : Option Entry := s.table.entries.find? (fun e => e.key = k)

/-- Change the entry of a key in its place: no touch (R98). -/
def Station.modifyEntry (k : Key) (f : Entry → Entry) (s : Station) : Station :=
  { s with table := { s.table with entries := s.table.entries.map (fun e => if e.key = k then f e else e) } }

/-- Touch the entry of a key: it moves to the most recent end (R98). -/
def Station.touch (k : Key) (s : Station) : Station :=
  match s.entry k with
  | none => s
  | some e => { s with table := { s.table with entries := s.table.entries.eraseP (fun x => x.key = k) ++ [e] } }

/-- Write an entry and touch it (R98). -/
def Station.writeEntry (k : Key) (f : Entry → Entry) (s : Station) : Station := (s.modifyEntry k f).touch k

/-- The entry is pinned: an item in the Item Queue holds its key, or an own claim stands in its list (R100). -/
def Station.pinned (s : Station) (e : Entry) : Bool :=
  s.lane.queue.any (fun i => i.key == some e.key) || e.holdsOwn

/-- Evict an entry: removed whole, its roster reference with it, and counted (R81, R101). -/
def Station.evict (e : Entry) (s : Station) : Station :=
  { s with
    table := { s.table with
      entries := s.table.entries.eraseP (fun x => x.key = e.key)
      counts := { s.table.counts with evictions := s.table.counts.evictions + 1 } }
    tracker := { s.tracker with
      context := s.tracker.context.map (fun c => { c with roster := c.roster.filter (fun k => k ≠ e.key) }) } }

/-- A new entry joins at the most recent end (R99). -/
def Station.addEntry (e : Entry) (s : Station) : Station :=
  { s with table := { s.table with entries := s.table.entries ++ [e] } }

/-- Create an entry: at once while there is a free place, otherwise in place of the least recently touched entry that is
not pinned (R99, R101). With every entry pinned the creation fails: TABLE FULL is set, a refusal counted (R102). -/
def Station.createEntry (e : Entry) (s : Station) : Station × Bool :=
  if s.table.entries.length < Config.tableCapacity then (s.addEntry e, true)
  else
    match s.table.entries.find? (fun x => !s.pinned x) with
    | some x => ((s.evict x).addEntry e, true)
    | none =>
      ({ s with table := { s.table with
          counts := { s.table.counts with fullRefusals := s.table.counts.fullRefusals + 1 } } }.raise .tableFull, false)

/-- The holdings state an entry is created with when nothing has been asked: KNOWN with the gateway configured absent (R96). -/
def Station.freshHoldings (s : Station) : Holdings := if s.cfg.gatewayPresent then .unknown else .known

/-- A new entry with empty lists and overfull clear (R99, R104, R105, R107). -/
def newEntry (k : Key) (committed : Nat) (h : Holdings) : Entry :=
  { key := k, committed := committed, holdings := h, pending := [], ownCommitted := [], overfull := false, stored := none }

/-- The entry of a key, created if there is none. False when the creation fails. -/
def Station.ensureEntry (k : Key) (committed : Nat) (h : Holdings) (s : Station) : Station × Bool :=
  match s.entry k with
  | some _ => (s, true)
  | none => s.createEntry (newEntry k committed h)

/-- An unusable heard frame is counted (R103). -/
def Station.countUnusable (s : Station) : Station :=
  { s with table := { s.table with counts := { s.table.counts with unusable := s.table.counts.unusable + 1 } } }

/-- A merged heard frame is counted (R113). -/
def Station.countMerge (s : Station) : Station :=
  { s with table := { s.table with counts := { s.table.counts with merges := s.table.counts.merges + 1 } } }

/-- A claim dropped for room is counted (R93). -/
def Station.countDropped (dropped : Bool) (s : Station) : Station :=
  if dropped then
    { s with table := { s.table with counts := { s.table.counts with droppedClaims := s.table.counts.droppedClaims + 1 } } }
  else s

/-- The station's own id in the table's claims. A station that holds none makes no claim. -/
def Station.ownId (s : Station) : Nat := s.startup.stationId.getD 0

end Sys2Proof.Machine
end

