-- ==== Sys2Proof/Machine/Claims.lean ====
section
/-! DEFINITION. The Claim Engine (chapter 7): tally, taking a key, the commit condition and its re-tests, commits, the
decision point, clashes and late holdings. -/

namespace Sys2Proof.Machine

/-! ### The tally -/

/-- Adopt a delivered tally that is after T in serial order (R116). -/
def Station.adopt (t : Tally) (s : Station) : Station :=
  if 1 ≤ (t - s.claims.tally).toNat ∧ (t - s.claims.tally).toNat ≤ 8388607 then
    { s with claims := { s.claims with tally := t } }
  else s

/-! ### The commit condition (R124) -/

/-- No claim of the list is before the own claim, and the holdings state is not REQUESTED (R124). -/
def Entry.mayCommit (e : Entry) (c : Claim) : Bool :=
  !e.pending.any (fun x => x.before c) &&
  match e.holdings with
  | .requested _ _ => false
  | _ => true

/-- The own claim of an item in an entry's list. -/
def Entry.ownClaim (ref : ItemRef) (e : Entry) : Option Claim := e.pending.find? (fun c => c.own && decide (c.ref = ref))

/-- The item is WAITING. -/
def Station.isWaiting (ref : ItemRef) (s : Station) : Bool :=
  match s.findItem ref with
  | some i => decide (i.corr = .waiting)
  | none => false

/-- The number of pending claims before an own claim in claim order, own and heard alike (R128). -/
def Entry.ahead (c : Claim) (e : Entry) : Nat := (e.pending.filter (fun x => x.before c)).length

/-- The ordinal of an own commit with so many claims ahead of it (R125, R128). -/
def commitOrdinal (committed ahead : Nat) : Nat := min 255 (committed + ahead + 1)

/-! ### Commits -/

/-- An own commit written to its entry, as one step with a touch (R111). -/
def Entry.commitOwn (ref : ItemRef) (ordinal : Nat) (tally : Tally) (e : Entry) : Entry :=
  let e1 := { e with committed := max e.committed ordinal }
  let e2 := e1.removeClaims (fun c => c.own && decide (c.ref = ref))
  e2.addRecord { ref := ref, ordinal := ordinal, tally := tally }

/-- The item's part of a commit: ordinal, state, flags; a set unconfirmed mark gives UNCONFIRMED (R125, R126, R128). -/
def Item.commit (ordinal : Nat) (ranked holdingsUnconfirmed : Bool) (i : Item) : Item :=
  { i with
    ordinal := some ordinal, corr := .committed
    unconfirmed := i.unconfirmed || i.unconfirmedMark
    ranked := i.ranked || ranked
    holdingsUnconfirmed := i.holdingsUnconfirmed || holdingsUnconfirmed }

/-- Count a commit, ranked or not (R136). -/
def Station.countCommit (ranked : Bool) (s : Station) : Station :=
  if ranked then { s with claims := { s.claims with counts := { s.claims.counts with ranked := s.claims.counts.ranked + 1 } } }
  else { s with claims := { s.claims with counts := { s.claims.counts with commits := s.claims.counts.commits + 1 } } }

/-- R125 steps 1 to 4 with a given ordinal: the entry, the item record, the COMMIT offered, COMMITTED. -/
def Station.commitAs (k : Key) (c : Claim) (ordinal : Nat) (isRanked ranked holdingsUnconfirmed : Bool) (s : Station) : Station :=
  let s1 := s.writeEntry k (Entry.commitOwn c.ref ordinal c.tally)
  let s2 := (s1.modifyItem c.ref (Item.commit ordinal ranked holdingsUnconfirmed)).countCommit isRanked
  s2.offerNotice (.commit k c.tally c.ref ordinal)

/-- An ordinary commit of an own claim (R125). -/
def Station.commitOrdinary (k : Key) (e : Entry) (c : Claim) (s : Station) : Station :=
  s.commitAs k c (commitOrdinal e.committed 0) false false false

/-- The first own claim of an entry, in claim order, whose item is WAITING and may commit (R124). -/
def Station.firstCommittable (k : Key) (s : Station) : Option (Entry × Claim) :=
  match s.entry k with
  | none => none
  | some e =>
    match e.pending.find? (fun c => c.own && s.isWaiting c.ref && e.mayCommit c) with
    | none => none
    | some c => some (e, c)

/-- Re-test the WAITING own claims of an entry: the first that may commits, which is a change reported in its turn, so the
next is tested afresh (R124). Each commit takes a claim from the list, so the list's length bounds the re-tests. -/
def Station.retestFuel : Nat → Key → Station → Station
  | 0, _, s => s
  | n + 1, k, s =>
    match s.firstCommittable k with
    | none => s
    | some (e, c) => Station.retestFuel n k (s.commitOrdinary k e c)

/-- R124's re-tests on an entry. -/
def Station.retest (k : Key) (s : Station) : Station :=
  match s.entry k with
  | none => s
  | some e => Station.retestFuel e.pending.length k s

/-- A reported setting of overfull marks the entry's items in SETTLING or WAITING unconfirmed (R126). -/
def Station.markOverfull (k : Key) (s : Station) : Station :=
  match s.entry k with
  | none => s
  | some e =>
    { s with lane := { s.lane with queue := s.lane.queue.map (fun i =>
        if i.settlingOrWaiting && (e.ownClaim i.ref).isSome then { i with unconfirmedMark := true } else i) } }

/-- The parts of an entry whose change is reported (R112). -/
def Entry.reported (e : Entry) : List Claim × Nat × Holdings := (e.pending, e.committed, e.holdings)

/-- The Correlation Table reports a change of an entry that holds an own claim: a claim inserted or removed, a change
of C or of holdings state, a setting of overfull (R112). `before` is the entry before the change. -/
def Station.report (k : Key) (before : Option Entry) (overfullSet : Bool) (s : Station) : Station :=
  match s.entry k with
  | none => s
  | some e =>
    if e.holdsOwn && (overfullSet || decide (before.map Entry.reported ≠ some e.reported)) then
      (if overfullSet then s.markOverfull k else s).retest k
    else s

/-- An own claim removed by the Claim Engine, with a touch (R110). -/
def Station.removeOwnClaim (k : Key) (ref : ItemRef) (s : Station) : Station :=
  s.writeEntry k (Entry.removeClaims (fun c => c.own && decide (c.ref = ref)))

/-! ### Taking a key (R119, R120) -/

/-- The item becomes REJECTED with a reason (R118). -/
def Station.reject (ref : ItemRef) (r : Rejection) (s : Station) : Station :=
  s.modifyItem ref (fun i => { i with corr := .rejected r })

/-- The tally is taken and the offer counted, whether the frame is then taken or refused (R117, R136). -/
def Station.takeTally (s : Station) : Station :=
  { s with claims := { s.claims with
      tally := s.claims.tally + 1
      counts := { s.claims.counts with offered := s.claims.counts.offered + 1 } } }

/-- The claim offer, one step (R120): a tally; the CLAIM offered; on its being taken, the own claim inserted with
REQUESTED if holdings are wanted, the tally written, the item QUEUED; refused, the item REJECTED CLAIM ABANDONED. -/
def Station.offerClaim (ref : ItemRef) (k : Key) (e : Entry) (s : Station) : Station :=
  let wanted := decide (e.holdings = .unknown)
  let s1 := s.takeTally
  let t := s1.claims.tally
  if s1.txRoom then
    let claim : Claim := { station := s.ownId, tally := t, ref := ref, heard := none, own := true }
    let dropped := (e.insert claim).2
    let s2 := s1.txPush (.claim k t ref e.committed wanted)
    let s3 := s2.writeEntry k (fun x =>
      { (x.insert claim).1 with holdings := if wanted then .requested s.clock false else x.holdings })
    let s4 := (s3.countDropped dropped).modifyItem ref (fun i => { i with claimTally := some t, corr := .queued })
    s4.report k (some e) dropped
  else s1.reject ref .claimAbandoned

/-- The Claim Engine is handed a key for an item in UNKEYED (R119). -/
def Station.takeKey (ref : ItemRef) (k : Key) (s : Station) : Station :=
  match s.findItem ref with
  | none => s
  | some i =>
    if i.corr ≠ .unkeyed then s
    else if i.calMark then s
    else if s.startup.state ≠ .active then s.reject ref .notActive
    else
      let found := s.ensureEntry k 0 s.freshHoldings
      if !found.2 then found.1.reject ref .tableFull
      else
        let s1 := found.1.touch k
        match s1.entry k with
        | none => s1
        | some e =>
          if Config.claimCapacity ≤ (e.pending.filter (fun c => c.own)).length then s1.reject ref .claimsFull
          else s1.offerClaim ref k e

/-! ### On the link and settling (R121 to R123) -/

/-- An item's CLAIM has been transmitted: SETTLING, its deadline set, the unconfirmed mark set if the entry is overfull (R121). -/
def Station.claimSent (k : Key) (ref : ItemRef) (s : Station) : Station :=
  let overfull := match s.entry k with
    | some e => e.overfull
    | none => false
  s.modifyItem ref (fun i =>
    if i.corr = .queued then
      { i with corr := .settling (s.clock + BitVec.ofNat 32 s.cfg.settleTime), unconfirmedMark := i.unconfirmedMark || overfull }
    else i)

/-- An item's CLAIM was abandoned: REJECTED CLAIM ABANDONED, its own claim removed, the removal reported (R122). -/
def Station.claimAbandoned (k : Key) (ref : ItemRef) (s : Station) : Station :=
  let s1 := s.modifyItem ref (fun i => if i.corr = .queued then { i with corr := .rejected .claimAbandoned } else i)
  (s1.removeOwnClaim k ref).report k (s.entry k) false

/-- SETTLE_EXPIRY: at its settle deadline an item commits if the condition holds, and moves to WAITING if not (R123). -/
def Station.settleExpires (ref : ItemRef) (s : Station) : Station :=
  match s.findItem ref with
  | none => s
  | some i =>
    match i.corr, i.key with
    | .settling deadline, some k =>
      if deadline = s.clock then
        match s.entry k with
        | none => s.modifyItem ref (fun x => { x with corr := .waiting })
        | some e =>
          match e.ownClaim ref with
          | some c =>
            if e.mayCommit c then (s.commitOrdinary k e c).retest k
            else s.modifyItem ref (fun x => { x with corr := .waiting })
          | none => s.modifyItem ref (fun x => { x with corr := .waiting })
      else s
    | _, _ => s

/-! ### The decision point (R127 to R130) -/

/-- A WAITING item at decision-due: an ordinary commit if the condition holds, and a ranked commit otherwise (R128). -/
def Station.finalizeWaiting (i : Item) (k : Key) (s : Station) : Station :=
  match s.entry k with
  | none => s
  | some e =>
    match e.ownClaim i.ref with
    | none => s
    | some c =>
      if e.mayCommit c then (s.commitOrdinary k e c).retest k
      else
        let requested := match e.holdings with
          | .requested _ _ => true
          | _ => false
        (s.commitAs k c (commitOrdinal e.committed (e.ahead c)) true (decide (0 < e.ahead c)) requested).retest k

/-- Step 2 of the decision: the item's correlation state is finalized from whatever state it is in (R127 to R130). -/
def Station.finalizeItem (ref : ItemRef) (s : Station) : Station :=
  match s.findItem ref with
  | none => s
  | some i =>
    match i.corr, i.key with
    | .waiting, some k => s.finalizeWaiting i k
    | .queued, some k =>
      ((((s.reject ref .unsettled).removeOwnClaim k ref).takeBack ref false)).report k (s.entry k) false
    | .settling _, some k =>
      (((s.reject ref .unsettled).removeOwnClaim k ref).offerWithdraw k (i.claimTally.getD 0) ref).report k (s.entry k) false
    | _, _ => s

/-! ### Clashes and late holdings (R133 to R135) -/

/-- A correction is handed to the Record Builder and counted; in LISTEN-ONLY no record is built (R134, R169). -/
def Station.handCorrection (c : Correction) (s : Station) : Station :=
  let s1 := { s with claims := { s.claims with
      counts := { s.claims.counts with corrections := s.claims.counts.corrections + 1 } } }
  s1.buildRecord (.correction c)

/-- The clash test against one own committed record (R133). -/
def Station.clashTestOne (k : Key) (tb : Tally) (sb : Nat) (refb : ItemRef) (ordinal : Nat) (s : Station) (r : CommitRecord) :
    Station :=
  if r.ordinal = ordinal ∧ ¬ (s.ownId = sb ∧ r.ref = refb) ∧ claimBefore tb sb refb r.tally s.ownId r.ref then
    (s.handCorrection { ref := r.ref, key := k, ordinal := ordinal, reason := .clash, other := some sb }).raise .clashSeen
  else s

/-- The clash test of a heard COMMIT against the entry's own committed list as it stands after the merge (R133). DESIGN CHOICE
(notes/assumptions/26.md): several records of ordinal 255 are tested, and their CORRECTIONs built and offered (R169), oldest
record first; the manual gives no order. -/
def Station.clashTest (k : Key) (tb : Tally) (sb : Nat) (refb : ItemRef) (ordinal : Nat) (s : Station) : Station :=
  match s.entry k with
  | none => s
  | some e => e.ownCommitted.foldl (fun t r => t.clashTestOne k tb sb refb ordinal r) s

/-- The late-holdings test of a heard HOLDINGS (R135). -/
def Station.lateHoldings (k : Key) (count station : Nat) (t : Tally) (s : Station) : Station :=
  if s.startup.stationId = some station then
    match s.entry k with
    | none => s
    | some e =>
      match e.ownCommitted.find? (fun r => r.tally = t) with
      | none => s
      | some r =>
        if r.ordinal ≤ count then
          s.handCorrection { ref := r.ref, key := k, ordinal := r.ordinal, reason := .holdings, other := none }
        else s
  else s

/-! ### Merging heard frames (R104 to R107) -/

/-- Merge a heard CLAIM (R104). -/
def Station.mergeClaim (k : Key) (t : Tally) (station : Nat) (ref : ItemRef) (known : Nat) (wanted : Bool) (s : Station) :
    Station :=
  let before := s.entry k
  let made := s.ensureEntry k 0 s.freshHoldings
  if !made.2 then made.1
  else
    let s1 := made.1
    match s1.entry k with
    | none => s1
    | some e =>
      let duplicate := e.pending.any (fun c => c.isOf station ref)
      let claim : Claim := { station := station, tally := t, ref := ref, heard := some s.clock, own := false }
      let ins := if duplicate then (e, false) else e.insert claim
      let merged : Entry :=
        { ins.1 with
          holdings := if wanted ∧ e.holdings = .unknown then .requested s.clock false else e.holdings
          committed := max e.committed known }
      (((s1.writeEntry k (fun _ => merged)).countDropped ins.2).countMerge).report k before ins.2

/-- Merge a heard COMMIT, with its clash test (R105). -/
def Station.mergeCommit (k : Key) (t : Tally) (station : Nat) (ref : ItemRef) (ordinal : Nat) (s : Station) : Station :=
  let before := s.entry k
  let made := s.ensureEntry k ordinal s.freshHoldings
  if !made.2 then made.1
  else
    let s1 := made.1.writeEntry k (fun e =>
      { e.removeClaims (fun c => c.isOf station ref && !c.own) with committed := max e.committed ordinal })
    ((s1.countMerge).clashTest k t station ref ordinal).report k before false

/-- Merge a heard WITHDRAW; with no entry it is ignored and not counted (R106). -/
def Station.mergeWithdraw (k : Key) (station : Nat) (ref : ItemRef) (s : Station) : Station :=
  match s.entry k with
  | none => s
  | some e =>
    ((s.writeEntry k (Entry.removeClaims (fun c => c.isOf station ref && !c.own))).countMerge).report k (some e) false

/-- Merge a heard HOLDINGS, with its late-holdings test (R107). -/
def Station.mergeHoldings (k : Key) (count answered : Nat) (t : Tally) (s : Station) : Station :=
  let before := s.entry k
  let made := s.ensureEntry k count .known
  if !made.2 then made.1
  else
    let s1 := made.1.writeEntry k (fun e => { e with committed := max e.committed count, holdings := .known })
    ((s1.countMerge).lateHoldings k count answered t).report k before false

/-! ### Expiry and lapse (R108, R109) -/

/-- The claim is a heard claim of the station and item ref whose age is the claim lifetime now (R108). -/
def Claim.expires (station : Nat) (ref : ItemRef) (lifetime : Nat) (now : Millis) (c : Claim) : Bool :=
  c.isOf station ref && !c.own &&
  match c.heard with
  | some h => decide (age h now = lifetime)
  | none => false

/-- CLAIM_EXPIRY: the claim is removed, counted and reported; no touch (R108). -/
def Station.claimExpires (k : Key) (station : Nat) (ref : ItemRef) (s : Station) : Station :=
  match s.entry k with
  | none => s
  | some e =>
    if e.pending.any (fun c => c.expires station ref s.cfg.claimLifetime s.clock) then
      let s1 := s.modifyEntry k (Entry.removeClaims (fun c => c.expires station ref s.cfg.claimLifetime s.clock))
      { s1 with table := { s1.table with counts := { s1.table.counts with expiries := s1.table.counts.expiries + 1 } } }.report
        k (some e) false
    else s

/-- The note that a REQUESTED state's age has reached the claim lifetime (R90). -/
def Entry.noteAge (lifetime : Nat) (now : Millis) (e : Entry) : Entry :=
  match e.holdings with
  | .requested since noted => { e with holdings := .requested since (noted || decide (age since now = lifetime)) }
  | _ => e

/-- REQUESTED_LAPSE: a REQUESTED state that has reached the claim lifetime lapses to UNKNOWN once the list holds no own
claim; no touch, no count (R109). -/
def Station.requestLapses (k : Key) (s : Station) : Station :=
  match s.entry k with
  | none => s
  | some e =>
    match e.holdings with
    | .requested _ true => if e.holdsOwn then s else s.modifyEntry k (fun x => { x with holdings := .unknown })
    | _ => s

/-- MILLISECOND_TICK: the count rises by one, and entries whose REQUESTED state reaches the claim lifetime note it (R90). -/
def Station.tick (s : Station) : Station :=
  let now := s.clock + 1
  { s with
    clock := now
    table := { s.table with entries := s.table.entries.map (Entry.noteAge s.cfg.claimLifetime now) } }

/-! ### Every own claim at once (R115, R138, R139) -/

/-- Every own claim leaves every list, without a touch (R115). -/
def Station.removeOwnClaims (s : Station) : Station :=
  { s with table := { s.table with entries := s.table.entries.map (Entry.removeClaims (fun c => c.own)) } }

/-- An item's claim at a lane restart: a waiting CLAIM is taken back, a sent claim gives a WITHDRAW (R138). -/
def Station.restartClaim (s : Station) (i : Item) : Station :=
  match i.corr, i.key with
  | .queued, _ => s.takeBack i.ref true
  | .settling _, some k => s.offerWithdraw k (i.claimTally.getD 0) i.ref
  | .waiting, some k => s.offerWithdraw k (i.claimTally.getD 0) i.ref
  | _, _ => s

/-- An item in flight at a duplicate station id becomes REJECTED NOT ACTIVE (R139). -/
def Item.rejectInFlight (i : Item) : Item :=
  match i.corr with
  | .queued => { i with corr := .rejected .notActive }
  | .settling _ => { i with corr := .rejected .notActive }
  | .waiting => { i with corr := .rejected .notActive }
  | _ => i

/-- A frame dropped at a full receive queue marks every item in SETTLING or WAITING (R126). -/
def Station.markAllUnconfirmed (s : Station) : Station :=
  { s with lane := { s.lane with queue := s.lane.queue.map (fun i =>
      if i.settlingOrWaiting then { i with unconfirmedMark := true } else i) } }

end Sys2Proof.Machine
end

