-- ==== Sys2Proof/Machine/Consign.lean ====
section
/-! DEFINITION. The Consignment Tracker (chapter 5): contexts, stamping, the roster, matching of unidentified items and
their local commits. -/

namespace Sys2Proof.Machine

/-- Change the open context; with none open, nothing. -/
def Station.modifyContext (f : Consignment → Consignment) (s : Station) : Station :=
  { s with tracker := { s.tracker with context := s.tracker.context.map f } }

/-- Mark an item for review (R82, R83, R85). -/
def Station.markItem (ref : ItemRef) (m : TrackerMark) (s : Station) : Station :=
  s.modifyItem ref (fun i => { i with trackerMark := some m })

/-- One more, saturating at 65535 (section 5.1). -/
def saturate16 (n : Nat) : Nat := min 65535 (n + 1)

/-- The summary sampled at a close (R80). -/
def Consignment.summary (cause : EndCause) (c : Consignment) : Summary :=
  { number := c.number, publisher := c.publisher, declared := c.declared, counted := c.counted
    identified := c.identified, provisional := c.provisional, review := c.review, cause := cause }

/-- Close the open context: its summary sampled and handed on, its member list and roster emptied, its state NONE (R80, R170). -/
def Station.closeContext (cause : EndCause) (s : Station) : Station :=
  match s.tracker.context with
  | none => s
  | some c => { s with tracker := { s.tracker with context := none } }.buildRecord (.summary (c.summary cause))

/-- A newly opened context: the slip's three numbers, counts and index 0, lists empty (R76). -/
def Consignment.ofSlip (slip : Slip) : Consignment :=
  { number := slip.number, publisher := slip.publisher, declared := slip.declared, counted := 0, identified := 0
    provisional := 0, review := 0, nextIndex := 0, members := [], roster := [] }

/-- Open a context from a slip (R76). -/
def Station.openContext (slip : Slip) (s : Station) : Station :=
  { s with tracker := { s.tracker with context := some (Consignment.ofSlip slip) } }

/-- The end cause of a context closed by a slip (R75). -/
def Consignment.causeBySlip (slip : Slip) (c : Consignment) : EndCause :=
  if slip.number ≠ c.number ∧ c.declared ≠ 0 ∧ c.counted < c.declared then .short else .nextSlip

/-- An identifier close whose outcome is SLIP (R75). -/
def Station.takeSlip (slip : Slip) (s : Station) : Station :=
  match s.tracker.context with
  | none => s.openContext slip
  | some c => (s.closeContext (c.causeBySlip slip)).openContext slip

/-! ### The local commit (R87) -/

/-- A provisional commit: the entry's count raised, the entry touched, the item COMMITTED (R87, R111). -/
def Station.commitProvisional (ref : ItemRef) (k : Key) (s : Station) : Station :=
  match s.entry k with
  | none => s
  | some e =>
    let ordinal := commitOrdinal e.committed 0
    (s.writeEntry k (fun x => { x with committed := max x.committed ordinal })).modifyItem ref
      (fun i => { i with ordinal := some ordinal, corr := .committed })

/-! ### Matching (R82 to R85) -/

/-- A stored measurement passes for an item's grams, unsteady flag and thickness (R84). -/
def Stored.passes (c : Settings) (grams : Nat) (unsteady : Bool) (thickness : Option Nat) (p : Stored) : Bool :=
  decide (absDiff grams p.grams ≤ if unsteady || p.unsteady then 2 * c.weightTolerance else c.weightTolerance) &&
  match thickness, p.thickness with
  | some a, some b => decide (absDiff a b ≤ c.thicknessTolerance)
  | _, _ => true

/-- The entry of a roster reference passes (R84). -/
def Station.rosterPasses (grams : Nat) (unsteady : Bool) (thickness : Option Nat) (s : Station) (k : Key) : Bool :=
  match s.entry k with
  | none => false
  | some e =>
    match e.stored with
    | none => false
    | some p => p.passes s.cfg grams unsteady thickness

/-- The match: the first reference that passes, newest first, among scan-depth references (R84). -/
def Station.scanRoster (grams : Nat) (unsteady : Bool) (thickness : Option Nat) (roster : List Key) (s : Station) : Option Key :=
  (roster.reverse.take s.cfg.scanDepth).find? (s.rosterPasses grams unsteady thickness)

/-- A PROVISIONAL key (R47). -/
def provisionalKey (number index : Nat) : Key := ⟨.provisional, number * 4096 + index⟩

/-- The first index from i whose key the table does not hold, or 4095 (R85 steps 1 and 2). -/
def Station.freeIndex (number : Nat) (s : Station) : Nat → Nat → Nat
  | 0, i => i
  | n + 1, i =>
    if Config.lastProvisionalIndex ≤ i then i
    else if (s.entry (provisionalKey number i)).isSome then Station.freeIndex number s n (i + 1)
    else i

/-- Add a reference at the newest end of the roster, the oldest removed first if it holds 64 (R81). -/
def addToRoster (k : Key) (roster : List Key) : List Key :=
  (if roster.length < Config.rosterCapacity then roster else roster.drop (roster.length + 1 - Config.rosterCapacity)) ++ [k]

/-- No entry passed: a new PROVISIONAL key is issued, or the item is reviewed NO KEY or TABLE FULL (R85). -/
def Station.issueProvisional (ref : ItemRef) (number : Nat) (stored : Stored) (c : Consignment) (s : Station) : Station :=
  let index := s.freeIndex number (Config.lastProvisionalIndex + 1) c.nextIndex
  let s1 := s.modifyContext (fun x => { x with nextIndex := index })
  if Config.lastProvisionalIndex ≤ index then s1.markItem ref .noKey
  else
    let k := provisionalKey number index
    let made := s1.createEntry { newEntry k 0 .known with stored := some stored }
    if !made.2 then made.1.markItem ref .tableFull
    else
      let s2 := made.1.modifyContext (fun x => { x with nextIndex := index + 1, roster := addToRoster k x.roster })
      let s3 := (s2.modifyItem ref (fun i => { i with key := some k }))
      { s3 with tracker := { s3.tracker with issued := s3.tracker.issued + 1 } }.commitProvisional ref k

/-- The roster is scanned; a match gives the item its key, and otherwise a key is issued (R84, R85). -/
def Station.matchRoster (i : Item) (grams : Nat) (c : Consignment) (s : Station) : Station :=
  match s.scanRoster grams i.unsteady i.thickness c.roster with
  | some k =>
    let s1 := (s.modifyItem i.ref (fun x => { x with key := some k })).touch k
    { s1 with tracker := { s1.tracker with matches_ := s1.tracker.matches_ + 1 } }.commitProvisional i.ref k
  | none =>
    s.issueProvisional i.ref (i.consignment.getD c.number)
      { grams := grams, unsteady := i.unsteady, thickness := i.thickness } c

/-- Matching, run once when identifier close and weight outcome have both come: R82's tests 2 to 6, in order. Any wait is
over. An item that is no longer UNKEYED is past matching: a provisional commit starts from UNKEYED alone (R87, R118). -/
def Station.runMatching (ref : ItemRef) (s : Station) : Station :=
  match s.findItem ref with
  | none => s
  | some i =>
    let s1 := s.modifyItem ref (fun x => { x with matching := false })
    if i.corr ≠ .unkeyed then s1
    else match s.tracker.context with
    | none => s1.markItem ref .noKey
    | some c =>
      if ref ∉ c.members then s1.markItem ref .noKey
      else if s.listening then s1.markItem ref .notActive
      else if i.calMark then s1
      else
        match i.grams with
        | none => s1.markItem ref .weightAbsent
        | some g => s1.matchRoster i g c

/-- An unidentified item is taken into matching: it runs at once if the weight outcome has come, and otherwise waits (R83). -/
def Station.takeIntoMatching (ref : ItemRef) (s : Station) : Station :=
  match s.findItem ref with
  | none => s
  | some i => if i.weight.isSome then s.runMatching ref else s.modifyItem ref (fun x => { x with matching := true })

/-- The weight outcome ends a wait and runs matching; an item that does not wait is only noted (R83). -/
def Station.weightArrives (ref : ItemRef) (s : Station) : Station :=
  match s.findItem ref with
  | none => s
  | some i => if i.matching then s.runMatching ref else s

/-- The decision point ends a wait with WEIGHT ABSENT (R83). -/
def Station.endWait (ref : ItemRef) (s : Station) : Station :=
  s.modifyItem ref (fun i => if i.matching then { i with matching := false, trackerMark := some .weightAbsent } else i)

/-! ### Stamping (R77, R78) -/

/-- A non-slip identifier close: the item is stamped and counted, taken into matching if unidentified, and the context is
closed COMPLETE when the count reaches a nonzero declared count (R77, R78). With the context NONE an unidentified item is NO KEY (R82). -/
def Station.stampItem (ref : ItemRef) (unidentified : Bool) (s : Station) : Station :=
  match s.tracker.context with
  | none => if unidentified then s.markItem ref .noKey else s
  | some c =>
    let counted := saturate16 c.counted
    let s1 := (s.modifyItem ref (fun i => { i with consignment := some c.number })).modifyContext
      (fun x => { x with counted := counted, members := x.members ++ [ref] })
    let s2 := if unidentified then s1.takeIntoMatching ref else s1
    if c.declared ≠ 0 ∧ counted = c.declared then s2.closeContext .complete else s2

/-! ### Dispositions (R79) -/

/-- An item's class at its decision point (R79). -/
inductive ItemClass where
  | identified
  | provisional
  | review
deriving DecidableEq, Repr

/-- One item classified in a context: its class counted, its ref off the member list (R79). -/
def Consignment.classify (ref : ItemRef) (cl : ItemClass) (c : Consignment) : Consignment :=
  if ref ∈ c.members then
    let c1 := { c with members := c.members.filter (fun r => r ≠ ref) }
    match cl with
    | .identified => { c1 with identified := saturate16 c.identified }
    | .provisional => { c1 with provisional := saturate16 c.provisional }
    | .review => { c1 with review := saturate16 c.review }
  else c

end Sys2Proof.Machine
end

