-- ==== Sys2Proof/Machine/Weigh.lean ====
section
/-! DEFINITION. The Measurement Unit (chapter 4): sample buffers, the scale close and the weight outcome, tare,
calibration, gauge. -/

namespace Sys2Proof.Machine

/-- Change the Measurement Unit's counts. -/
def Station.countMeasure (f : MeasureCounts → MeasureCounts) (s : Station) : Station :=
  { s with measurement := { s.measurement with counts := f s.measurement.counts } }

/-! ### Samples (R56, R57) -/

/-- Append samples to a buffer, which keeps the most recent 64 (R57). -/
def SampleBuffer.append (xs : List Int) (b : SampleBuffer) : SampleBuffer :=
  let l := b.samples ++ xs
  { b with samples := l.drop (l.length - Config.bufferCapacity) }

/-- Take a free buffer for an item, A first; none if both are taken (R56). -/
def Measurement.takeBuffer (ref : ItemRef) (m : Measurement) : Option Measurement :=
  if m.bufferA.holder = none then some { m with bufferA := { SampleBuffer.free with holder := some ref } }
  else if m.bufferB.holder = none then some { m with bufferB := { SampleBuffer.free with holder := some ref } }
  else none

/-- The packet's samples stored in the buffer the item holds, and its GAP flag set by a gap mark (R57). -/
def Station.storeSamples (ref : ItemRef) (xs : List Int) (gapMark : Bool) (s : Station) : Station :=
  { s with measurement := s.measurement.modifyBuffer ref (SampleBuffer.append xs) }.modifyItem ref
    (fun i => { i with gap := i.gap || gapMark })

/-- A scale packet refused for want of a buffer (R56). DESIGN CHOICE: GAP is not set, whether the packet is the first refused to
the item or a later one. R33 flags GAP for a packet given to an item, R56 drops this one, and R57 exempts only an item whose weight
is absent with BUFFER already, which leaves the first one refused open (notes/assumptions/27.md). -/
def Station.refuseBuffer (ref : ItemRef) (s : Station) : Station :=
  (s.modifyItem ref (fun i => { i with bufferRefused := true })).countMeasure
    (fun c => { c with bufferRefusals := c.bufferRefusals + 1 })

/-- A scale packet given to an item (R56, R57). A refused one leaves GAP as it is: notes/assumptions/27.md. -/
def Station.scalePacket (i : Item) (xs : List Int) (gapMark : Bool) (s : Station) : Station :=
  if i.bufferRefused then s.refuseBuffer i.ref
  else
    match s.measurement.bufferOf i.ref with
    | some _ => s.storeSamples i.ref xs gapMark
    | none =>
      match s.measurement.takeBuffer i.ref with
      | some m => { s with measurement := m }.storeSamples i.ref xs gapMark
      | none => s.refuseBuffer i.ref

/-! ### Calibration (R68, R69) -/

/-- A scale window opens: a PENDING calibration takes the item (R68). -/
def Station.scaleWindowOpens (ref : ItemRef) (s : Station) : Station :=
  match s.measurement.calibration with
  | .pending g =>
    { s with measurement := { s.measurement with calibration := .chosen g ref } }.modifyItem ref
      (fun i => { i with calMark := true })
  | _ => s

/-- The factor a calibration sets: from a present, steady weight with Net > 0, if the new factor is in range (R69). -/
def newFactor (grams : Nat) (unsteady : Bool) (net : Option Int) : Option Nat :=
  match net with
  | some n => if unsteady then none else calibratedFactor grams n
  | none => none

/-- The calibration item's weight outcome ends the calibration (R69). -/
def Station.endCalibration (ref : ItemRef) (net : Option Int) (s : Station) : Station :=
  match s.measurement.calibration with
  | .chosen g r =>
    if r = ref then
      let unsteady := match s.findItem ref with
        | some i => i.unsteady
        | none => true
      match newFactor g unsteady net with
      | some f => { s with measurement := { s.measurement with calibration := .none, factor := f } }.raise .calDone
      | none => { s with measurement := { s.measurement with calibration := .none } }.raise .calFailed
    else s
  | _ => s

/-! ### Weight outcomes (R58, R63, R65) -/

/-- A weight outcome: the record written, the buffer freed, the outcome handed to the Consignment Tracker and to the
calibration record (R63). `net` is the net of a computation. -/
def Station.weightOutcome (ref : ItemRef) (w : WeightRecord) (net : Option Int) (s : Station) : Station :=
  ((((s.modifyItem ref (fun i => { i with weight := some w })).freeBuffer ref).weightArrives ref)).endCalibration ref net

/-- A computation starts on the buffer an item holds (R59). -/
def Station.startComputation (ref : ItemRef) (c : Computation) (s : Station) : Station :=
  { s with measurement := s.measurement.modifyBuffer ref (fun b => { b with computing := some c }) }

/-- A scale close by position: R58's tests in order, the computation started with its copies (R59). -/
def Station.scaleClose (ref : ItemRef) (s : Station) : Station :=
  match s.findItem ref with
  | none => s
  | some i =>
    if i.crowdMarks.scale then s.weightOutcome ref (.absent .crowded) none
    else if i.bufferRefused then s.weightOutcome ref (.absent .buffer) none
    else
      match s.measurement.bufferOf ref with
      | none => s.weightOutcome ref (.absent .noSamples) none
      | some b =>
        if b.samples.length < s.cfg.settleCount + 2 then
          (s.countMeasure (fun c => { c with shortWeights := c.shortWeights + 1 })).weightOutcome ref (.absent .tooFewSamples) none
        else
          match s.measurement.tare with
          | none => s.weightOutcome ref (.absent .noTare) none
          | some t =>
            s.startComputation ref { tare := t, factor := s.measurement.factor }

/-- A late scale close (R65). -/
def Station.lateScaleClose (ref : ItemRef) (s : Station) : Station :=
  match s.findItem ref with
  | none => s
  | some i => s.weightOutcome ref (.absent (if i.bufferRefused then .buffer else .late)) none

/-- WEIGHT_COMPLETION: the computation in flight for an item ends (R59 to R63). -/
def Station.weightCompletes (ref : ItemRef) (s : Station) : Station :=
  match s.measurement.bufferOf ref with
  | none => s
  | some b =>
    match b.computing with
    | none => s
    | some c =>
      let w := computeWeight s.cfg.settleCount s.cfg.settleBand c b.samples
      s.weightOutcome ref w.1 (some w.2)

/-! ### Tare (R64, R66) -/

/-- An empty packet: with samples, its mean sets, moves or re-zeros the tare, or is rejected with SCALE DRIFT (R64, R66). -/
def Station.emptyPacket (xs : List Int) (s : Station) : Station :=
  if xs = [] then s
  else
    let t := tareStep s.cfg.tareLimit s.measurement.tare s.measurement.rejectedRun (roundedMean xs)
    let s1 := { s with measurement := { s.measurement with tare := some t.tare, rejectedRun := t.run } }
    let s2 := if t.rezeroed then s1.countMeasure (fun c => { c with tareRezeros := c.tareRezeros + 1 }) else s1
    if t.rejected then s2.raise .scaleDrift else s2

/-! ### Gauge (R71) -/

/-- A gauge packet's pairs raise the item's maxima (R71). -/
def Item.raiseGauge (i : Item) (p : Nat × Nat) : Item :=
  { i with maxThickness := raiseMax i.maxThickness p.1, maxWidth := raiseMax i.maxWidth p.2 }

/-- A gauge packet given to an item (R71). -/
def Station.gaugePacket (ref : ItemRef) (pairs : List (Nat × Nat)) (s : Station) : Station :=
  s.modifyItem ref (fun i => pairs.foldl Item.raiseGauge i)

/-- A gauge close by position: the maxima are written, the working copy discarded (R71). -/
def Station.gaugeClose (ref : ItemRef) (s : Station) : Station :=
  s.modifyItem ref (fun i =>
    { i with thickness := i.maxThickness, width := i.maxWidth, maxThickness := none, maxWidth := none })

/-- A late gauge close: the maxima are discarded (R71). -/
def Station.lateGaugeClose (ref : ItemRef) (s : Station) : Station :=
  s.modifyItem ref (fun i => { i with maxThickness := none, maxWidth := none })

/-- A CALIBRATE request with G grams (R67). -/
def Station.calibrateRequest (grams : Nat) (s : Station) : Station :=
  match s.measurement.calibration with
  | .chosen _ _ => s.raise .calIgnored
  | _ =>
    if grams = 0 then s.raise .calIgnored
    else { s with measurement := { s.measurement with calibration := .pending grams } }

/-- A lane restart at the Measurement Unit: buffers and computations gone, the calibration record NONE with no flag (R74). -/
def Measurement.restarted (m : Measurement) : Measurement :=
  { m with bufferA := SampleBuffer.free, bufferB := SampleBuffer.free, calibration := .none }

end Sys2Proof.Machine
end

