-- ==== Sys2Proof/Machine/Lane.lean ====
section
/-! DEFINITION. The Lane Tracker with the Key Builder's identifier close and the Record Builder's chute fixing: edges,
windows, attribution, decision, divert and departure (chapter 1, sections 3.6 and 3.7, sections 9.1 to 9.3). -/

namespace Sys2Proof.Machine

/-- Change the lane's counts. -/
def Station.countLane (f : LaneCounts → LaneCounts) (s : Station) : Station :=
  { s with lane := { s.lane with counts := f s.lane.counts } }

/-- ENCODER_FORWARD_COUNT: P advances by one, modulo 2^24 (R1). -/
def Station.forwardCount (s : Station) : Station := { s with lane := { s.lane with pos := s.lane.pos + 1 } }

/-! ### The identifier close (R48 to R51) -/

/-- The verdict in a candidate slot. -/
def slotVerdict (slot : Option Reading) : Option Verdict := slot.map (fun r => r.verdict)

/-- One of the slots holds a MISREAD verdict (R51). -/
def Item.holdsMisread (i : Item) : Bool :=
  decide (slotVerdict i.slot0 = some .misread) || decide (slotVerdict i.slot1 = some .misread)

/-- The Key Builder writes its outcome and no longer holds the candidates (section 3.6). -/
def Station.writeOutcome (ref : ItemRef) (o : IdOutcome) (key : Option Key) (misread : Bool) (s : Station) : Station :=
  s.modifyItem ref (fun i =>
    { i with
      slot0 := none, slot1 := none, outcome := some o
      key := if key.isSome then key else i.key
      misread := i.misread || misread })

/-- An identifier close: late and crowded closes are REFUSED (R48), the others reconciled (R49), and the outcome handed on,
to the Consignment Tracker first (R50; notes/assumptions/6.md). -/
def Station.identifierClose (ref : ItemRef) (late : Bool) (s : Station) : Station :=
  match s.findItem ref with
  | none => s
  | some i =>
    if late || i.crowdMarks.reader0 || i.crowdMarks.reader1 then
      (s.writeOutcome ref (.refused false) none false).stampItem ref false
    else
      match reconcile (slotVerdict i.slot0) (slotVerdict i.slot1) with
      | .keyed k => ((s.writeOutcome ref .keyed (some k) i.holdsMisread).stampItem ref false).takeKey ref k
      | .slip x => (s.writeOutcome ref .slip none false).takeSlip x
      | .unidentified => (s.writeOutcome ref .unidentified none i.holdsMisread).stampItem ref true
      | .ambiguous =>
        let s1 := s.writeOutcome ref (.refused true) none false
        { s1 with keyCounts := { s1.keyCounts with ambiguous := s1.keyCounts.ambiguous + 1 } }.stampItem ref false

/-! ### Edges (R2 to R6) -/

/-- A window's state at its item's creation (R10). -/
def Settings.createdWindow (c : Settings) (h : Head) : WindowState := if c.opensAtCreation h then .opened else .notYetOpen

/-- The record of a new item (R3, R118). -/
def newItem (c : Settings) (ref : ItemRef) (pos : Pos) : Item :=
  { ref := ref, lead := pos, trail := none, lane := .entering
    windows := ⟨c.createdWindow .reader0, c.createdWindow .reader1, c.createdWindow .scale, c.createdWindow .gauge⟩
    crowdMarks := PerHead.same false, departed := false, depositHeld := false, consignment := none, slot0 := none, slot1 := none
    outcome := none, bufferRefused := false, gap := false, weight := none, maxThickness := none, maxWidth := none
    thickness := none, width := none, calMark := false, key := none, corr := .unkeyed, claimTally := none
    ordinal := none, ranked := false, holdingsUnconfirmed := false, unconfirmed := false, unconfirmedMark := false
    crowded := false, overlong := false, misread := false, misdiverted := false, lateReadings := false
    trackerMark := none, matching := false, chute := none, review := none }

/-- An item created at the back of the Item Queue, the sensor owner from then on (R3); a scale window open from creation
may make it the calibration item (R68). -/
def Station.createItem (s : Station) : Station :=
  let ref := s.lane.nextRef
  let s1 := { s with lane := { s.lane with
      queue := s.lane.queue ++ [newItem s.cfg ref s.lane.pos], nextRef := ref + 1, sensorOwner := some ref } }
  if s.cfg.opensAtCreation .scale then s1.scaleWindowOpens ref else s1

/-- LEADING_EDGE: ignored in CONFIG LOAD (R2); an item (R3), or QUEUE OVERRUN and an untracked item (R4). -/
def Station.leadingEdge (s : Station) : Station :=
  if !s.ready then s
  else if s.lane.queue.length < Config.itemCapacity then s.createItem
  else (s.countLane (fun c => { c with untracked := c.untracked + 1 })).raise .queueOverrun

/-- T written for an item; an ENTERING item moves to READING, a DECIDED or DIVERTING one keeps its state (R5, R6). -/
def Item.setTrail (t : Pos) (i : Item) : Item :=
  { i with trail := some t, lane := if i.lane = .entering then .reading else i.lane }

/-- A trailing edge given to its sensor owner (R5). -/
def Station.trailingEdgeOf (i : Item) (s : Station) : Station :=
  match i.lane with
  | .entering =>
    if dist i.lead s.lane.pos < s.cfg.minLength then
      (s.removeItem i.ref true).countLane (fun c => { c with blips := c.blips + 1 })
    else s.modifyItem i.ref (Item.setTrail s.lane.pos)
  | .decided | .diverting => s.modifyItem i.ref (Item.setTrail s.lane.pos)
  | .reading | .read => s

/-- TRAILING_EDGE: ignored in CONFIG LOAD and with no sensor owner (R2); otherwise the owner is cleared and R5 applies. -/
def Station.trailingEdge (s : Station) : Station :=
  if !s.ready then s
  else
    match s.lane.sensorOwner with
    | none => s
    | some ref =>
      let s1 := { s with lane := { s.lane with sensorOwner := none } }
      match s.findItem ref with
      | none => s1
      | some i => s1.trailingEdgeOf i

/-- OVERLONG_CLOSE_OFF: the sensor owner at P − L = maximum length + 1 is closed off with T = L + maximum length (R6). -/
def Station.overlongCloseOff (s : Station) : Station :=
  match s.lane.sensorOwner with
  | none => s
  | some ref =>
    match s.findItem ref with
    | none => s
    | some i =>
      if dist i.lead s.lane.pos = s.cfg.maxLength + 1 then
        { s with lane := { s.lane with sensorOwner := none } }.modifyItem ref (fun x =>
          { (x.setTrail (x.lead + BitVec.ofNat 24 s.cfg.maxLength)) with overlong := true })
      else s

/-! ### Windows (R10, R11) -/

/-- WINDOW_OPEN: a head's window opens at P − L = D_h − m_h; a scale window opening may choose the calibration item (R10, R68). -/
def Station.windowOpens (ref : ItemRef) (h : Head) (s : Station) : Station :=
  match s.findItem ref with
  | none => s
  | some i =>
    if i.windows.get h = .notYetOpen ∧ dist i.lead s.lane.pos = s.cfg.openDistance h then
      let s1 := s.modifyItem ref (fun x => { x with windows := x.windows.set h .opened })
      match h with
      | .scale => s1.scaleWindowOpens ref
      | .reader0 | .reader1 | .gauge => s1
    else s

/-- The window is closed or force-closed. -/
def WindowState.over (w : WindowState) : Bool :=
  match w with
  | .closed | .forceClosed => true
  | .notYetOpen | .opened => false

/-- One window closed by position; the last one moves a READING item to READ (R9, R11). -/
def Item.closeWindow (h : Head) (i : Item) : Item :=
  let w := i.windows.set h .closed
  { i with
    windows := w
    lane := if i.lane = .reading ∧ (w.toList.all WindowState.over) then .read else i.lane }

/-- The close delivered to the head's owner; the identifier close once the second reader window has closed (R11). -/
def Station.deliverClose (i : Item) (h : Head) (s : Station) : Station :=
  match h with
  | .reader0 => if i.windows.reader1 = .closed then s.identifierClose i.ref false else s
  | .reader1 => if i.windows.reader0 = .closed then s.identifierClose i.ref false else s
  | .scale => s.scaleClose i.ref
  | .gauge => s.gaugeClose i.ref

/-- WINDOW_CLOSE: an open window closes at T known and P − T = D_h + m_h + 1 (R11). -/
def Station.windowCloses (ref : ItemRef) (h : Head) (s : Station) : Station :=
  match s.findItem ref with
  | none => s
  | some i =>
    match i.trail with
    | none => s
    | some t =>
      if i.windows.get h = .opened ∧ dist t s.lane.pos = s.cfg.closeDistance h + 1 then
        (s.modifyItem ref (Item.closeWindow h)).deliverClose i h
      else s

/-! ### Attribution (R12 to R14, R34, R39) -/

/-- A reading with its verdict replaces its reader's slot (R39). -/
def Item.storeReading (h : Head) (r : Reading) (i : Item) : Item :=
  match h with
  | .reader0 => { i with slot0 := some r }
  | .reader1 => { i with slot1 := some r }
  | .scale | .gauge => i

/-- An identifier packet given to an item; a MISREAD is counted (R39, R52). -/
def Station.identifierPacket (i : Item) (h : Head) (p : Packet) (s : Station) : Station :=
  let v := verdictOf p.second p.symbols
  let s1 := s.modifyItem i.ref (Item.storeReading h { subtype := p.second, symbols := p.symbols, verdict := v })
  if v = .misread then { s1 with keyCounts := { s1.keyCounts with misreads := s1.keyCounts.misreads + 1 } } else s1

/-- A packet given to an item goes to the owner of its head's readings (R12). -/
def Station.givePacket (i : Item) (h : Head) (p : Packet) (s : Station) : Station :=
  match h with
  | .reader0 | .reader1 => s.identifierPacket i h p
  | .scale => s.scalePacket i (samplesOf s.cfg.wide p.symbols) p.gapMark
  | .gauge => s.gaugePacket i.ref (pairsOf p.symbols)

/-- A stray is counted (R14). -/
def Station.countStray (s : Station) : Station := s.countLane (fun c => { c with strays := c.strays + 1 })

/-- A packet in no window: an empty packet from the scale, a counted stray from any other line (R14). -/
def Station.strayPacket (h : Head) (p : Packet) (s : Station) : Station :=
  match h with
  | .scale => s.emptyPacket (samplesOf s.cfg.wide p.symbols)
  | .reader0 | .reader1 | .gauge => s.countStray

/-- An item whose window contains a crowded packet's stamp is flagged CROWDED and marked for the head (R13). -/
def Item.crowdBy (c : Settings) (h : Head) (stamp : Pos) (i : Item) : Item :=
  if i.windowHolds c h stamp then { i with crowded := true, crowdMarks := i.crowdMarks.set h true } else i

/-- A packet in the windows of two or more items: none takes it, each is flagged and marked CROWDED, one count (R13). -/
def Station.crowdedPacket (h : Head) (p : Packet) (s : Station) : Station :=
  { s with lane := { s.lane with queue := s.lane.queue.map (Item.crowdBy s.cfg h p.stamp) } }.countLane
    (fun c => { c with crowded := c.crowded + 1 })

/-- Attribution of a stamped packet: to the one item whose window contains the stamp, unless that window is force-closed (R12 to R14). -/
def Station.attribute (h : Head) (p : Packet) (s : Station) : Station :=
  match s.lane.queue.filter (fun i => i.windowHolds s.cfg h p.stamp) with
  | [] => s.strayPacket h p
  | [i] => if i.windows.get h = .forceClosed then s.countStray else s.givePacket i h p
  | _ => s.crowdedPacket h p

/-- HAND_OVER: the packet in HAND-OVER is attributed, and the framer returns to HUNT with progress 0 (R34). -/
def Station.handsOver (h : Head) (s : Station) : Station :=
  match (s.receivers.get h).framer with
  | .handOver p => (s.withReceiver h { s.receivers.get h with framer := .hunt .zero }).attribute h p
  | .hunt _ | .type | .second .. | .count .. | .data .. | .check .. => s

/-! ### The chute (R162 to R165) -/

/-- The item is REJECTED with a reason. -/
def Item.rejectedFor (r : Rejection) (i : Item) : Bool := decide (i.corr = .rejected r)

/-- The review conditions of an item, in R162's order of precedence, each with whether it is present. -/
def Item.conditions (i : Item) : List (Bool × ReviewReason) :=
  [(decide (i.trackerMark = some .noKey), .noKey),
   (decide (i.outcome = some (.refused true)), .ambiguous),
   (i.crowdMarks.reader0 || i.crowdMarks.reader1, .crowded),
   (i.overlong, .overlong),
   (i.lateReadings, .lateReadings),
   (decide (i.trackerMark = some .weightAbsent), .weightAbsent),
   (i.rejectedFor .tableFull || decide (i.trackerMark = some .tableFull), .tableFull),
   (i.rejectedFor .claimsFull, .claimsFull),
   (i.rejectedFor .unsettled, .unsettled),
   (i.rejectedFor .claimAbandoned, .claimAbandoned),
   (i.rejectedFor .notActive || decide (i.trackerMark = some .notActive), .notActive),
   (i.calMark, .calibration),
   (decide (i.corr = .unkeyed), .noKey)]

/-- The review reason: the condition first in order; a slip has none (R163). -/
def Item.reviewReason (i : Item) : Option ReviewReason :=
  if i.isSlip then none else (i.conditions.find? (fun c => c.1)).map (fun c => c.2)

/-- The chute: 0 for a slip and for an item with a review condition, otherwise the map's place for its key kind and ordinal (R164). -/
def Item.fixedChute (m : ChuteMap) (i : Item) : Chute :=
  if i.isSlip || i.reviewReason.isSome then 0
  else
    match i.key, i.ordinal with
    | some k, some o => m.chute k.kind o
    | _, _ => 0

/-- The item's class; a slip has none (R79). -/
def Item.itemClass (i : Item) : Option ItemClass :=
  if i.isSlip then none
  else if i.reviewReason.isSome then some .review
  else
    match i.key with
    | some k => if k.kind = .provisional then some .provisional else some .identified
    | none => none

/-- Count a chute fixing, and a review if it writes a reason (R165). -/
def Station.countDisposed (review : Bool) (s : Station) : Station :=
  { s with records := { s.records with counts := { s.records.counts with
      disposed := s.records.counts.disposed + 1
      reviews := if review then s.records.counts.reviews + 1 else s.records.counts.reviews } } }

/-- Step 3 of the decision: chute and reason written, the class reported, the fixing counted (R164, R165). -/
def Station.fixChute (ref : ItemRef) (s : Station) : Station :=
  match s.findItem ref with
  | none => s
  | some i =>
    let s1 := s.modifyItem ref (fun x => { x with chute := some (i.fixedChute s.cfg.chuteMap), review := i.reviewReason })
    let s2 := match i.itemClass with
      | some cl => s1.modifyContext (Consignment.classify ref cl)
      | none => s1
    s2.countDisposed i.reviewReason.isSome

/-! ### The decision point (R15) -/

/-- Every still-open window is force-closed (R15). -/
def forceOpen (w : WindowState) : WindowState := if w = .opened then .forceClosed else w

/-- Step 1 of the decision: LATE READINGS, the open windows force-closed, each delivered as a late close (R15, R48, R65, R71). -/
def Station.lateCloses (i : Item) (s : Station) : Station :=
  let s1 := s.modifyItem i.ref (fun x => { x with lateReadings := true, windows := x.windows.map forceOpen })
  let s2 := if i.windows.reader0 = .opened ∨ i.windows.reader1 = .opened then s1.identifierClose i.ref true else s1
  let s3 := if i.windows.scale = .opened then s2.lateScaleClose i.ref else s2
  if i.windows.gauge = .opened then s3.lateGaugeClose i.ref else s3

/-- An item still short of its decision point. -/
def LaneState.undecided (l : LaneState) : Bool :=
  match l with
  | .entering | .reading | .read => true
  | .decided | .diverting => false

/-- DECISION_DUE: at P − L = D_dec, late windows, correlation, chute and DECIDED, as one operation (R15). -/
def Station.decisionDue (ref : ItemRef) (s : Station) : Station :=
  match s.findItem ref with
  | none => s
  | some i =>
    if i.lane.undecided ∧ dist i.lead s.lane.pos = s.cfg.dDec then
      let s1 := if i.lane = .read then s else s.lateCloses i
      let s2 := (s1.finalizeItem ref).endWait ref
      (s2.fixChute ref).modifyItem ref (fun x => { x with lane := .decided })
    else s

/-! ### The diverter and departure (R16 to R18) -/

/-- The holder is flagged MISDIVERTED if it is another item that has not departed and its chute differs (R16). -/
def Station.checkHolder (i : Item) (s : Station) : Station :=
  match s.lane.diverterHolder with
  | none => s
  | some r =>
    s.modifyItem r (fun x =>
      if r ≠ i.ref ∧ x.departed = false ∧ x.chute ≠ i.chute then { x with misdiverted := true } else x)

/-- DIVERT_POINT: at P − L = D_div a DECIDED item becomes DIVERTING and takes the diverter (R16). -/
def Station.divertPoint (ref : ItemRef) (s : Station) : Station :=
  match s.findItem ref with
  | none => s
  | some i =>
    if i.lane = .decided ∧ dist i.lead s.lane.pos = s.cfg.dDiv then
      let s1 := (s.checkHolder i).modifyItem ref (fun x => { x with lane := .diverting })
      { s1 with lane := { s1.lane with diverterChute := i.chute.getD 0, diverterHolder := some ref } }
    else s

/-- The diverter returns to chute 0 with no holder, if the item holds it (R17). -/
def Station.releaseDiverter (ref : ItemRef) (s : Station) : Station :=
  if s.lane.diverterHolder = some ref then
    { s with lane := { s.lane with diverterChute := 0, diverterHolder := none } }
  else s

/-- A departed item is removed at once (a slip, or in LISTEN-ONLY), or offered for its DEPOSIT (R17). -/
def Station.disposeDeparted (i : Item) (s : Station) : Station :=
  if i.isSlip || s.listening then s.removeItem i.ref true else s.offerDeposit i true

/-- DEPARTURE: at T known and P − T = D_div a DIVERTING item has departed (R17). -/
def Station.departs (ref : ItemRef) (s : Station) : Station :=
  match s.findItem ref with
  | none => s
  | some i =>
    match i.trail with
    | none => s
    | some t =>
      if i.lane = .diverting ∧ i.departed = false ∧ dist t s.lane.pos = s.cfg.dDiv then
        ((s.modifyItem ref (fun x => { x with departed := true })).releaseDiverter ref).disposeDeparted i
      else s

end Sys2Proof.Machine
end

