-- ==== Sys2Proof/Machine/Link.lean ====
section
/-! DEFINITION. The Link Controller's sending side (chapter 8, sections 8.2 and 8.3) with the sampling of a STATUS
(R172) and what a producer does when its frame completes or is abandoned. -/

namespace Sys2Proof.Machine

/-- Change the link's counts. -/
def Station.countLink (f : LinkCounts → LinkCounts) (s : Station) : Station :=
  { s with link := { s.link with counts := f s.link.counts } }

/-! ### Selection (R143) -/

/-- The body is a COMMIT or WITHDRAW with an item ref. -/
def Body.isNoticeOf (ref : ItemRef) (b : Body) : Bool :=
  match b with
  | .commit _ _ r _ => decide (r = ref)
  | .withdraw _ _ r => decide (r = ref)
  | _ => false

/-- The record fence holds a DEPOSIT or CORRECTION back while a COMMIT or WITHDRAW of its item ref is in the queue (R143). -/
def fenced (queue : List TxFrame) (b : Body) : Bool :=
  match b with
  | .deposit d => queue.any (fun f => f.body.isNoticeOf d.ref)
  | .correction c => queue.any (fun f => f.body.isNoticeOf c.ref)
  | _ => false

/-- A frame is eligible: READY, and past the record fence (R143). -/
def eligible (queue : List TxFrame) (f : TxFrame) : Bool := decide (f.standing = .ready) && !fenced queue f.body

/-- The place of the oldest eligible frame of a class. -/
def oldestEligible (queue : List TxFrame) (c : FrameClass) : Option Nat :=
  queue.findIdx? (fun f => decide (f.body.cls = c) && eligible queue f)

/-- The oldest eligible frame of the highest class that holds one, by its place in the queue (R143). -/
def selectFrame (queue : List TxFrame) : Option Nat :=
  match oldestEligible queue .claim with
  | some i => some i
  | none =>
    match oldestEligible queue .notice with
    | some i => some i
    | none => oldestEligible queue .record

/-! ### STATUS sampling (R172) -/

/-- The counts of a group, in the order of section 9.7's table. -/
def Station.groupCounts (s : Station) : StatusGroup → List Count
  | .sensing =>
    [s.lane.counts.untracked, s.lane.counts.blips, s.lane.counts.strays, s.lane.counts.crowded,
     s.headCounts.formatErrors, s.headCounts.overruns, s.headCounts.scaleGaps, s.headCounts.gaugeGaps,
     s.keyCounts.misreads, s.keyCounts.ambiguous,
     s.measurement.counts.bufferRefusals, s.measurement.counts.shortWeights, s.measurement.counts.tareRezeros]
  | .correlation =>
    [BitVec.ofNat 16 s.table.entries.length, BitVec.ofNat 16 Config.tableCapacity,
     s.table.counts.evictions, s.table.counts.fullRefusals, s.table.counts.droppedClaims, s.table.counts.expiries,
     s.table.counts.unusable, s.table.counts.merges,
     s.claims.counts.offered, s.claims.counts.commits, s.claims.counts.ranked, s.claims.counts.withdrawals,
     s.claims.counts.corrections, s.tracker.matches_, s.tracker.issued]
  | .link =>
    [s.link.counts.sent, s.link.counts.collisions, s.link.counts.abandons, s.link.counts.checkFailures,
     s.link.counts.rxDrops, s.link.counts.misdirected, s.link.counts.malformed,
     s.records.counts.disposed, s.records.counts.reviews, s.records.counts.lost]

/-- The contents of a STATUS of a group, as they stand now (R172). -/
def Station.sample (g : StatusGroup) (s : Station) : StatusContents :=
  { state := s.startup.state, flags := s.records.flags, tally := s.claims.tally, tare := s.measurement.tare
    factor := s.measurement.factor, version := s.cfg.version, counts := s.groupCounts g }

/-- The pending mark of a group: its accumulated clear mask (R171). -/
def PendingStatus.get (p : PendingStatus) : StatusGroup → Option (BitVec 13)
  | .sensing => p.sensing
  | .correlation => p.correlation
  | .link => p.link

/-- The marks with one group's replaced. -/
def PendingStatus.set (p : PendingStatus) (g : StatusGroup) (m : Option (BitVec 13)) : PendingStatus :=
  match g with
  | .sensing => { p with sensing := m }
  | .correlation => { p with correlation := m }
  | .link => { p with link := m }

/-- A STATUS's clear mask applied once, and its group's pending mark cleared (R172). -/
def Station.applyMask (g : StatusGroup) (s : Station) : Station :=
  let s1 := s.clearFlags ((s.records.pending.get g).getD 0)
  { s1 with records := { s1.records with pending := s1.records.pending.set g none } }

/-- The body an attempt sends: a STATUS at its first attempt is sampled (R145, R172). -/
def Station.bodyToSend (b : Body) (s : Station) : Body :=
  match b with
  | .status g none => .status g (some (s.sample g))
  | _ => b

/-- What the first attempt of a STATUS clears (R172). -/
def Station.afterSampling (b : Body) (s : Station) : Station :=
  match b with
  | .status g none => s.applyMask g
  | _ => s

/-! ### Attempts (R144 to R150) -/

/-- The gate: open in JOINING once the join-quiet interval has ended, and in ACTIVE (R144). -/
def Station.mayTransmit (s : Station) : Bool :=
  s.link.gateOpen && (s.startup.state == .joining || s.startup.state == .active)

/-- The frame at a place goes ON LINE and its coded bits go on the line, whose first bit is dominant (R140, R145). -/
def Station.beginAt (place : Nat) (s : Station) : Station :=
  match s.link.txQueue[place]? with
  | none => s
  | some f =>
    let body := s.bodyToSend f.body
    let s1 := s.afterSampling f.body
    { s1 with link := { s1.link with
        txQueue := s1.link.txQueue.set place { f with body := body, standing := .onLine }
        sending := .frame (body.lineBits s.ownId), holding := false, lineIdle := false, reception := .seeking } }

/-- ATTEMPT_BEGIN at line idle: gate open, line idle, nothing ON LINE, no chain held, and a frame eligible (R145). -/
def Station.attemptBegins (s : Station) : Station :=
  if s.mayTransmit && s.link.lineIdle && !s.link.holding && s.link.sending == .quiet && s.onLine.isNone then
    match selectFrame s.link.txQueue with
    | some i => { s with link := { s.link with chain := 0 } }.beginAt i
    | none => s
  else s

/-- The station releases the line: chain count 0 (R150). -/
def Station.releaseLine (s : Station) : Station := { s with link := { s.link with holding := false, chain := 0 } }

/-- CHAIN_CONTINUATION at the fourth recessive bit time: the next eligible frame begins, or the line is released (R150). -/
def Station.chainContinues (s : Station) : Station :=
  if s.link.holding then
    match s.mayTransmit, selectFrame s.link.txQueue with
    | true, some i => s.beginAt i
    | _, _ => s.releaseLine
  else s

/-- COLLISION: the frame stops, the jam starts, a collision is counted; a chain ends (R146, R150). -/
def Station.collides (s : Station) : Station :=
  match s.link.sending with
  | .frame _ =>
    { s with link := { s.link with
        sending := .jam, holding := false, chain := 0
        counts := { s.link.counts with collisions := s.link.counts.collisions + 1 } } }
  | .quiet | .jam => s

/-- One step of the backoff generator (R147). -/
def backoffStep (g : BitVec 16) : BitVec 16 := if g.getLsbD 0 then (g >>> 1) ^^^ 0xB400 else g >>> 1

/-- The seed of a station id (R147). -/
def backoffSeed (id : Nat) : BitVec 16 := BitVec.ofNat 16 (id * 257 + 1)

/-- The backoff in slots of a draw's result at an attempt count (R147). -/
def backoffSlots (g : BitVec 16) (attempts : Nat) : Nat := 1 + g.toNat % 2 ^ min attempts 4

/-- The frame ON LINE takes an attempt count and a drawn backoff (R147, R148). -/
def Station.backOff (attempts : Nat) (s : Station) : Station :=
  let g := backoffStep s.link.generator
  { s with link := { s.link with
      generator := g
      txQueue := s.link.txQueue.map (fun f =>
        if f.standing = Standing.onLine then
          { f with attempts := attempts, standing := .backoff (backoffSlots g attempts) }
        else f) } }

/-- The frame ON LINE is abandoned: it leaves the queue, is counted, and its producer is told (R148, R122, R132, R184). -/
def Station.abandon (b : Body) (s : Station) : Station :=
  let s1 := s.countAbandon.departOnLine
  match b with
  | .claim k _ ref _ _ => s1.claimAbandoned k ref
  | .commit .. | .withdraw .. => s1.raise .txAbandon
  | .announce .. => (s1.raise .txAbandon).offerAnnounce
  | .deposit .. | .correction .. | .summary .. | .status .. => s1

/-- JAM_END: the collided frame leaves the queue if it was taken back, is abandoned at the retry limit, or draws a
backoff; the receiver takes up again (R146, R148, R151). -/
def Station.jamEnds (s : Station) : Station :=
  if s.link.sending = .jam then
    let s1 := { s with link := { s.link with sending := .quiet, reception := .seeking } }
    match s1.onLine with
    | none => s1
    | some f =>
      if f.takenBack then s1.departOnLine
      else if f.body.cls = .record then s1.backOff (min 15 (f.attempts + 1))
      else if f.attempts = s.cfg.retryLimit then s1.abandon f.body
      else s1.backOff (f.attempts + 1)
  else s

/-- BACKOFF_EXPIRY: the frame at a place, its backoff run out, becomes READY (R145, R147). -/
def Station.backoffExpires (place : Nat) (s : Station) : Station :=
  match s.link.txQueue[place]? with
  | none => s
  | some f =>
    match f.standing with
    | .backoff _ => { s with link := { s.link with txQueue := s.link.txQueue.set place { f with standing := .ready } } }
    | .ready | .onLine => s

/-- The chain after a clean completion: the line is held while the count stays below the hold budget (R150). -/
def Station.countChain (s : Station) : Station :=
  if s.link.chain + 1 < s.cfg.holdBudget then { s with link := { s.link with holding := true, chain := s.link.chain + 1 } }
  else s.releaseLine

/-- The clean completion of the station's ANNOUNCE in JOINING gives ACTIVE (R183). -/
def Station.announced (s : Station) : Station :=
  { s with startup := { s.startup with
      announce := .none
      state := if s.startup.state = .joining then .active else s.startup.state } }

/-- The producer of a cleanly completed frame is told (R149): a CLAIM settles, or gives a WITHDRAW if taken back (R121, R129,
R151); an ANNOUNCE makes the station ACTIVE (R183). -/
def Station.tellCompleted (f : TxFrame) (s : Station) : Station :=
  match f.body with
  | .claim k t ref _ _ => if f.takenBack then s.offerWithdraw k t ref else s.claimSent k ref
  | .announce .. => s.announced
  | .commit .. | .withdraw .. | .deposit .. | .correction .. | .summary .. | .status .. => s

/-- ATTEMPT_COMPLETE: the frame leaves the queue, is counted as sent, the chain goes on or ends, and the producer is told (R149, R150). -/
def Station.attemptCompletes (s : Station) : Station :=
  match s.link.sending with
  | .frame _ =>
    let s1 := { s with link := { s.link with
        sending := .quiet, reception := .seeking, counts := { s.link.counts with sent := s.link.counts.sent + 1 } } }.countChain
    match s1.onLine with
    | none => s1
    | some f => s1.departOnLine.tellCompleted f
  | .quiet | .jam => s

/-! ### The line (R140, R153) -/

/-- LINE_IDLE: after 12 recessive bit times, followed out of CONFIG LOAD while the station itself sends nothing. A line
that has gone idle is held no more (R140, R150). -/
def Station.lineGoesIdle (s : Station) : Station :=
  if s.ready && s.link.sending == .quiet then
    let s1 := if s.link.holding then s.releaseLine else s
    { s1 with link := { s1.link with lineIdle := true } }
  else s

/-- LINE_LEAVES_IDLE: the first dominant bit (R140). -/
def Station.lineLeaves (s : Station) : Station :=
  if s.ready then { s with link := { s.link with lineIdle := false } } else s

/-- LEAD_FOUND: the receiver, following the line, has recognised a lead and begins to take a frame; a lead has dominant bits, so the
line is not idle (R140, R153). The row has no bits: they come with FRAME_RECEIVED, and `afterLead` holds them to the lead before
anything is taken (R190, notes/assumptions/10.md). -/
def Station.leadIsFound (s : Station) : Station :=
  if s.ready && s.link.sending == .quiet then
    { s with link := { s.link with lineIdle := false, reception := .taking } }
  else s

/-- The receiver is in the middle of a frame (R153). -/
def Station.takingFrame (s : Station) : Bool := s.ready && s.link.sending == .quiet && s.link.reception == .taking

/-- A reception ended by a line error or a check mismatch is counted (R153). -/
def Station.checkFails (s : Station) : Station :=
  { s with link := { s.link with
      reception := .seeking, counts := { s.link.counts with checkFailures := s.link.counts.checkFailures + 1 } } }

/-- RX_LINE_ERROR: a line error drops the frame in reception at once (R153). -/
def Station.lineError (s : Station) : Station := if s.takingFrame then s.checkFails else s

end Sys2Proof.Machine
end

