-- ==== Sys2Proof/Machine/Startup.lean ====
section
/-! DEFINITION. The Start-up Controller (chapter 10), the operations that reach every block (power-on, lane restart, a
duplicate station id), and the receiving side with its deliveries (section 8.4). -/

namespace Sys2Proof.Machine

/-! ### Power-on and configuration (R177 to R182) -/

/-- POWER_ON: every block at its power-on state; the level of the restart input is the panel's and stays (R177). -/
def Station.powersOn (s : Station) : Station :=
  { Station.powerOn with startup := { Station.powerOn.startup with restartInput := s.startup.restartInput } }

/-- What the station drives on data out of the configuration port: while select is active the read's instruction and address bytes,
each most significant bit first, and nothing once the port is idle (R178). -/
def Station.configDataOut (s : Station) : List Bool :=
  if s.startup.portSelect then Config.configReadCommand.flatMap byteBits else []

/-- The settings handed to every block, the scale factor among them; the read is over (R73, R178, R182). From here on the
line is followed, and it is taken to be busy (R140). -/
def Station.takeSettings (c : Settings) (s : Station) : Station :=
  { s with
    measurement := { s.measurement with factor := c.scaleFactor }
    link := { s.link with lineIdle := false }
    startup := { s.startup with settings := some c, portSelect := false } }

/-- LISTEN-ONLY entered from CONFIG LOAD (R182). -/
def Station.enterListenOnly (s : Station) : Station := { s with startup := { s.startup with state := .listenOnly } }

/-- JOINING entered with a station id: the join-quiet timer starts, the generator is seeded (R147, R182). -/
def Station.enterJoining (id : Nat) (s : Station) : Station :=
  { s with
    link := { s.link with generator := backoffSeed id }
    startup := { s.startup with state := .joining, stationId := some id, joinTimer := some s.clock } }

/-- CONFIG_READ_COMPLETE: the signature, the fields, and the next state (R179 to R182). -/
def Station.configRead (block : ConfigBlock) (s : Station) : Station :=
  if s.startup.state ≠ .configLoad then s
  else if !signatureRight block then (s.takeSettings Settings.defaults).enterListenOnly
  else
    let s1 := s.takeSettings (configuredSettings block)
    let s2 := if configAdjusted block then s1.raise .configAdjusted else s1
    match configuredId block with
    | none => s2.enterListenOnly
    | some id => s2.enterJoining id

/-- JOIN_QUIET_EXPIRY: at the join-quiet interval in JOINING, the gate opens and an ANNOUNCE is offered (R183). -/
def Station.joinQuietEnds (s : Station) : Station :=
  match s.startup.joinTimer with
  | none => s
  | some start =>
    if s.startup.state = .joining ∧ age start s.clock = s.cfg.joinQuiet then
      { s with
        link := { s.link with gateOpen := true }
        startup := { s.startup with joinTimer := none } }.offerAnnounce
    else s

/-! ### A duplicate station id (R185) -/

/-- Remove every departed item, as in LISTEN-ONLY (R17, R176). -/
def Station.removeDeparted (s : Station) : Station :=
  (s.lane.queue.filter (fun i => i.departed)).foldl (fun t i => t.removeItem i.ref true) s

/-- The queue flushed, the gate closed (R144, R152). -/
def Station.flushTransmit (s : Station) : Station :=
  { s with link := { s.link with txQueue := [], gateOpen := false } }

/-- The Record Builder's part: slot and pending marks emptied, waiting items released (R176). -/
def Station.stopRecords (s : Station) : Station :=
  { s with records := { s.records with
      overflow := none, pending := { sensing := none, correlation := none, link := none } } }.removeDeparted

/-- The Claim Engine's part: items in flight rejected, own claims removed, no WITHDRAW (R139). -/
def Station.stopClaims (s : Station) : Station :=
  { s with lane := { s.lane with queue := s.lane.queue.map Item.rejectInFlight } }.removeOwnClaims

/-- An own-id frame in JOINING or ACTIVE: LISTEN-ONLY, DUPLICATE ID, and each block's part (R185). -/
def Station.duplicateId (s : Station) : Station :=
  if s.startup.state = .joining ∨ s.startup.state = .active then
    let s1 := { s with startup := { s.startup with state := .listenOnly, joinTimer := none, announce := .none } }
    (((s1.raise .duplicateId).flushTransmit).stopClaims).stopRecords
  else s

/-! ### Lane restart (R189) -/

/-- The lane emptied: queue, sensor owner, diverter (R22). -/
def Station.clearLane (s : Station) : Station :=
  { s with lane := { s.lane with queue := [], sensorOwner := none, diverterChute := 0, diverterHolder := none } }

/-- A lane restart, one operation: the claims finalized in queue order before the lane is emptied, the other blocks reset (R22,
R38, R74, R89, R115, R138, R189). -/
def Station.laneRestart (s : Station) : Station :=
  let s1 := (s.lane.queue.foldl Station.restartClaim s).removeOwnClaims
  let s2 := s1.clearLane.closeContext .interrupted
  { s2 with
    receivers := PerHead.same Receiver.restarted
    measurement := s2.measurement.restarted }

/-- LOCAL_RESTART: the input's change from inactive to active gives a lane restart in a ready state (R188). -/
def Station.restartPressed (s : Station) : Station :=
  if s.startup.restartInput then s
  else
    let s1 := { s with startup := { s.startup with restartInput := true } }
    if s.ready then s1.laneRestart else s1

/-- LOCAL_RESTART_RELEASE: the input returns to inactive (R188). -/
def Station.restartReleased (s : Station) : Station := { s with startup := { s.startup with restartInput := false } }

/-! ### Reception (R153 to R155) -/

/-- A good frame enters the receive queue, or is dropped at a full one with every settling and waiting item marked (R155, R126). -/
def Station.enqueueReceived (f : RxFrame) (s : Station) : Station :=
  if s.link.rxQueue.length < Config.rxCapacity then
    { s with link := { s.link with rxQueue := s.link.rxQueue ++ [f] } }
  else
    ((s.countLink (fun c => { c with rxDrops := c.rxDrops + 1 })).raise .rxOverflow).markAllUnconfirmed

/-- The own-id report of a good frame (R154). -/
def Station.ownIdReport (f : RxFrame) (s : Station) : Station :=
  if s.startup.stationId = some f.source.toNat then s.duplicateId else s

/-- A whole frame has been taken: a check mismatch, or a good frame (R153 to R155). -/
def Station.frameTaken (f : RxFrame) (s : Station) : Station :=
  if goodFrame f then ({ s with link := { s.link with reception := .seeking } }.ownIdReport f).enqueueReceived f
  else s.checkFails

/-- FRAME_RECEIVED: the line's bits, from the recessive bit times before the lead on, end the reception, in a good frame or a check
failure (R153 to R155). Bits with no lead in front are no frame: the receiver has taken nothing, and looks for a lead (R190). Bits that
spell no end yet leave the reception open (both the model's choice, notes/assumptions/10.md). -/
def Station.frameEnds (bits : List Bool) (s : Station) : Station :=
  if s.takingFrame then
    match receive bits with
    | .frame f => s.frameTaken f
    | .lineError => s.checkFails
    | .noLead => { s with link := { s.link with reception := .seeking } }
    | .unfinished => s
  else s

/-! ### Deliveries (R156, R157, R171, R183) -/

/-- The frame at the front of the receive queue, if its delivery is of a given kind, with the station after it is taken (R156). -/
def Station.takeFront (d : Delivery) (s : Station) : Option (RxFrame × Station) :=
  match s.link.rxQueue with
  | [] => none
  | f :: rest =>
    if s.ready && decide (classify s.startup.stationId f = d) then
      some (f, { s with link := { s.link with rxQueue := rest } })
    else none

/-- The tally at a place of a payload. -/
def tallyField (p : List Byte) (place : Nat) : Tally := BitVec.ofNat 24 (payloadField p place 3)

/-- The item ref at a place of a payload. -/
def refField (p : List Byte) (place : Nat) : ItemRef := BitVec.ofNat 16 (payloadField p place 2)

/-- A station's frame: from source 0 it is unusable and carries no tally; otherwise its tally is adopted, an unusable key
or content is counted, and the rest is merged (R103, R116, R156). -/
def Station.stationFrame (f : RxFrame) (usable : Bool) (merge : Key → Station → Station) (s : Station) : Station :=
  if f.source.toNat = 0 then s.countUnusable
  else
    let s1 := s.adopt (tallyField f.payload 7)
    match heardKey f.payload 0, usable with
    | some k, true => merge k s1
    | _, _ => s1.countUnusable

/-- A delivered CLAIM (R104; layout of section 11.3). -/
def Station.deliverClaim (f : RxFrame) (s : Station) : Station :=
  s.stationFrame f true (fun k => Station.mergeClaim k (tallyField f.payload 7) f.source.toNat (refField f.payload 10)
    (payloadField f.payload 12 1) (payloadField f.payload 13 1 % 2 == 1))

/-- A delivered COMMIT; an ordinal of 0 is unusable (R103, R105). -/
def Station.deliverCommit (f : RxFrame) (s : Station) : Station :=
  s.stationFrame f (payloadField f.payload 12 1 != 0) (fun k => Station.mergeCommit k (tallyField f.payload 7)
    f.source.toNat (refField f.payload 10) (payloadField f.payload 12 1))

/-- A delivered WITHDRAW (R106). -/
def Station.deliverWithdraw (f : RxFrame) (s : Station) : Station :=
  s.stationFrame f true (fun k => Station.mergeWithdraw k f.source.toNat (refField f.payload 10))

/-- A delivered HOLDINGS: its answered tally is adopted, and it is merged if its key is usable (R103, R107, R116). -/
def Station.deliverHoldings (f : RxFrame) (s : Station) : Station :=
  let t := tallyField f.payload 9
  let s1 := s.adopt t
  match heardKey f.payload 0 with
  | some k => s1.mergeHoldings k (payloadField f.payload 7 1) (payloadField f.payload 8 1) t
  | none => s1.countUnusable

/-- A STATUS REQUEST: the mask joins a pending STATUS of the group, or a STATUS is built and offered; nothing in LISTEN-ONLY (R171). -/
def Station.requestStatus (g : StatusGroup) (mask : BitVec 13) (s : Station) : Station :=
  if s.listening then s
  else
    match s.records.pending.get g with
    | some m => { s with records := { s.records with pending := s.records.pending.set g (some (m ||| mask)) } }
    | none =>
      let s1 := s.offerRecord (.status g none)
      if s.placing = .lost then s1
      else { s1 with records := { s1.records with pending := s1.records.pending.set g (some mask) } }

/-- A delivered STATUS REQUEST: group, then clear mask (section 11.3). -/
def Station.deliverStatusRequest (f : RxFrame) (s : Station) : Station :=
  s.requestStatus (StatusGroup.ofNumber (payloadField f.payload 0 1)) (BitVec.ofNat 13 (payloadField f.payload 1 2))

/-- A delivery of one kind: the front frame is taken and handed to its owner; with no such frame in front nothing is delivered. -/
def Station.deliver (d : Delivery) (use : RxFrame → Station → Station) (s : Station) : Station :=
  match s.takeFront d with
  | none => s
  | some (f, s1) => use f s1

end Sys2Proof.Machine
end

