-- ==== Sys2Proof/Machine/Run.lean ====
section
/-! DEFINITION. How a meaning is made of an operation on the station: the queue of waiting commands is left alone, and the
outcome is a next state (notes/assumptions/2.md). -/

namespace Sys2Proof.Machine

/-- The machine after an operation on its station. -/
def State.run (f : Station → Station) (s : State) : Host.Outcome State Fault Refusal :=
  .next { s with station := f s.station }

end Sys2Proof.Machine
end

