-- ==== Sys2Proof/Machine/ExecCorrelation.lean ====
section
/-! DEFINITION. The meanings of the timed commands of the Correlation Table and the Claim Engine (chapters 6 and 7): one definition for each command, over the station's operations. -/

namespace Sys2Proof.Machine

/-- SETTLE_EXPIRY (R123). -/
def execSettleExpiry (ref : ItemRef) (s : State) : Host.Outcome State Fault Refusal :=
  s.run (Station.settleExpires ref)

/-- CLAIM_EXPIRY (R108). -/
def execClaimExpiry (key : Key) (station : Nat) (ref : ItemRef) (s : State) : Host.Outcome State Fault Refusal :=
  s.run (Station.claimExpires key station ref)

/-- REQUESTED_LAPSE (R109). -/
def execRequestedLapse (key : Key) (s : State) : Host.Outcome State Fault Refusal :=
  s.run (Station.requestLapses key)

end Sys2Proof.Machine
end

