-- ==== Sys2Proof/Machine/ExecLane.lean ====
section
/-! DEFINITION. The meanings of the commands of the Lane Tracker (chapter 1): one definition for each command, over the station's operations. -/

namespace Sys2Proof.Machine

/-- ENCODER_FORWARD_COUNT (R1). -/
def execEncoderForwardCount (s : State) : Host.Outcome State Fault Refusal :=
  s.run Station.forwardCount

/-- ENCODER_REVERSE_COUNT: ignored, and no lane event (R1). -/
def execEncoderReverseCount (s : State) : Host.Outcome State Fault Refusal :=
  s.run (fun x => x)

/-- LEADING_EDGE (R3). -/
def execLeadingEdge (s : State) : Host.Outcome State Fault Refusal :=
  s.run Station.leadingEdge

/-- TRAILING_EDGE (R5). -/
def execTrailingEdge (s : State) : Host.Outcome State Fault Refusal :=
  s.run Station.trailingEdge

/-- OVERLONG_CLOSE_OFF (R6). -/
def execOverlongCloseOff (s : State) : Host.Outcome State Fault Refusal :=
  s.run Station.overlongCloseOff

/-- WINDOW_OPEN (R10). -/
def execWindowOpen (ref : ItemRef) (head : Head) (s : State) : Host.Outcome State Fault Refusal :=
  s.run (Station.windowOpens ref head)

/-- WINDOW_CLOSE (R11). -/
def execWindowClose (ref : ItemRef) (head : Head) (s : State) : Host.Outcome State Fault Refusal :=
  s.run (Station.windowCloses ref head)

/-- DECISION_DUE (R15). -/
def execDecisionDue (ref : ItemRef) (s : State) : Host.Outcome State Fault Refusal :=
  s.run (Station.decisionDue ref)

/-- DIVERT_POINT (R16). -/
def execDivertPoint (ref : ItemRef) (s : State) : Host.Outcome State Fault Refusal :=
  s.run (Station.divertPoint ref)

/-- DEPARTURE (R17). -/
def execDeparture (ref : ItemRef) (s : State) : Host.Outcome State Fault Refusal :=
  s.run (Station.departs ref)

end Sys2Proof.Machine
end

