-- ==== Sys2Proof/Machine/ExecLink.lean ====
section
/-! DEFINITION. The meanings of the commands of the dock link's line (chapter 8): one definition for each command, over the station's operations. -/

namespace Sys2Proof.Machine

/-- LINE_IDLE (R140). -/
def execLineIdle (s : State) : Host.Outcome State Fault Refusal :=
  s.run Station.lineGoesIdle

/-- ATTEMPT_BEGIN (R145). -/
def execAttemptBegin (s : State) : Host.Outcome State Fault Refusal :=
  s.run Station.attemptBegins

/-- CHAIN_CONTINUATION (R150). -/
def execChainContinuation (s : State) : Host.Outcome State Fault Refusal :=
  s.run Station.chainContinues

/-- COLLISION (R146). -/
def execCollision (s : State) : Host.Outcome State Fault Refusal :=
  s.run Station.collides

/-- JAM_END (R148). -/
def execJamEnd (s : State) : Host.Outcome State Fault Refusal :=
  s.run Station.jamEnds

/-- BACKOFF_EXPIRY (R147). -/
def execBackoffExpiry (place : Nat) (s : State) : Host.Outcome State Fault Refusal :=
  s.run (Station.backoffExpires place)

/-- ATTEMPT_COMPLETE (R149). -/
def execAttemptComplete (s : State) : Host.Outcome State Fault Refusal :=
  s.run Station.attemptCompletes

/-- FRAME_RECEIVED (R153). -/
def execFrameReceived (bits : List Bool) (s : State) : Host.Outcome State Fault Refusal :=
  s.run (Station.frameEnds bits)

/-- RX_LINE_ERROR (R153). -/
def execRxLineError (s : State) : Host.Outcome State Fault Refusal := s.run Station.lineError

/-- LINE_LEAVES_IDLE (R140). -/
def execLineLeavesIdle (s : State) : Host.Outcome State Fault Refusal :=
  s.run Station.lineLeaves

/-- LEAD_FOUND (R153). -/
def execLeadFound (s : State) : Host.Outcome State Fault Refusal :=
  s.run Station.leadIsFound

end Sys2Proof.Machine
end

