-- ==== Sys2Proof/Machine/ExecReceive.lean ====
section
/-! DEFINITION. The meanings of the deliveries from the receive queue (R156, R157): one definition for each command, over the station's operations. -/

namespace Sys2Proof.Machine

/-- HEARD_CLAIM (R104). -/
def execHeardClaim (s : State) : Host.Outcome State Fault Refusal :=
  s.run (Station.deliver .claim Station.deliverClaim)

/-- HEARD_COMMIT (R105). -/
def execHeardCommit (s : State) : Host.Outcome State Fault Refusal :=
  s.run (Station.deliver .commit Station.deliverCommit)

/-- HEARD_WITHDRAW (R106). -/
def execHeardWithdraw (s : State) : Host.Outcome State Fault Refusal :=
  s.run (Station.deliver .withdraw Station.deliverWithdraw)

/-- HEARD_HOLDINGS (R107). -/
def execHeardHoldings (s : State) : Host.Outcome State Fault Refusal :=
  s.run (Station.deliver .holdings Station.deliverHoldings)

/-- HEARD_ANNOUNCE: the tally is compared, and nothing else follows (R183). -/
def execHeardAnnounce (s : State) : Host.Outcome State Fault Refusal :=
  s.run (Station.deliver .announce (fun f => Station.adopt (tallyField f.payload 0)))

/-- STATUS_REQUEST (R171). -/
def execStatusRequest (s : State) : Host.Outcome State Fault Refusal :=
  s.run (Station.deliver .statusRequest Station.deliverStatusRequest)

/-- CALIBRATE (R67). -/
def execCalibrate (s : State) : Host.Outcome State Fault Refusal :=
  s.run (Station.deliver .calibrate (fun f => Station.calibrateRequest (payloadField f.payload 0 2)))

/-- RESTART (R189). -/
def execRestart (s : State) : Host.Outcome State Fault Refusal :=
  s.run (Station.deliver .restart (fun _ => Station.laneRestart))

/-- MISDIRECTED_FRAME: counted, not delivered (R156). -/
def execMisdirectedFrame (s : State) : Host.Outcome State Fault Refusal :=
  s.run (Station.deliver .misdirected (fun _ => Station.countLink (fun c => { c with misdirected := c.misdirected + 1 })))

/-- MALFORMED_FRAME: discarded and counted (R157). -/
def execMalformedFrame (s : State) : Host.Outcome State Fault Refusal :=
  s.run (Station.deliver .malformed (fun _ => Station.countLink (fun c => { c with malformed := c.malformed + 1 })))

/-- UNADDRESSED_FRAME: taken from the queue and not delivered, uncounted (R156). -/
def execUnaddressedFrame (s : State) : Host.Outcome State Fault Refusal :=
  s.run (Station.deliver .unaddressed (fun _ s => s))

end Sys2Proof.Machine
end

