-- ==== Sys2Proof/Machine/ExecSensing.lean ====
section
/-! DEFINITION. The meanings of the commands of the Head Receivers and the Measurement Unit (chapters 2 and 4): one definition for each command, over the station's operations. -/

namespace Sys2Proof.Machine

/-- HEAD_SYMBOL_ARRIVAL (R23). -/
def execHeadSymbolArrival (head : Head) (symbol : Symbol) (s : State) : Host.Outcome State Fault Refusal :=
  s.run (Station.symbolArrives head symbol)

/-- FRAMER_TAKE_SYMBOL (R25). -/
def execFramerTakeSymbol (head : Head) (s : State) : Host.Outcome State Fault Refusal :=
  s.run (Station.framerTake head)

/-- HAND_OVER (R34). -/
def execHandOver (head : Head) (s : State) : Host.Outcome State Fault Refusal :=
  s.run (Station.handsOver head)

/-- WEIGHT_COMPLETION (R63). -/
def execWeightCompletion (ref : ItemRef) (s : State) : Host.Outcome State Fault Refusal :=
  s.run (Station.weightCompletes ref)

end Sys2Proof.Machine
end

