-- ==== Sys2Proof/Machine/ExecStartup.lean ====
section
/-! DEFINITION. The meanings of the commands of the Start-up Controller, the clock and the lane restart (chapter 10, R90): one definition for each command, over the station's operations. -/

namespace Sys2Proof.Machine

/-- POWER_ON (R177). -/
def execPowerOn (s : State) : Host.Outcome State Fault Refusal :=
  s.run Station.powersOn

/-- CONFIG_READ_COMPLETE (R182). -/
def execConfigReadComplete (block : Vector Bool 512) (s : State) : Host.Outcome State Fault Refusal :=
  s.run (Station.configRead block)

/-- MILLISECOND_TICK (R90). -/
def execMillisecondTick (s : State) : Host.Outcome State Fault Refusal :=
  s.run Station.tick

/-- JOIN_QUIET_EXPIRY (R183). -/
def execJoinQuietExpiry (s : State) : Host.Outcome State Fault Refusal :=
  s.run Station.joinQuietEnds

/-- LOCAL_RESTART (R188). -/
def execLocalRestart (s : State) : Host.Outcome State Fault Refusal :=
  s.run Station.restartPressed

/-- LOCAL_RESTART_RELEASE (R188). -/
def execLocalRestartRelease (s : State) : Host.Outcome State Fault Refusal :=
  s.run Station.restartReleased

end Sys2Proof.Machine
end

