-- ==== Sys2Proof/Machine/Dispatch.lean ====
section
/-! DEFINITION. One arm for each command: a direct call of its meaning. -/

namespace Sys2Proof.Machine

def exec (i : Instr) (s : State) : Host.Outcome State Fault Refusal :=
  match i with
  | .powerOn => Sys2Proof.Machine.execPowerOn s
  | .configReadComplete block => Sys2Proof.Machine.execConfigReadComplete block s
  | .millisecondTick => Sys2Proof.Machine.execMillisecondTick s
  | .encoderForwardCount => Sys2Proof.Machine.execEncoderForwardCount s
  | .encoderReverseCount => Sys2Proof.Machine.execEncoderReverseCount s
  | .leadingEdge => Sys2Proof.Machine.execLeadingEdge s
  | .trailingEdge => Sys2Proof.Machine.execTrailingEdge s
  | .overlongCloseOff => Sys2Proof.Machine.execOverlongCloseOff s
  | .windowOpen ref head => Sys2Proof.Machine.execWindowOpen ref head s
  | .windowClose ref head => Sys2Proof.Machine.execWindowClose ref head s
  | .weightCompletion ref => Sys2Proof.Machine.execWeightCompletion ref s
  | .decisionDue ref => Sys2Proof.Machine.execDecisionDue ref s
  | .divertPoint ref => Sys2Proof.Machine.execDivertPoint ref s
  | .departure ref => Sys2Proof.Machine.execDeparture ref s
  | .headSymbolArrival head symbol => Sys2Proof.Machine.execHeadSymbolArrival head symbol s
  | .framerTakeSymbol head => Sys2Proof.Machine.execFramerTakeSymbol head s
  | .handOver head => Sys2Proof.Machine.execHandOver head s
  | .settleExpiry ref => Sys2Proof.Machine.execSettleExpiry ref s
  | .claimExpiry key station ref => Sys2Proof.Machine.execClaimExpiry key station ref s
  | .requestedLapse key => Sys2Proof.Machine.execRequestedLapse key s
  | .joinQuietExpiry => Sys2Proof.Machine.execJoinQuietExpiry s
  | .lineIdle => Sys2Proof.Machine.execLineIdle s
  | .attemptBegin => Sys2Proof.Machine.execAttemptBegin s
  | .chainContinuation => Sys2Proof.Machine.execChainContinuation s
  | .collision => Sys2Proof.Machine.execCollision s
  | .jamEnd => Sys2Proof.Machine.execJamEnd s
  | .backoffExpiry place => Sys2Proof.Machine.execBackoffExpiry place s
  | .attemptComplete => Sys2Proof.Machine.execAttemptComplete s
  | .frameReceived bits => Sys2Proof.Machine.execFrameReceived bits s
  | .rxLineError => Sys2Proof.Machine.execRxLineError s
  | .heardClaim => Sys2Proof.Machine.execHeardClaim s
  | .heardCommit => Sys2Proof.Machine.execHeardCommit s
  | .heardWithdraw => Sys2Proof.Machine.execHeardWithdraw s
  | .heardHoldings => Sys2Proof.Machine.execHeardHoldings s
  | .heardAnnounce => Sys2Proof.Machine.execHeardAnnounce s
  | .statusRequest => Sys2Proof.Machine.execStatusRequest s
  | .calibrate => Sys2Proof.Machine.execCalibrate s
  | .restart => Sys2Proof.Machine.execRestart s
  | .localRestart => Sys2Proof.Machine.execLocalRestart s
  | .misdirectedFrame => Sys2Proof.Machine.execMisdirectedFrame s
  | .malformedFrame => Sys2Proof.Machine.execMalformedFrame s
  | .unaddressedFrame => Sys2Proof.Machine.execUnaddressedFrame s
  | .localRestartRelease => Sys2Proof.Machine.execLocalRestartRelease s
  | .lineLeavesIdle => Sys2Proof.Machine.execLineLeavesIdle s
  | .leadFound => Sys2Proof.Machine.execLeadFound s

end Sys2Proof.Machine
end

