-- ==== Sys2Proof/Safety.lean ====
section
/-! DEFINITION. The terms in which claims about the station are made: the pieces of its state by owner, what each command
may touch, and the invariants that rule out the states no station can be in. -/

namespace Sys2Proof.Machine

/-! ### What a command may touch -/

/-- The pieces of the station's state, grouped by owner (00_scope.md's table of owners). -/
inductive Block where
  /-- the millisecond count (R90) -/
  | clock
  /-- the encoder position (R1) -/
  | position
  /-- the Item Queue with its records (R7) -/
  | items
  /-- the next item ref (R3) -/
  | nextRef
  /-- the sensor owner (R2) -/
  | sensorOwner
  /-- the diverter's chute and holder (section 1.8) -/
  | diverter
  /-- the four lane counts (R20) -/
  | laneCounts
  /-- the four Head Receivers (section 2.1) -/
  | receivers
  /-- the four head counts (R36) -/
  | headCounts
  /-- the Key Builder's counts (R52) -/
  | keyCounts
  /-- the two sample buffers with their computations (R56, R59) -/
  | buffers
  /-- the tare and the rejected-run count (R64, R66) -/
  | tare
  /-- the scale factor (R69) -/
  | factor
  /-- the calibration record (R67) -/
  | calibration
  /-- the Measurement Unit's counts (R72) -/
  | measureCounts
  /-- the consignment context (section 5.1) -/
  | context
  /-- the Consignment Tracker's counts (R88) -/
  | trackerCounts
  /-- the Correlation Table's entries in touch order (R91, R98) -/
  | entries
  /-- the table's counts (R113) -/
  | tableCounts
  /-- the tally T (R116) -/
  | tally
  /-- the Claim Engine's counts (R136) -/
  | claimCounts
  /-- the transmit queue (R141) -/
  | txQueue
  /-- the receive queue (R155) -/
  | rxQueue
  /-- what the station does on the line and knows of it (R140, R145, R146, R150, R153) -/
  | line
  /-- the backoff generator (R147) -/
  | generator
  /-- the transmit gate (R144) -/
  | gate
  /-- the Link Controller's counts (R158) -/
  | linkCounts
  /-- the overflow slot (R167) -/
  | overflow
  /-- the pending STATUS marks (R171) -/
  | pendingStatus
  /-- the thirteen sticky flags (R173) -/
  | flags
  /-- the Record Builder's counts (R174) -/
  | recordCounts
  /-- the station state (R177) -/
  | stationState
  /-- the configuration values, the station id and the configuration port (R177, R178) -/
  | settings
  /-- the join-quiet timer (R183) -/
  | joinTimer
  /-- the standing of the ANNOUNCE (R184) -/
  | announce
  /-- the level of the local restart input (R188) -/
  | restartInput
deriving DecidableEq, Repr

/-- Two stations hold the same in a piece of their state. -/
def Block.same (b : Block) (s t : Station) : Prop :=
  match b with
  | .clock => t.clock = s.clock
  | .position => t.lane.pos = s.lane.pos
  | .items => t.lane.queue = s.lane.queue
  | .nextRef => t.lane.nextRef = s.lane.nextRef
  | .sensorOwner => t.lane.sensorOwner = s.lane.sensorOwner
  | .diverter => t.lane.diverterChute = s.lane.diverterChute ∧ t.lane.diverterHolder = s.lane.diverterHolder
  | .laneCounts => t.lane.counts = s.lane.counts
  | .receivers => t.receivers = s.receivers
  | .headCounts => t.headCounts = s.headCounts
  | .keyCounts => t.keyCounts = s.keyCounts
  | .buffers => t.measurement.bufferA = s.measurement.bufferA ∧ t.measurement.bufferB = s.measurement.bufferB
  | .tare => t.measurement.tare = s.measurement.tare ∧ t.measurement.rejectedRun = s.measurement.rejectedRun
  | .factor => t.measurement.factor = s.measurement.factor
  | .calibration => t.measurement.calibration = s.measurement.calibration
  | .measureCounts => t.measurement.counts = s.measurement.counts
  | .context => t.tracker.context = s.tracker.context
  | .trackerCounts => t.tracker.matches_ = s.tracker.matches_ ∧ t.tracker.issued = s.tracker.issued
  | .entries => t.table.entries = s.table.entries
  | .tableCounts => t.table.counts = s.table.counts
  | .tally => t.claims.tally = s.claims.tally
  | .claimCounts => t.claims.counts = s.claims.counts
  | .txQueue => t.link.txQueue = s.link.txQueue
  | .rxQueue => t.link.rxQueue = s.link.rxQueue
  | .line => t.link.sending = s.link.sending ∧ t.link.holding = s.link.holding ∧ t.link.chain = s.link.chain ∧ t.link.lineIdle = s.link.lineIdle ∧ t.link.reception = s.link.reception
  | .generator => t.link.generator = s.link.generator
  | .gate => t.link.gateOpen = s.link.gateOpen
  | .linkCounts => t.link.counts = s.link.counts
  | .overflow => t.records.overflow = s.records.overflow
  | .pendingStatus => t.records.pending = s.records.pending
  | .flags => t.records.flags = s.records.flags
  | .recordCounts => t.records.counts = s.records.counts
  | .stationState => t.startup.state = s.startup.state
  | .settings => t.startup.settings = s.startup.settings ∧ t.startup.stationId = s.startup.stationId ∧ t.startup.portSelect = s.startup.portSelect
  | .joinTimer => t.startup.joinTimer = s.startup.joinTimer
  | .announce => t.startup.announce = s.startup.announce
  | .restartInput => t.startup.restartInput = s.startup.restartInput

/-- Every piece of the state outside a list is the same in two stations. -/
def Changes (bs : List Block) (s t : Station) : Prop := ∀ b : Block, b ∉ bs → b.same s t

/-- The families of commands, by the block of the station they reach first. -/
inductive Family where
  | startup
  | lane
  | sensing
  | correlation
  | link
  | delivery
deriving DecidableEq, Repr

/-- The family of a command. -/
def family (c : Instr) : Family :=
  match c with
  | .powerOn => .startup
  | .configReadComplete _ => .startup
  | .millisecondTick => .startup
  | .encoderForwardCount => .lane
  | .encoderReverseCount => .lane
  | .leadingEdge => .lane
  | .trailingEdge => .lane
  | .overlongCloseOff => .lane
  | .windowOpen _ _ => .lane
  | .windowClose _ _ => .lane
  | .weightCompletion _ => .sensing
  | .decisionDue _ => .lane
  | .divertPoint _ => .lane
  | .departure _ => .lane
  | .headSymbolArrival _ _ => .sensing
  | .framerTakeSymbol _ => .sensing
  | .handOver _ => .sensing
  | .settleExpiry _ => .correlation
  | .claimExpiry _ _ _ => .correlation
  | .requestedLapse _ => .correlation
  | .joinQuietExpiry => .startup
  | .lineIdle => .link
  | .attemptBegin => .link
  | .chainContinuation => .link
  | .collision => .link
  | .jamEnd => .link
  | .backoffExpiry _ => .link
  | .attemptComplete => .link
  | .frameReceived _ => .link
  | .rxLineError => .link
  | .heardClaim => .delivery
  | .heardCommit => .delivery
  | .heardWithdraw => .delivery
  | .heardHoldings => .delivery
  | .heardAnnounce => .delivery
  | .statusRequest => .delivery
  | .calibrate => .delivery
  | .restart => .delivery
  | .localRestart => .startup
  | .misdirectedFrame => .delivery
  | .malformedFrame => .delivery
  | .unaddressedFrame => .delivery
  | .localRestartRelease => .startup
  | .lineLeavesIdle => .link
  | .leadFound => .link

/-- The pieces of state a command may touch: those its rules and 95_what_each_step_holds.md name for it. -/
def touches (c : Instr) : List Block :=
  match c with
  | .powerOn => 
      [.clock, .position, .items, .nextRef, .sensorOwner, .diverter, .laneCounts, .receivers, .headCounts,
       .keyCounts, .buffers, .tare, .factor, .calibration, .measureCounts, .context, .trackerCounts, .entries,
       .tableCounts, .tally, .claimCounts, .txQueue, .rxQueue, .line, .generator, .gate, .linkCounts,
       .overflow, .pendingStatus, .flags, .recordCounts, .stationState, .settings, .joinTimer, .announce]
  | .configReadComplete _ => [.factor, .line, .generator, .flags, .stationState, .settings, .joinTimer]
  | .millisecondTick => [.clock, .entries]
  | .encoderForwardCount => [.position]
  | .encoderReverseCount => []
  | .leadingEdge => [.items, .nextRef, .sensorOwner, .laneCounts, .calibration, .flags]
  | .trailingEdge => [.items, .sensorOwner, .laneCounts, .buffers, .calibration, .flags]
  | .overlongCloseOff => [.items, .sensorOwner]
  | .windowOpen _ _ => [.items, .calibration]
  | .windowClose _ _ => 
      [.items, .keyCounts, .buffers, .calibration, .measureCounts, .context, .trackerCounts, .entries,
       .tableCounts, .tally, .claimCounts, .txQueue, .linkCounts, .overflow, .flags, .recordCounts]
  | .weightCompletion _ => 
      [.items, .buffers, .factor, .calibration, .context, .trackerCounts, .entries, .tableCounts, .flags]
  | .decisionDue _ => 
      [.items, .buffers, .calibration, .context, .trackerCounts, .entries, .tableCounts, .claimCounts,
       .txQueue, .linkCounts, .overflow, .flags, .recordCounts, .announce]
  | .divertPoint _ => [.items, .diverter]
  | .departure _ => [.items, .diverter, .buffers, .calibration, .txQueue, .overflow, .flags]
  | .headSymbolArrival _ _ => [.receivers, .headCounts, .flags]
  | .framerTakeSymbol _ => [.receivers, .headCounts, .flags]
  | .handOver _ => [.items, .laneCounts, .receivers, .keyCounts, .buffers, .tare, .measureCounts, .flags]
  | .settleExpiry _ => [.items, .entries, .claimCounts, .txQueue, .linkCounts, .flags]
  | .claimExpiry _ _ _ => [.items, .entries, .tableCounts, .claimCounts, .txQueue, .linkCounts, .flags]
  | .requestedLapse _ => [.entries]
  | .joinQuietExpiry => [.txQueue, .gate, .linkCounts, .flags, .joinTimer, .announce]
  | .lineIdle => [.line]
  | .attemptBegin => [.txQueue, .line, .pendingStatus, .flags]
  | .chainContinuation => [.txQueue, .line, .pendingStatus, .flags]
  | .collision => [.line, .linkCounts]
  | .jamEnd => 
      [.items, .buffers, .calibration, .entries, .claimCounts, .txQueue, .line, .generator, .linkCounts,
       .overflow, .flags, .announce]
  | .backoffExpiry _ => [.txQueue]
  | .attemptComplete => 
      [.items, .buffers, .calibration, .claimCounts, .txQueue, .line, .linkCounts, .overflow, .flags,
       .stationState, .announce]
  | .frameReceived _ => 
      [.items, .buffers, .calibration, .entries, .txQueue, .rxQueue, .line, .gate, .linkCounts, .overflow,
       .pendingStatus, .flags, .stationState, .joinTimer, .announce]
  | .rxLineError => [.line, .linkCounts]
  | .heardClaim => 
      [.items, .context, .entries, .tableCounts, .tally, .claimCounts, .txQueue, .rxQueue, .linkCounts,
       .flags]
  | .heardCommit => 
      [.items, .context, .entries, .tableCounts, .tally, .claimCounts, .txQueue, .rxQueue, .linkCounts,
       .overflow, .flags, .recordCounts]
  | .heardWithdraw => [.items, .entries, .tableCounts, .tally, .claimCounts, .txQueue, .rxQueue, .linkCounts, .flags]
  | .heardHoldings => 
      [.items, .context, .entries, .tableCounts, .tally, .claimCounts, .txQueue, .rxQueue, .linkCounts,
       .overflow, .flags, .recordCounts]
  | .heardAnnounce => [.tally, .rxQueue]
  | .statusRequest => [.txQueue, .rxQueue, .overflow, .pendingStatus, .recordCounts]
  | .calibrate => [.calibration, .rxQueue, .flags]
  | .restart => 
      [.items, .sensorOwner, .diverter, .receivers, .buffers, .calibration, .context, .entries, .claimCounts,
       .txQueue, .rxQueue, .linkCounts, .overflow, .flags, .recordCounts, .announce]
  | .localRestart => 
      [.items, .sensorOwner, .diverter, .receivers, .buffers, .calibration, .context, .entries, .claimCounts,
       .txQueue, .linkCounts, .overflow, .flags, .recordCounts, .announce, .restartInput]
  | .misdirectedFrame => [.rxQueue, .linkCounts]
  | .malformedFrame => [.rxQueue, .linkCounts]
  | .unaddressedFrame => [.rxQueue]
  | .localRestartRelease => [.restartInput]
  | .lineLeavesIdle => [.line]
  | .leadFound => [.line]

/-! ### Invariants -/

/-- An entry inside its limits: C at most 255 (R95), at most 6 pending claims (R93), at most 4 own committed records (R97). -/
structure Entry.Bounded (e : Entry) : Prop where
  committed : e.committed ≤ 255
  pending : e.pending.length ≤ Config.claimCapacity
  ownCommitted : e.ownCommitted.length ≤ Config.committedCapacity

/-- Every queue, buffer and list inside its capacity, and no two table entries with equal key (the capacities of 00_scope.md's
table of owners; R7, R23, R57, R66, R81, R91, R93, R95, R97, R141, R155). -/
structure Station.Bounded (s : Station) : Prop where
  items : s.lane.queue.length ≤ Config.itemCapacity
  fifos : ∀ h, (s.receivers.get h).fifo.length ≤ Config.fifoCapacity
  samplesA : s.measurement.bufferA.samples.length ≤ Config.bufferCapacity
  samplesB : s.measurement.bufferB.samples.length ≤ Config.bufferCapacity
  rejectedRun : s.measurement.rejectedRun ≤ 3
  roster : ∀ c, s.tracker.context = some c → c.roster.length ≤ Config.rosterCapacity
  entries : s.table.entries.length ≤ Config.tableCapacity
  keys : (s.table.entries.map Entry.key).Nodup
  entry : ∀ e ∈ s.table.entries, e.Bounded
  txQueue : s.link.txQueue.length ≤ Config.txCapacity
  rxQueue : s.link.rxQueue.length ≤ Config.rxCapacity

/-- Configured values inside the limits of section 10.3, D_dec and D_div as R181 leaves them. -/
structure Settings.InLimits (c : Settings) : Prop where
  distance : ∀ h, c.distance.get h ≤ 8191
  margin : ∀ h, c.margin.get h ≤ 255
  windowsEnd : ∀ h, c.closeDistance h < c.dDec
  decision : c.dDec ≤ 8447
  divertAfter : c.dDec < c.dDiv
  divert : c.dDiv ≤ 8448
  minLength : 10 ≤ c.minLength ∧ c.minLength ≤ 400
  maxLength : 50 ≤ c.maxLength ∧ c.maxLength ≤ 2000
  lengths : c.minLength ≤ c.maxLength
  itemHold : 2 ≤ c.itemHold ∧ c.itemHold ≤ 8
  txHold : 4 ≤ c.txHold ∧ c.txHold ≤ 16
  settleCount : 4 ≤ c.settleCount ∧ c.settleCount ≤ 16
  settleBand : 1 ≤ c.settleBand ∧ c.settleBand ≤ 1023
  tareLimit : 1 ≤ c.tareLimit ∧ c.tareLimit ≤ 4095
  scaleFactor : 1 ≤ c.scaleFactor ∧ c.scaleFactor ≤ 65535
  weightTolerance : 1 ≤ c.weightTolerance ∧ c.weightTolerance ≤ 255
  thicknessTolerance : 1 ≤ c.thicknessTolerance ∧ c.thicknessTolerance ≤ 255
  scanDepth : 1 ≤ c.scanDepth ∧ c.scanDepth ≤ 64
  claimLifetime : 100 ≤ c.claimLifetime ∧ c.claimLifetime ≤ 10000
  settleTime : 2 ≤ c.settleTime ∧ c.settleTime ≤ 250
  retryLimit : 1 ≤ c.retryLimit ∧ c.retryLimit ≤ 15
  holdBudget : 1 ≤ c.holdBudget ∧ c.holdBudget ≤ 4
  joinQuiet : 100 ≤ c.joinQuiet ∧ c.joinQuiet ≤ 5000

/-- Start-up in order: configured values inside their limits and held from CONFIG LOAD onwards, an id 1..31 and a generator
that is not 0 in JOINING and ACTIVE, and the gate open in no other state (R144, R147, R177, R181, R182). -/
structure Station.Started (s : Station) : Prop where
  limits : ∀ c, s.startup.settings = some c → c.InLimits
  configured : s.startup.state ≠ .configLoad → s.startup.settings.isSome
  idRange : ∀ id, s.startup.stationId = some id → 1 ≤ id ∧ id ≤ 31
  idHeld : s.startup.state = .joining ∨ s.startup.state = .active → s.startup.stationId.isSome
  seeded : s.startup.state = .joining ∨ s.startup.state = .active → s.link.generator ≠ 0
  gate : s.link.gateOpen → s.startup.state = .joining ∨ s.startup.state = .active

/-- The frames ON LINE. -/
def Station.framesOnLine (s : Station) : List TxFrame := s.link.txQueue.filter (fun f => f.standing = Standing.onLine)

/-- The line and the queue agree: one frame ON LINE while the station sends or jams, none otherwise, and the line is
held in a chain only while the station is quiet (section 8.2, R145, R146, R150); the diverter with no holder rests at chute 0 (R17). -/
structure Station.Coherent (s : Station) : Prop where
  oneOnLine : s.framesOnLine.length = if s.link.sending = .quiet then 0 else 1
  held : s.link.holding → s.link.sending = .quiet
  resting : s.lane.diverterHolder = none → s.lane.diverterChute = 0

/-- The station is as power-on left it, but for the millisecond count, the encoder position and the level of the restart input. -/
def Station.AsPoweredOn (s : Station) : Prop :=
  s = { Station.powerOn with
    clock := s.clock
    lane := { Station.powerOn.lane with pos := s.lane.pos }
    startup := { Station.powerOn.startup with restartInput := s.startup.restartInput } }

/-- In CONFIG LOAD nothing but the encoder, the millisecond count and the restart input's level reaches the station (R1, R2,
R23, R90, R159, R178, R188). -/
def Station.LoadingIdle (s : Station) : Prop := s.startup.state = .configLoad → s.AsPoweredOn

/-- The frames a lane restart may add to the transmit queue: the overflow slot's record where a CLAIM taken back makes room
for it (R168), the WITHDRAWs of the claims already sent (R138), a waiting ANNOUNCE at that room (R184) and the summary of the
open context (R89). No DEPOSIT is built (R160). -/
def Station.restartOffers (s : Station) (b : Body) : Prop :=
  s.records.overflow = some b ∨
  (∃ i ∈ s.lane.queue, ∃ k, i.settlingOrWaiting = true ∧ i.key = some k ∧ b = .withdraw k (i.claimTally.getD 0) i.ref) ∨
  (s.startup.announce = .waiting ∧ b = .announce s.claims.tally s.cfg.version) ∨
  (s.startup.state ≠ .listenOnly ∧ ∃ c, s.tracker.context = some c ∧ b = .summary (c.summary .interrupted))

/-- The frame is the CLAIM, not yet taken back, of an item whose CLAIM has not been sent. -/
def Station.claimWaits (s : Station) (f : TxFrame) : Bool :=
  s.lane.queue.any (fun i => decide (i.corr = .queued) && f.isClaimOf i.ref)

/-- What a lane restart ends and keeps, from one station to the next (R189's table; R138 for the claims; R89 for the open
context; R160 for the records). Every frame but the CLAIMs of the removed items stays as it is and in its order, and the
overflow slot's record stays unless such a CLAIM makes room for it (R168). The flags and counts change by a WITHDRAW or
ANNOUNCE that finds no room and by a summary lost, in nothing else; the WITHDRAWs are counted. -/
structure Station.Restarted (s t : Station) : Prop where
  items : t.lane.queue = []
  sensorOwner : t.lane.sensorOwner = none
  diverter : t.lane.diverterChute = 0 ∧ t.lane.diverterHolder = none
  receivers : ∀ h, t.receivers.get h = Receiver.powerOn
  measurement : t.measurement = { s.measurement with
    bufferA := SampleBuffer.free, bufferB := SampleBuffer.free, calibration := .none }
  context : t.tracker = { s.tracker with context := none }
  table : t.table = { s.table with entries := s.table.entries.map (Entry.removeClaims (fun c => c.own)) }
  claims : t.claims = { s.claims with counts := { s.claims.counts with
    withdrawals := s.claims.counts.withdrawals +
      BitVec.ofNat 16 (s.lane.queue.countP (fun i => i.key.isSome && i.settlingOrWaiting)) } }
  lane : t.lane.pos = s.lane.pos ∧ t.lane.nextRef = s.lane.nextRef ∧ t.lane.counts = s.lane.counts
  counts : t.headCounts = s.headCounts ∧ t.keyCounts = s.keyCounts
  link : t.link = { s.link with txQueue := t.link.txQueue, rxQueue := t.link.rxQueue, counts := t.link.counts }
  linkCounts : t.link.counts = { s.link.counts with abandons := t.link.counts.abandons }
  kept : (s.link.txQueue.filter (fun f => !s.claimWaits f)).Sublist t.link.txQueue
  added : ∀ f ∈ t.link.txQueue, f ∈ s.link.txQueue ∨ (∃ g ∈ s.link.txQueue, f = { g with takenBack := true }) ∨
    (s.restartOffers f.body ∧ f = ⟨f.body, 0, .ready, f.takenBack⟩)
  withdrawals : s.records.overflow = none → s.startup.announce ≠ .waiting →
    s.link.txQueue.length + s.lane.queue.length < 16 →
    ∀ i ∈ s.lane.queue, (i.corr = .waiting ∨ ∃ d, i.corr = .settling d) → ∀ k tally, i.key = some k →
      i.claimTally = some tally → ⟨.withdraw k tally i.ref, 0, .ready, false⟩ ∈ t.link.txQueue
  takenBack : s.records.overflow = none → ∀ i ∈ s.lane.queue, i.corr = .queued →
    ∀ f, s.link.txQueue.filter (fun g => g.isClaimOf i.ref) = [f] →
      if f.standing = .onLine then { f with takenBack := true } ∈ t.link.txQueue
      else ∀ g ∈ t.link.txQueue, g.isClaimOf i.ref = false
  summary : s.records.overflow = none → s.startup.announce ≠ .waiting →
    s.link.txQueue.length + s.lane.queue.length < 16 → s.startup.state ≠ .listenOnly →
    ∀ c, s.tracker.context = some c → ⟨.summary (c.summary .interrupted), 0, .ready, false⟩ ∈ t.link.txQueue
  slot : ∀ b, s.records.overflow = some b → b.cls ≠ .claim →
    t.records.overflow = some b ∨ ⟨b, 0, .ready, false⟩ ∈ t.link.txQueue
  slotKept : (∀ f ∈ s.link.txQueue, s.claimWaits f = true → f.standing = .onLine) →
    ∀ b, s.records.overflow = some b → t.records.overflow = some b
  slotEmpty : s.records.overflow = none → t.records.overflow = none ∨
    ∃ c, s.tracker.context = some c ∧ t.records.overflow = some (.summary (c.summary .interrupted))
  pending : t.records.pending = s.records.pending
  flags : t.records.flags = s.records.flags ∨ t.records.flags = s.records.flags ||| 512#13
  recordCounts : t.records.counts = s.records.counts ∨
    (s.tracker.context.isSome ∧ t.records.counts = { s.records.counts with lost := s.records.counts.lost + 1 })
  room : s.records.overflow = none → s.startup.announce ≠ .waiting →
    s.link.txQueue.length + s.lane.queue.length < 16 →
    t.records = s.records ∧ t.link.counts = s.link.counts
  quiet : (∀ i ∈ s.lane.queue, i.corr ≠ .queued ∧ i.settlingOrWaiting = false) →
    t.startup.announce = s.startup.announce ∧ t.link.counts = s.link.counts ∧
    (s.tracker.context = none ∨ s.startup.state = .listenOnly → t.link.txQueue = s.link.txQueue ∧ t.records = s.records) ∧
    ∀ c, s.tracker.context = some c → s.startup.state ≠ .listenOnly →
      if s.link.txQueue.length < 16 then
        t.link.txQueue = s.link.txQueue ++ [⟨.summary (c.summary .interrupted), 0, .ready, false⟩] ∧ t.records = s.records
      else t.link.txQueue = s.link.txQueue ∧ t.records =
        if s.records.overflow = none then { s.records with overflow := some (.summary (c.summary .interrupted)) }
        else { s.records with counts := { s.records.counts with lost := s.records.counts.lost + 1 } }
  startup : t.startup = { s.startup with
    announce := t.startup.announce, restartInput := t.startup.restartInput }
  announce : t.startup.announce = s.startup.announce ∨
    (s.startup.announce = .waiting ∧ t.startup.announce = .queued)
  clock : t.clock = s.clock

/-! ### Events used in claims -/

/-- A reader's window of an item closes now by position, the other reader's having closed before it: the identifier close (R11). -/
structure Station.SecondReaderCloses (s : Station) (ref : ItemRef) (h : Head) (i : Item) : Prop where
  item : s.findItem ref = some i
  due : ∃ t, i.trail = some t ∧ dist t s.lane.pos = s.cfg.distance.get h + s.cfg.margin.get h + 1
  closes : i.windows.get h = .opened
  second : (h = .reader0 ∧ i.windows.reader1 = .closed) ∨ (h = .reader1 ∧ i.windows.reader0 = .closed)

/-- An item's own calibration ends in CAL FAILED, as at a removal or at an absent weight; one that has not chosen the item goes on,
and no flag is set (R69, R70). The factor is kept. -/
structure Station.CalibrationFails (s t : Station) (ref : ItemRef) : Prop where
  factor : t.measurement.factor = s.measurement.factor
  chosen : (∃ g, s.measurement.calibration = .chosen g ref) →
    t.measurement.calibration = .none ∧ t.records.flags = s.records.flags ||| 64#13
  other : (∀ g, s.measurement.calibration ≠ .chosen g ref) →
    t.measurement.calibration = s.measurement.calibration ∧ t.records.flags = s.records.flags

/-- The entry of a roster reference passes for an item's grams and thickness, the tolerance doubled where either weight is
unsteady, a thickness absent on either side not compared (R84). -/
def Station.Passes (s : Station) (grams : Nat) (unsteady : Bool) (thickness : Option Nat) (k : Key) : Prop :=
  ∃ e p, s.entry k = some e ∧ e.stored = some p ∧
    (let n := if unsteady = true ∨ p.unsteady = true then 2 * s.cfg.weightTolerance else s.cfg.weightTolerance
     grams ≤ p.grams + n ∧ p.grams ≤ grams + n) ∧
    ∀ a b, thickness = some a → p.thickness = some b →
      a ≤ b + s.cfg.thicknessTolerance ∧ b ≤ a + s.cfg.thicknessTolerance

/-- The record of the overflow slot moves into the one place that a departure leaves, behind the frames that stay (R168): the item
of a DEPOSIT goes with it, where the slot still holds that item's own; then the oldest departed item that waits is offered, and
its DEPOSIT takes the slot in its turn (R18). -/
def Station.SlotMoves (s t : Station) (stay : List TxFrame) (b : Body) : Prop :=
  let others (r : ItemRef) : List Item := s.lane.queue.filter (fun (k : Item) => k.ref ≠ r)
  let kept : List Item := match b with
    | .deposit d => if (s.findItem d.ref).any Item.depositHeld then others d.ref else s.lane.queue
    | _ => s.lane.queue
  t.link.txQueue = stay ++ [⟨b, 0, .ready, false⟩] ∧
  match kept.find? Item.departed with
  | none => t.lane.queue = kept ∧ t.records.overflow = none
  | some next =>
    t.lane.queue = kept.map (fun (k : Item) => if k.ref = next.ref then { k with depositHeld := true } else k) ∧
      t.records.overflow = some (.deposit next.deposit)

/-! ### Own commits and re-tests used in claims -/

/-- R124's condition on the entry of a claim: no claim of the list is before it, and the holdings state is not REQUESTED. -/
def Entry.LetsCommit (e : Entry) (c : Claim) : Prop :=
  (∀ a ∈ e.pending, a.before c = false) ∧ ∀ since noted, e.holdings ≠ .requested since noted

/-- The entry without the own claims of an item (R110): the rest in claim order, C, the holdings state and the own committed list as
they are, overfull cleared with the last claim (R94). -/
def Entry.withoutOwn (ref : ItemRef) (e : Entry) : Entry :=
  let left := e.pending.filter (fun a => !(a.own && decide (a.ref = ref)))
  { e with pending := inClaimOrder left, overfull := e.overfull && !left.isEmpty }

/-- The entry after an own commit (R111): its claim gone, C at least the ordinal, and a record of item ref, ordinal and claim tally at
the newest end of the own committed list, one of the same item ref dropped first, else the oldest of four (R97). -/
def Entry.afterCommit (c : Claim) (ordinal : Nat) (e : Entry) : Entry :=
  let others := e.ownCommitted.filter (fun r => r.ref ≠ c.ref)
  { e.withoutOwn c.ref with
    committed := max e.committed ordinal
    ownCommitted := others.drop (others.length - 3) ++ [⟨c.ref, ordinal, c.tally⟩] }

/-- No other own claim of the entry has a WAITING item. -/
def Station.NoOtherWaits (s : Station) (e : Entry) (ref : ItemRef) : Prop :=
  ∀ a ∈ e.pending, a.own = true → a.ref ≠ ref → s.isWaiting a.ref = false

/-- The re-tests have come to their end: no own claim of a WAITING item in the key's entry may commit (R124). -/
def Station.TestedOut (t : Station) (k : Key) : Prop :=
  ∀ e, t.entry k = some e → ∀ c ∈ e.pending, c.own = true → t.isWaiting c.ref = true → ¬ e.LetsCommit c

/-- What the report of a change does that leaves m as the key's entry (R112). A setting of overfull marks the entry's SETTLING and
WAITING items unconfirmed (R126). The WAITING item whose claim may commit does commit min(255, C + 1), UNCONFIRMED if marked (R125);
where no other own claim waits, the entry is then exactly as that commit leaves it, and one commit is counted. With no claim that
may commit, the entry stays m and its items WAITING. The re-tests go on until no claim may commit. -/
structure Station.Retests (s t : Station) (k : Key) (m : Entry) (marking : Bool) : Prop where
  marks : marking = true → ∀ ref i, s.findItem ref = some i → (i.corr = .waiting ∨ ∃ d, i.corr = .settling d) →
    (∃ c ∈ m.pending, c.own = true ∧ c.ref = ref) → ∃ j, t.findItem ref = some j ∧ j.unconfirmedMark = true
  commits : ∀ ref i c, s.findItem ref = some i → i.corr = .waiting →
    m.pending.find? (fun a => a.own && decide (a.ref = ref)) = some c → m.LetsCommit c →
    let ordinal := min 255 (m.committed + 1)
    ∃ j e', t.findItem ref = some j ∧ j.corr = .committed ∧ j.ordinal = some ordinal ∧ j.ranked = i.ranked ∧
      j.unconfirmed = (i.unconfirmed || i.unconfirmedMark || marking) ∧
      t.entry k = some e' ∧ ordinal ≤ e'.committed ∧ (∀ a ∈ e'.pending, ¬ (a.own = true ∧ a.ref = ref)) ∧
      (s.NoOtherWaits m ref → e' = m.afterCommit c ordinal ∧ t.table.entries.getLast? = some e' ∧
        t.claims.counts.commits = s.claims.counts.commits + 1)
  stays : (∀ c ∈ m.pending, c.own = true → s.isWaiting c.ref = true → ¬ m.LetsCommit c) →
    t.entry k = some m ∧ t.claims.counts.commits = s.claims.counts.commits ∧
      ∀ ref, s.isWaiting ref = true → t.isWaiting ref = true
  testedOut : t.TestedOut k

/-- The COMMIT of the WAITING item that commits on such a report joins the queue, where there is room for it and for as many frames
as the command itself may offer; at a full queue it is lost, with TX ABANDON set (R125, R132, R142). -/
def Station.RetestSends (s t : Station) (k : Key) (m : Entry) (offered : Nat) : Prop :=
  ∀ ref c, s.isWaiting ref = true → m.pending.find? (fun a => a.own && decide (a.ref = ref)) = some c → m.LetsCommit c →
    (s.link.txQueue.length + offered < 16 →
      ⟨.commit k c.tally ref (min 255 (m.committed + 1)), 0, .ready, false⟩ ∈ t.link.txQueue) ∧
    (16 ≤ s.link.txQueue.length → t.flag .txAbandon = true)

/-! ### Orders used in claims -/

/-- The tally after a delivered one: the delivered one if it is after T in serial order, T otherwise (R116). -/
def laterTally (own heard : Tally) : Tally := if 1 ≤ dist own heard ∧ dist own heard ≤ 8388607 then heard else own

/-- The place of a lane state in the order of R9. -/
def LaneState.rank : LaneState → Nat
  | .entering => 0
  | .reading => 1
  | .read => 2
  | .decided => 3
  | .diverting => 4

/-- COMMITTED and REJECTED are final (R118). -/
def CorrState.final : CorrState → Bool
  | .committed => true
  | .rejected _ => true
  | .unkeyed | .queued | .settling _ | .waiting => false

/-- The moves of a correlation state (R118's table). -/
def CorrState.mayMoveTo : CorrState → CorrState → Bool
  | .unkeyed, .queued => true
  | .unkeyed, .committed => true
  | .unkeyed, .rejected r => decide (r ≠ .unsettled)
  | .queued, .settling _ => true
  | .queued, .rejected r => decide (r = .claimAbandoned ∨ r = .unsettled ∨ r = .notActive)
  | .settling _, .committed => true
  | .settling _, .waiting => true
  | .settling _, .rejected r => decide (r = .unsettled ∨ r = .notActive)
  | .waiting, .committed => true
  | .waiting, .rejected r => decide (r = .notActive)
  | _, _ => false

end Sys2Proof.Machine
end

