-- ==== Sys2Proof/WellFormed.lean ====
section
/-! DEFINITION. The commands that can reach the station: operands inside the ranges the manual gives. Every meaning
is total, so an ill-formed command is not refused by the machine: it finds nothing to act on, or,
for bits past the end of a frame, leaves them out (R153). -/

namespace Sys2Proof

/-- A key in the range of its kind (section 3.5; R47 for PROVISIONAL). -/
def Key.inRange (k : Key) : Bool :=
  match k.kind with
  | .article => decide (k.value ≤ 9999999999999)
  | .serial => decide (k.value ≤ 1279999972)
  | .provisional => decide (k.value ≤ 409599999999)

/-- Each check names the rule whose range it tests. -/
def Instr.wellFormed : Instr → Bool
  | .frameReceived bits => decide ((bits.dropWhile id).length ≤ Config.receptionLimit)      -- R140, R153, R190
  | .backoffExpiry place => decide (place < Config.txCapacity)                              -- R141
  | .claimExpiry k station _ =>                                                             -- R103, R108
      k.inRange && decide (k.kind ≠ .provisional) && decide (1 ≤ station) && decide (station ≤ 31)
  | .requestedLapse k => k.inRange && decide (k.kind ≠ .provisional)                        -- R96, R109
  | .powerOn | .configReadComplete _ | .millisecondTick | .encoderForwardCount | .encoderReverseCount
  | .leadingEdge | .trailingEdge | .overlongCloseOff | .windowOpen _ _ | .windowClose _ _
  | .weightCompletion _ | .decisionDue _ | .divertPoint _ | .departure _ | .headSymbolArrival _ _
  | .framerTakeSymbol _ | .handOver _ | .settleExpiry _ | .joinQuietExpiry | .lineIdle | .attemptBegin
  | .chainContinuation | .collision | .jamEnd | .attemptComplete | .rxLineError | .heardClaim | .heardCommit
  | .heardWithdraw | .heardHoldings | .heardAnnounce | .statusRequest | .calibrate | .restart | .localRestart
  | .misdirectedFrame | .malformedFrame | .unaddressedFrame | .localRestartRelease | .lineLeavesIdle
  | .leadFound => true

end Sys2Proof
end

