-- ==== Sys2Proof/Certificates/Slice0/Obligations.lean ====
section
/-! DEFINITION. The statements for the provers, chapter by chapter. Throughout, `x` is a station, `q` the commands waiting behind
the one that runs, and `y` the station after it: `⟨x, q⟩` is any machine state. A statement whose docstring names a file
of notes/assumptions/ rests on that choice of the model, in the clause it names. -/

open Sys2Proof Sys2Proof.Machine

/-! ### The machine -/

/-- A step takes the command at the front of the queue and runs it with the queue's rest. -/
def Obligations.StepRunsFrontCommand : Prop :=
  ∀ (c : Instr) (s : State), Machine.step { s with pending := c :: s.pending } = exec c s

/-- With no command waiting the block idles (the model's choice, notes/assumptions/4.md). No command stops the machine or
touches the waiting commands (the model's choice, notes/assumptions/2.md). -/
def Obligations.QueueAndCompletionChoices : Prop :=
  (∀ x : Station, Machine.step ⟨x, []⟩ = .next ⟨x, []⟩) ∧
  (∀ (c : Instr) (x : Station) (q : List Instr), ∃ y, exec c ⟨x, q⟩ = .next ⟨y, q⟩)

/-- The frame of every command of the lane, of sensing, and of the table's and the Claim Engine's times: the pieces of state it
may touch are those `touches` lists, and every other piece is as it was. -/
def Obligations.LaneSensingAndCorrelationFrame : Prop :=
  ∀ (c : Instr) (s t : State), (family c = .lane ∨ family c = .sensing ∨ family c = .correlation) → exec c s = .next t →
    Changes (touches c) s.station t.station

/-- The frame of every start-up command, every command of the link's line and every delivery from the receive queue. POWER_ON
keeps the level of the restart input alone (notes/assumptions/1.md). -/
def Obligations.StartupAndLinkFrame : Prop :=
  ∀ (c : Instr) (s t : State), (family c = .startup ∨ family c = .link ∨ family c = .delivery) → exec c s = .next t →
    Changes (touches c) s.station t.station

/-! ### Power-on and reset -/

/-- What the manual says of the station after power-on, block by block. POWER_ON: whatever the station held, it is as after
reset, but for the panel's restart input, whose level it cannot change (notes/assumptions/1.md). -/
def Obligations.PowerOnState : Prop :=
  (let x := State.reset.station
   State.reset.pending = [] ∧ x.clock = 0 ∧
   (x.lane.pos = 0 ∧ x.lane.queue = [] ∧ x.lane.nextRef = 0 ∧ x.lane.sensorOwner = none ∧ x.lane.diverterChute = 0 ∧
     x.lane.diverterHolder = none ∧ x.lane.counts = ⟨0, 0, 0, 0⟩ ∧ x.laneHold = true) ∧
   (∀ h, (x.receivers.get h).fifo = [] ∧ (x.receivers.get h).markArmed = false ∧
     (x.receivers.get h).framer = .hunt .zero ∧ (x.receivers.get h).lastSequence = none) ∧
   x.headCounts = ⟨0, 0, 0, 0⟩ ∧ x.keyCounts = ⟨0, 0⟩ ∧
   (x.measurement.bufferA = SampleBuffer.free ∧ x.measurement.bufferB = SampleBuffer.free ∧ x.measurement.tare = none ∧
     x.measurement.rejectedRun = 0 ∧ x.measurement.calibration = .none ∧ x.measurement.counts = ⟨0, 0, 0⟩) ∧
   (x.tracker.context = none ∧ x.tracker.matches_ = 0 ∧ x.tracker.issued = 0) ∧
   (x.table.entries = [] ∧ x.table.counts = ⟨0, 0, 0, 0, 0, 0⟩) ∧
   (x.claims.tally = 0 ∧ x.claims.counts = ⟨0, 0, 0, 0, 0⟩) ∧
   (x.link.txQueue = [] ∧ x.link.rxQueue = [] ∧ x.link.chain = 0 ∧ x.link.gateOpen = false ∧
     x.link.counts = ⟨0, 0, 0, 0, 0, 0, 0⟩) ∧
   (x.records.overflow = none ∧ x.records.pending = ⟨none, none, none⟩ ∧ x.records.flags = 0 ∧
     x.records.counts = ⟨0, 0, 0⟩) ∧
   (x.startup.state = .configLoad ∧ x.startup.settings = none ∧ x.startup.stationId = none ∧ x.startup.joinTimer = none ∧
     x.startup.announce = .none ∧ x.startup.portSelect = true ∧ x.faultIndicator = false)) ∧
  (∀ (x : Station) (q : List Instr),
     exec .powerOn ⟨x, q⟩ =
       .next ⟨{ Station.powerOn with startup := { Station.powerOn.startup with restartInput := x.startup.restartInput } }, q⟩)

/-- The four invariants of `Safety` hold after reset. -/
def Obligations.ResetMeetsTheInvariants : Prop :=
  State.reset.station.Bounded ∧ State.reset.station.Started ∧ State.reset.station.Coherent ∧ State.reset.station.LoadingIdle

/-! ### Start-up (chapter 10) -/

/-- The configuration port: while its select is active it sends the bytes 0x03, 0x00, 0x00 on data out, most significant bit first, and
nothing afterwards; byte i of the block is the eight levels clocked in from data in for it, most significant bit first.
CONFIG_READ_COMPLETE with a wrong signature: the defaults, and LISTEN-ONLY. The line is taken to be busy, the port's select inactive.
CONFIG_READ_COMPLETE with the right signature: the clamped and adjusted values; with an id in 1..31 JOINING, the join-quiet
timer started and the generator seeded with id × 257 + 1, and with any other id LISTEN-ONLY. CONFIG ADJUSTED is set by a change. -/
def Obligations.ConfigReadComplete : Prop :=
  (∀ x : Station,
     x.configDataOut = if x.startup.portSelect then
       [false, false, false, false, false, false, true, true] ++ List.replicate 16 false else []) ∧
  (∀ (x : Station) (q : List Instr) (b : Vector Bool 512),
     let byte (i : Nat) : Nat := ((b.toList.drop (8 * i)).take 8).foldl (fun v l => 2 * v + l.toNat) 0
     x.startup.state = .configLoad → ¬ (byte 0 = 0x22 ∧ byte 1 = 0x60) →
     exec (.configReadComplete b) ⟨x, q⟩ = .next ⟨{ x with
       measurement := { x.measurement with factor := 1024 }
       link := { x.link with lineIdle := false }
       startup := { x.startup with settings := some Settings.defaults, portSelect := false, state := .listenOnly } }, q⟩) ∧
  (∀ (x : Station) (q : List Instr) (b : Vector Bool 512),
     let byte (i : Nat) : Nat := ((b.toList.drop (8 * i)).take 8).foldl (fun v l => 2 * v + l.toNat) 0
     x.startup.state = .configLoad → byte 0 = 0x22 → byte 1 = 0x60 →
     let id := byte 4
     let y : Station := { x with
       measurement := { x.measurement with factor := (configuredSettings b).scaleFactor }
       link := { x.link with lineIdle := false }
       records := { x.records with flags := if configAdjusted b then x.records.flags ||| 1#13 else x.records.flags }
       startup := { x.startup with settings := some (configuredSettings b), portSelect := false } }
     exec (.configReadComplete b) ⟨x, q⟩ = .next ⟨
       if 1 ≤ id ∧ id ≤ 31 then { y with
         link := { y.link with generator := BitVec.ofNat 16 (id * 257 + 1) }
         startup := { y.startup with state := .joining, stationId := some id, joinTimer := some x.clock } }
       else { y with startup := { y.startup with state := .listenOnly } }, q⟩)

/-- Configuration load after the fields are clamped: the three adjustments between fields, in their order, and nothing else
changed by them; each that changes a value sets CONFIG ADJUSTED; and whatever the 64 bytes hold, the values that result lie
inside the limits of section 10.3, with D_dec at most 8447 and beyond every D_h + m_h, and D_div at most 8448 and beyond D_dec. -/
def Obligations.AdjustmentsBetweenFields : Prop :=
  (∀ c : Settings,
    let hmax := max (max (c.distance.reader0 + c.margin.reader0) (c.distance.reader1 + c.margin.reader1))
      (max (c.distance.scale + c.margin.scale) (c.distance.gauge + c.margin.gauge))
    let dDec := if c.dDec ≤ hmax then hmax + 1 else c.dDec
    c.adjust = { c with
      maxLength := if c.maxLength < c.minLength then c.minLength else c.maxLength
      dDec := dDec
      dDiv := if c.dDiv ≤ dDec then dDec + 1 else c.dDiv }) ∧
  (∀ (x : Station) (q : List Instr) (b : Vector Bool 512),
    x.startup.state = .configLoad → blockByte b 0 = 0x22 → blockByte b 1 = 0x60 →
    ∃ y, exec (.configReadComplete b) ⟨x, q⟩ = .next ⟨y, q⟩ ∧
      y.startup.settings = some (clampedSettings b).adjust ∧
      ((clampedSettings b).adjust ≠ clampedSettings b → y.flag .configAdjusted = true)) ∧
  (∀ b : Vector Bool 512, (configuredSettings b).InLimits) ∧ Settings.defaults.InLimits

/-- MILLISECOND_TICK: the count rises by one modulo 2^32, and an entry whose REQUESTED state reaches the claim lifetime at that
count notes it (notes/assumptions/8.md). The encoder: a forward count adds one to P modulo 2^24, a reverse count changes
nothing, in every station state; and no command but these and POWER_ON moves P. -/
def Obligations.ClockAndEncoder : Prop :=
  (∀ (x : Station) (q : List Instr),
     exec .millisecondTick ⟨x, q⟩ = .next ⟨{ x with
       clock := x.clock + 1
       table := { x.table with entries := x.table.entries.map (fun e =>
         match e.holdings with
         | .requested since noted =>
           { e with holdings := .requested since (noted || decide ((x.clock + 1 - since).toNat = x.cfg.claimLifetime)) }
         | _ => e) } }, q⟩) ∧
  ((∀ (x : Station) (q : List Instr),
     exec .encoderForwardCount ⟨x, q⟩ =
       .next ⟨{ x with lane := { x.lane with pos := BitVec.ofNat 24 ((x.lane.pos.toNat + 1) % 16777216) } }, q⟩ ∧
     exec .encoderReverseCount ⟨x, q⟩ = .next ⟨x, q⟩) ∧
   (∀ (c : Instr) (s t : State), exec c s = .next t → t.station.lane.pos ≠ s.station.lane.pos →
     c = .encoderForwardCount ∨ c = .powerOn))

/-- JOIN_QUIET_EXPIRY at the join-quiet interval in JOINING: the gate opens and an ANNOUNCE with the current tally and the
configuration version is offered; refused at a full queue, it waits, with TX ABANDON set and an abandon counted. -/
def Obligations.JoinQuietExpiry : Prop :=
  ∀ (x : Station) (q : List Instr) (start : Millis),
    x.startup.state = .joining → x.startup.joinTimer = some start → (x.clock - start).toNat = x.cfg.joinQuiet →
    (x.link.txQueue.length < 16 →
      exec .joinQuietExpiry ⟨x, q⟩ = .next ⟨{ x with
        link := { x.link with
          gateOpen := true
          txQueue := x.link.txQueue ++ [⟨.announce x.claims.tally x.cfg.version, 0, .ready, false⟩] }
        startup := { x.startup with joinTimer := none, announce := .queued } }, q⟩) ∧
    (16 ≤ x.link.txQueue.length →
      exec .joinQuietExpiry ⟨x, q⟩ = .next ⟨{ x with
        link := { x.link with
          gateOpen := true, counts := { x.link.counts with abandons := x.link.counts.abandons + 1 } }
        records := { x.records with flags := x.records.flags ||| 512#13 }
        startup := { x.startup with joinTimer := none, announce := .waiting } }, q⟩)

/-- Power-on gives CONFIG LOAD with no values, no id, no timer, no ANNOUNCE and a dark indicator; the state then changes at the
three events of chapter 10, each only in the state it names, so that LISTEN-ONLY is left by power-on alone and a lane restart
keeps the state. Every STATUS sample carries it. -/
def Obligations.StationStateMoves : Prop :=
  (∀ s : State, ∃ t, exec .powerOn s = .next t ∧ t.station.startup.state = .configLoad ∧ t.station.startup.settings = none ∧
    t.station.startup.stationId = none ∧ t.station.startup.joinTimer = none ∧ t.station.startup.announce = .none ∧
    t.station.faultIndicator = false) ∧
  (∀ (x : Station) (g : StatusGroup), (x.sample g).state = x.startup.state) ∧
  ∀ (c : Instr) (s t : State), exec c s = .next t → t.station.startup.state ≠ s.station.startup.state →
    (c = .powerOn ∧ t.station.startup.state = .configLoad) ∨
    ((∃ b, c = .configReadComplete b) ∧ s.station.startup.state = .configLoad ∧
      (t.station.startup.state = .joining ∨ t.station.startup.state = .listenOnly)) ∨
    (c = .attemptComplete ∧ s.station.startup.state = .joining ∧ t.station.startup.state = .active ∧
      ∃ f tally version, s.station.onLine = some f ∧ f.body = .announce tally version) ∨
    (∃ bits f, c = .frameReceived bits ∧ receive bits = .frame f ∧ goodFrame f = true ∧
      s.station.startup.stationId = some f.source.toNat ∧
      (s.station.startup.state = .joining ∨ s.station.startup.state = .active) ∧
      t.station.startup.state = .listenOnly)

/-- A lane restart in every part, by the local input pressed in a ready state and by a delivered RESTART: what it ends and what
it keeps, every frame but the CLAIMs of removed items, the overflow slot, the flags and the counts among them, and what it offers:
the WITHDRAWs, the CLAIMs taken back and the summary (`Station.Restarted`). A station in LISTEN-ONLY is
restarted like any other. The local restart input: held active it does nothing more; in CONFIG LOAD only its level is followed
(notes/assumptions/1.md); its release gives no restart. -/
def Obligations.LaneRestart : Prop :=
  (∀ (x : Station) (q : List Instr),
     (x.startup.state ≠ .configLoad → x.startup.restartInput = false →
       ∃ y, exec .localRestart ⟨x, q⟩ = .next ⟨y, q⟩ ∧ x.Restarted y ∧ y.link.rxQueue = x.link.rxQueue ∧
         y.startup.restartInput = true) ∧
     (∀ f rest, x.startup.state ≠ .configLoad → x.link.rxQueue = f :: rest → f.kind = 0x24 → f.source = 0 →
       f.payload = [] → x.startup.stationId = some f.dest.toNat →
       ∃ y, exec .restart ⟨x, q⟩ = .next ⟨y, q⟩ ∧ x.Restarted y ∧ y.link.rxQueue = rest ∧
         y.startup.restartInput = x.startup.restartInput)) ∧
  (∀ (x : Station) (q : List Instr),
     (x.startup.restartInput = true → exec .localRestart ⟨x, q⟩ = .next ⟨x, q⟩) ∧
     (x.startup.restartInput = false → x.startup.state = .configLoad →
       exec .localRestart ⟨x, q⟩ = .next ⟨{ x with startup := { x.startup with restartInput := true } }, q⟩) ∧
     exec .localRestartRelease ⟨x, q⟩ = .next ⟨{ x with startup := { x.startup with restartInput := false } }, q⟩)

/-! ### The lane (chapter 1) -/

/-- LEADING_EDGE: ignored in CONFIG LOAD; with fewer than 8 items an item at the back of the queue with L = P, the sensor owner
from then on, the calibration item if its scale window is open at once and a calibration is PENDING; with 8 items no item, QUEUE
OVERRUN and the untracked count. The record of a new item: its ref, L, no T, ENTERING, each window open at once exactly where
D_h ≤ m_h, no flag, no mark, UNKEYED, and nothing written yet. -/
def Obligations.LeadingEdge : Prop :=
  (∀ (x : Station) (q : List Instr),
     (x.startup.state = .configLoad → exec .leadingEdge ⟨x, q⟩ = .next ⟨x, q⟩) ∧
     (x.startup.state ≠ .configLoad → x.lane.queue.length < 8 → (∀ i ∈ x.lane.queue, i.ref ≠ x.lane.nextRef) →
       let i := newItem x.cfg x.lane.nextRef x.lane.pos
       let created (i : Item) (m : Measurement) : Station := { x with
         lane := { x.lane with
           queue := x.lane.queue ++ [i], nextRef := x.lane.nextRef + 1, sensorOwner := some x.lane.nextRef }
         measurement := m }
       exec .leadingEdge ⟨x, q⟩ = .next ⟨
         match x.measurement.calibration with
         | .pending g =>
           if x.cfg.distance.scale ≤ x.cfg.margin.scale then
             created { i with calMark := true } { x.measurement with calibration := .chosen g x.lane.nextRef }
           else created i x.measurement
         | _ => created i x.measurement, q⟩) ∧
     (x.startup.state ≠ .configLoad → 8 ≤ x.lane.queue.length →
       exec .leadingEdge ⟨x, q⟩ = .next ⟨{ x with
         lane := { x.lane with counts := { x.lane.counts with untracked := x.lane.counts.untracked + 1 } }
         records := { x.records with flags := x.records.flags ||| 2048#13 } }, q⟩)) ∧
  (∀ (c : Settings) (ref : ItemRef) (pos : Pos),
     let i := newItem c ref pos
     i.ref = ref ∧ i.lead = pos ∧ i.trail = none ∧ i.lane = .entering ∧
     (∀ h, i.windows.get h = if c.distance.get h ≤ c.margin.get h then .opened else .notYetOpen) ∧
     (∀ h, i.crowdMarks.get h = false) ∧
     (i.crowded = false ∧ i.overlong = false ∧ i.misread = false ∧ i.misdiverted = false ∧ i.gap = false ∧
       i.lateReadings = false ∧ i.calMark = false ∧ i.departed = false) ∧
     (i.corr = .unkeyed ∧ i.claimTally = none ∧ i.ordinal = none ∧ i.ranked = false ∧ i.holdingsUnconfirmed = false ∧
       i.unconfirmed = false ∧ i.unconfirmedMark = false) ∧
     (i.key = none ∧ i.outcome = none ∧ i.consignment = none ∧ i.weight = none ∧ i.thickness = none ∧ i.width = none ∧
       i.chute = none ∧ i.review = none))

/-- TRAILING_EDGE: ignored in CONFIG LOAD and with no sensor owner; the owner is cleared, and its item, if ENTERING, is a blip
below the minimum length, removed with its calibration failed, and otherwise takes T = P and moves to READING; if DECIDED or
DIVERTING it takes T and keeps its state.
OVERLONG_CLOSE_OFF at P − L = maximum length + 1: T = L + maximum length, OVERLONG, the owner cleared; from ENTERING the item
moves to READING, and any later state is kept. -/
def Obligations.TrailingEdgeAndCloseOff : Prop :=
  (∀ (x : Station) (q : List Instr),
     (x.startup.state = .configLoad ∨ x.lane.sensorOwner = none → exec .trailingEdge ⟨x, q⟩ = .next ⟨x, q⟩) ∧
     (∀ (ref : ItemRef) (i : Item), x.startup.state ≠ .configLoad → x.lane.sensorOwner = some ref →
       x.findItem ref = some i →
       (i.lane = .entering → dist i.lead x.lane.pos < x.cfg.minLength →
         ∃ y, exec .trailingEdge ⟨x, q⟩ = .next ⟨y, q⟩ ∧ y.lane.sensorOwner = none ∧
           y.lane.queue = x.lane.queue.filter (fun k => k.ref ≠ ref) ∧
           y.lane.counts = { x.lane.counts with blips := x.lane.counts.blips + 1 } ∧
           y.measurement.bufferA = (x.measurement.freeBuffer ref).bufferA ∧
           y.measurement.bufferB = (x.measurement.freeBuffer ref).bufferB ∧ x.CalibrationFails y ref) ∧
       ((i.lane = .entering ∧ x.cfg.minLength ≤ dist i.lead x.lane.pos) ∨ i.lane = .decided ∨ i.lane = .diverting →
         exec .trailingEdge ⟨x, q⟩ = .next ⟨{ x with lane := { x.lane with
           sensorOwner := none
           queue := x.lane.queue.map (fun k => if k.ref = ref then
             { k with trail := some x.lane.pos, lane := if k.lane = .entering then .reading else k.lane } else k) } }, q⟩))) ∧
  (∀ (x : Station) (q : List Instr) (ref : ItemRef) (i : Item),
     x.lane.sensorOwner = some ref → x.findItem ref = some i → dist i.lead x.lane.pos = x.cfg.maxLength + 1 →
     exec .overlongCloseOff ⟨x, q⟩ = .next ⟨{ x with lane := { x.lane with
       sensorOwner := none
       queue := x.lane.queue.map (fun k => if k.ref = ref then
         { k with
           trail := some (k.lead + BitVec.ofNat 24 x.cfg.maxLength), overlong := true
           lane := if k.lane = .entering then .reading else k.lane } else k) } }, q⟩)

/-- WINDOW_OPEN at P − L = D_h − m_h: the window opens; a scale window takes a PENDING calibration, which becomes CHOSEN with
the item and marks it. WINDOW_CLOSE of the gauge: the window closes, the maxima become the item's thickness and width, and an
item with no window left to close moves from READING to READ. -/
def Obligations.WindowOpenAndGaugeClose : Prop :=
  (∀ (x : Station) (q : List Instr) (ref : ItemRef) (h : Head) (i : Item),
     x.findItem ref = some i → i.windows.get h = .notYetOpen →
     dist i.lead x.lane.pos = x.cfg.distance.get h - x.cfg.margin.get h →
     let opened (mark : Bool) (m : Measurement) : Station := { x with
       lane := { x.lane with queue := x.lane.queue.map (fun k => if k.ref = ref then
         { k with windows := k.windows.set h .opened, calMark := k.calMark || mark } else k) }
       measurement := m }
     exec (.windowOpen ref h) ⟨x, q⟩ = .next ⟨
       match x.measurement.calibration with
       | .pending g =>
         if h = .scale then opened true { x.measurement with calibration := .chosen g ref } else opened false x.measurement
       | _ => opened false x.measurement, q⟩) ∧
  (∀ (x : Station) (q : List Instr) (ref : ItemRef) (i : Item) (t : Pos),
     x.findItem ref = some i → i.trail = some t → i.windows.gauge = .opened →
     dist t x.lane.pos = x.cfg.distance.gauge + x.cfg.margin.gauge + 1 →
     exec (.windowClose ref .gauge) ⟨x, q⟩ = .next ⟨{ x with lane := { x.lane with
       queue := x.lane.queue.map (fun k => if k.ref = ref then
         { k with
           windows := { k.windows with gauge := .closed }
           lane := if k.lane = .reading ∧ k.windows.reader0.over ∧ k.windows.reader1.over ∧ k.windows.scale.over then .read
             else k.lane
           thickness := k.maxThickness, width := k.maxWidth, maxThickness := none, maxWidth := none } else k) } }, q⟩)

/-- WINDOW_CLOSE of the scale: the tests of the weight outcome in their order. Crowded, refused a buffer, without a buffer, with
fewer than S + 2 samples or without a tare, the weight is absent with that cause, the buffer free and the item's calibration
failed; an item that waited in matching is reviewed, by the first of R82's tests that applies; otherwise a computation starts,
with the tare and factor copied. -/
def Obligations.ScaleClose : Prop :=
  ∀ (x : Station) (q : List Instr) (ref : ItemRef) (i : Item) (t : Pos),
    x.findItem ref = some i → i.trail = some t → i.windows.scale = .opened →
    dist t x.lane.pos = x.cfg.distance.scale + x.cfg.margin.scale + 1 →
    let absent (cause : AbsenceCause) (short : Count) : Prop :=
      ∃ y j, exec (.windowClose ref .scale) ⟨x, q⟩ = .next ⟨y, q⟩ ∧ y.findItem ref = some j ∧
        j.weight = some (.absent cause) ∧ j.windows.scale = .closed ∧
        y.measurement.bufferA = (x.measurement.freeBuffer ref).bufferA ∧
        y.measurement.bufferB = (x.measurement.freeBuffer ref).bufferB ∧
        y.measurement.counts = { x.measurement.counts with shortWeights := x.measurement.counts.shortWeights + short } ∧
        x.CalibrationFails y ref ∧
        j.key = i.key ∧ j.corr = i.corr ∧ y.table = x.table ∧
        (i.matching = true → i.corr = .unkeyed → j.matching = false ∧ j.trackerMark =
          if ∀ c, x.tracker.context = some c → ref ∉ c.members then some .noKey
          else if x.startup.state = .listenOnly then some .notActive
          else if i.calMark then i.trackerMark else some .weightAbsent)
    if i.crowdMarks.scale then absent .crowded 0
    else if i.bufferRefused then absent .buffer 0
    else match x.measurement.bufferOf ref with
      | none => absent .noSamples 0
      | some b =>
        if b.samples.length < x.cfg.settleCount + 2 then absent .tooFewSamples 1
        else match x.measurement.tare with
          | none => absent .noTare 0
          | some tare => ∃ y j, exec (.windowClose ref .scale) ⟨x, q⟩ = .next ⟨y, q⟩ ∧ y.findItem ref = some j ∧
              j.weight = i.weight ∧ j.windows.scale = .closed ∧
              y.measurement.bufferOf ref = some { b with computing := some ⟨tare, x.measurement.factor⟩ } ∧
              y.measurement.counts = x.measurement.counts ∧ y.measurement.factor = x.measurement.factor

/-- WINDOW_CLOSE of a reader: the first of the two closes its window alone; the second gives the identifier close, whose outcome
is the table of chapter 3 on the two verdicts, or REFUSED for an item crowded at a reader; the candidates are discarded, and an
item that is no slip takes the number of an open consignment. At either, the last window to close moves a READING item to READ. -/
def Obligations.ReaderClose : Prop :=
  ∀ (x : Station) (q : List Instr) (ref : ItemRef) (i : Item) (t : Pos) (h other : Head),
    (h = .reader0 ∧ other = .reader1) ∨ (h = .reader1 ∧ other = .reader0) →
    x.findItem ref = some i → i.trail = some t → i.windows.get h = .opened →
    dist t x.lane.pos = x.cfg.distance.get h + x.cfg.margin.get h + 1 →
    (i.windows.get other ≠ .closed →
      exec (.windowClose ref h) ⟨x, q⟩ = .next ⟨{ x with lane := { x.lane with
        queue := x.lane.queue.map (fun k => if k.ref = ref then
          { k with
            windows := k.windows.set h .closed
            lane := if k.lane = .reading ∧ (k.windows.set h .closed).toList.all WindowState.over then .read else k.lane }
          else k) } }, q⟩) ∧
    (i.windows.get other = .closed →
      ∃ y j, exec (.windowClose ref h) ⟨x, q⟩ = .next ⟨y, q⟩ ∧ y.findItem ref = some j ∧
        j.windows = i.windows.set h .closed ∧ j.slot0 = none ∧ j.slot1 = none ∧
        j.lane = (if i.lane = .reading ∧ (i.windows.set h .closed).toList.all WindowState.over then .read else i.lane) ∧
        j.consignment = (match x.tracker.context with
          | some c => if j.outcome = some .slip then i.consignment else some c.number
          | none => i.consignment) ∧
        if i.crowdMarks.reader0 ∨ i.crowdMarks.reader1 then j.outcome = some (.refused false) ∧ j.key = i.key
        else match reconcile (slotVerdict i.slot0) (slotVerdict i.slot1) with
          | .keyed k => j.outcome = some .keyed ∧ j.key = some k ∧ j.misread = (i.misread || i.holdsMisread)
          | .slip _ => j.outcome = some .slip ∧ j.key = i.key ∧ j.misread = i.misread
          | .unidentified => j.outcome = some .unidentified ∧ (i.weight = none → j.key = i.key) ∧
              j.misread = (i.misread || i.holdsMisread)
          | .ambiguous => j.outcome = some (.refused true) ∧ j.key = i.key ∧
              y.keyCounts.ambiguous = x.keyCounts.ambiguous + 1)

/-- A slip at its identifier close: the open context is closed with its end cause and its summary queued, and a new one opened
from the slip's three numbers with its counts at 0; the slip's own item is stamped by neither. An unidentified item whose weight
has come, in an open consignment none of whose roster references within the scan depth passes, is issued the consignment's next
PROVISIONAL key that the table does not hold, which joins the roster, and commits ordinal 1, with no frame queued and no tally
taken; at index 4095 it is marked NO KEY, and with every entry of a full table pinned TABLE FULL, no key issued. Where one passes,
the newest reference within the scan depth whose stored weight and thickness pass is the match: its key taken, the entry touched,
the match counted, and the item commits min(255, C + 1). An item the tests before the scan decide stays UNKEYED with no entry
looked up: NO KEY with no consignment, NOT ACTIVE in LISTEN-ONLY, no mark with the calibration mark, WEIGHT ABSENT with an
absent weight; with no weight outcome yet it waits. A stamp that reaches a nonzero declared count closes the context COMPLETE, its
summary with that count queued; where an item keyed in ACTIVE finds one place left, the summary and not the CLAIM takes it by the
model's choice (notes/assumptions/6.md). -/
def Obligations.ConsignmentAtTheIdentifierClose : Prop :=
  (∀ (x : Station) (q : List Instr) (ref : ItemRef) (h : Head) (i : Item) (slip : Slip),
     x.SecondReaderCloses ref h i →
     i.crowdMarks.reader0 = false → i.crowdMarks.reader1 = false →
     reconcile (slotVerdict i.slot0) (slotVerdict i.slot1) = .slip slip →
     ∃ y, exec (.windowClose ref h) ⟨x, q⟩ = .next ⟨y, q⟩ ∧
       y.tracker = { x.tracker with context := some {
           number := slip.number, publisher := slip.publisher, declared := slip.declared, counted := 0, identified := 0,
           provisional := 0, review := 0, nextIndex := 0, members := [], roster := [] } } ∧
       (match x.tracker.context with
       | none => y.link = x.link ∧ y.records = x.records
       | some c => x.startup.state ≠ .listenOnly → x.link.txQueue.length < 16 →
           y.link.txQueue = x.link.txQueue ++ [⟨.summary ⟨c.number, c.publisher, c.declared, c.counted, c.identified,
             c.provisional, c.review,
             if slip.number ≠ c.number ∧ c.declared ≠ 0 ∧ c.counted < c.declared then .short else .nextSlip⟩,
             0, .ready, false⟩])) ∧
  (∀ (x : Station) (q : List Instr) (ref : ItemRef) (h : Head) (i : Item) (c : Consignment) (grams : Nat) (spread below : Bool),
     let key (n : Nat) : Key := ⟨.provisional, c.number * 4096 + n⟩
     x.SecondReaderCloses ref h i →
     i.crowdMarks.reader0 = false → i.crowdMarks.reader1 = false →
     reconcile (slotVerdict i.slot0) (slotVerdict i.slot1) = .unidentified →
     i.corr = .unkeyed → i.calMark = false → i.weight = some (.present grams spread below) →
     x.startup.state ≠ .listenOnly → x.tracker.context = some c →
     c.declared = 0 ∨ min 65535 (c.counted + 1) ≠ c.declared → c.roster.length ≤ 64 →
     (∀ k ∈ c.roster.reverse.take x.cfg.scanDepth, ¬ x.Passes grams (i.gap || spread) i.thickness k) →
     ∀ n, c.nextIndex ≤ n → n ≤ 4095 → (∀ m, c.nextIndex ≤ m → m < n → (x.entry (key m)).isSome) →
     let stamped : Consignment := { c with counted := min 65535 (c.counted + 1), members := c.members ++ [ref] }
     ∃ y j, exec (.windowClose ref h) ⟨x, q⟩ = .next ⟨y, q⟩ ∧ y.findItem ref = some j ∧ y.link = x.link ∧ y.claims = x.claims ∧
       (n < 4095 → x.entry (key n) = none → x.table.entries.length < 4096 →
         j.key = some (key n) ∧ j.corr = .committed ∧ j.ordinal = some 1 ∧
         y.table = { x.table with entries := x.table.entries ++
           [⟨key n, 1, .known, [], [], false, some ⟨grams, i.gap || spread, i.thickness⟩⟩] } ∧
         y.tracker = { x.tracker with
           context := some { stamped with
             nextIndex := n + 1
             roster := (if c.roster.length < 64 then c.roster else c.roster.drop 1) ++ [key n] }
           issued := x.tracker.issued + 1 }) ∧
       (n = 4095 → j.trackerMark = some .noKey ∧ j.corr = .unkeyed ∧ j.key = i.key ∧ y.table = x.table ∧
         y.tracker = { x.tracker with context := some { stamped with nextIndex := 4095 } }) ∧
       (n < 4095 → x.entry (key n) = none → 4096 ≤ x.table.entries.length → (∀ e ∈ x.table.entries, x.pinned e = true) →
         j.trackerMark = some .tableFull ∧ j.corr = .unkeyed ∧ j.key = i.key ∧
         y.table = { x.table with counts := { x.table.counts with fullRefusals := x.table.counts.fullRefusals + 1 } } ∧
         y.flag .tableFull = true ∧ y.tracker = { x.tracker with context := some { stamped with nextIndex := n } })) ∧
  (∀ (x : Station) (q : List Instr) (ref : ItemRef) (h : Head) (i : Item) (c : Consignment) (grams : Nat) (spread below : Bool)
     (newer older : List Key) (k : Key) (e : Entry),
     let passes := x.Passes grams (i.gap || spread) i.thickness
     x.SecondReaderCloses ref h i →
     i.crowdMarks.reader0 = false → i.crowdMarks.reader1 = false →
     reconcile (slotVerdict i.slot0) (slotVerdict i.slot1) = .unidentified →
     i.corr = .unkeyed → i.calMark = false → i.weight = some (.present grams spread below) →
     x.startup.state ≠ .listenOnly → x.tracker.context = some c →
     c.declared = 0 ∨ min 65535 (c.counted + 1) ≠ c.declared → (x.table.entries.map Entry.key).Nodup →
     c.roster.reverse.take x.cfg.scanDepth = newer ++ k :: older → (∀ a ∈ newer, ¬ passes a) → passes k →
     x.entry k = some e →
     let ordinal := min 255 (e.committed + 1)
     let e' : Entry := { e with committed := max e.committed ordinal }
     ∃ y j, exec (.windowClose ref h) ⟨x, q⟩ = .next ⟨y, q⟩ ∧ y.findItem ref = some j ∧
       j.key = some k ∧ j.corr = .committed ∧ j.ordinal = some ordinal ∧ j.consignment = some c.number ∧
       y.table = { x.table with entries := x.table.entries.eraseP (fun a => a.key = k) ++ [e'] } ∧
       y.tracker = { x.tracker with
         context := some { c with counted := min 65535 (c.counted + 1), members := c.members ++ [ref] }
         matches_ := x.tracker.matches_ + 1 } ∧
       y.link = x.link ∧ y.claims = x.claims ∧ y.records = x.records) ∧
  (∀ (x : Station) (q : List Instr) (ref : ItemRef) (h : Head) (i : Item),
     x.SecondReaderCloses ref h i →
     i.crowdMarks.reader0 = false → i.crowdMarks.reader1 = false →
     reconcile (slotVerdict i.slot0) (slotVerdict i.slot1) = .unidentified → i.corr = .unkeyed →
     (∀ c, x.tracker.context = some c → c.declared = 0 ∨ min 65535 (c.counted + 1) ≠ c.declared) →
     ∃ y j, exec (.windowClose ref h) ⟨x, q⟩ = .next ⟨y, q⟩ ∧ y.findItem ref = some j ∧
       let left (mark : Option TrackerMark) : Prop := j.trackerMark = mark ∧ j.corr = .unkeyed ∧ j.key = i.key ∧
         y.table = x.table ∧ y.claims = x.claims ∧ y.link = x.link
       match x.tracker.context with
       | none => left (some .noKey) ∧ j.consignment = i.consignment
       | some c => j.consignment = some c.number ∧
           match i.weight with
           | none => left i.trackerMark ∧ j.matching = true
           | some w =>
             j.matching = false ∧
             (x.startup.state = .listenOnly → left (some .notActive)) ∧
             (x.startup.state ≠ .listenOnly → i.calMark = true → left i.trackerMark) ∧
             (x.startup.state ≠ .listenOnly → i.calMark = false → (∃ cause, w = .absent cause) → left (some .weightAbsent))) ∧
  (∀ (x : Station) (q : List Instr) (ref : ItemRef) (h : Head) (i : Item) (c : Consignment),
     x.SecondReaderCloses ref h i →
     i.crowdMarks.reader0 = true ∨ i.crowdMarks.reader1 = true ∨
       (∀ slip, reconcile (slotVerdict i.slot0) (slotVerdict i.slot1) ≠ .slip slip) →
     x.tracker.context = some c → c.declared ≠ 0 → min 65535 (c.counted + 1) = c.declared →
     ∃ y j, exec (.windowClose ref h) ⟨x, q⟩ = .next ⟨y, q⟩ ∧ y.findItem ref = some j ∧
       j.consignment = some c.number ∧ y.tracker.context = none ∧
       (x.startup.state ≠ .listenOnly → x.link.txQueue.length < 16 →
         ⟨.summary ⟨c.number, c.publisher, c.declared, c.declared, c.identified, c.provisional, c.review, .complete⟩,
           0, .ready, false⟩ ∈ y.link.txQueue))

/-- An item keyed in ACTIVE is claimed: T rises by one, a CLAIM with the entry's count joins the queue, holdings are asked for
exactly where they were UNKNOWN, the own claim stands in the entry, and the item is QUEUED with the tally as its claim tally. A
key taken where no claim can be made, and the reason: in JOINING and LISTEN-ONLY NOT ACTIVE, with no entry looked up; with 6 own
claims in the entry CLAIMS FULL; a calibration item is not claimed and stays UNKEYED; none of these takes a tally. A CLAIM
refused at a full queue is CLAIM ABANDONED, its tally used. -/
def Obligations.TakingAKey : Prop :=
  (∀ (x : Station) (q : List Instr) (ref : ItemRef) (h : Head) (i : Item) (k : Key),
     x.SecondReaderCloses ref h i →
     i.crowdMarks.reader0 = false → i.crowdMarks.reader1 = false →
     reconcile (slotVerdict i.slot0) (slotVerdict i.slot1) = .keyed k →
     i.corr = .unkeyed → i.calMark = false → x.startup.state = .active →
     x.link.txQueue.length < 15 ∨ x.link.txQueue.length < 16 ∧ x.tracker.context = none →
     (x.entry k).isSome ∨ x.table.entries.length < 4096 → (x.table.entries.map Entry.key).Nodup →
     (∀ e, x.entry k = some e → (e.pending.filter (fun c => c.own)).length < 6) →
     let before := (x.entry k).getD (newEntry k 0 (if x.cfg.gatewayPresent then .unknown else .known))
     ∃ y j e, exec (.windowClose ref h) ⟨x, q⟩ = .next ⟨y, q⟩ ∧
       y.claims.tally = x.claims.tally + 1 ∧
       y.findItem ref = some j ∧ j.corr = .queued ∧ j.key = some k ∧ j.claimTally = some (x.claims.tally + 1) ∧
       ⟨.claim k (x.claims.tally + 1) ref before.committed (decide (before.holdings = .unknown)), 0, .ready, false⟩
         ∈ y.link.txQueue ∧
       y.entry k = some e ∧ ⟨x.ownId, x.claims.tally + 1, ref, none, true⟩ ∈ e.pending ∧
       e.holdings = (if before.holdings = .unknown then .requested x.clock false else before.holdings)) ∧
  (∀ (x : Station) (q : List Instr) (ref : ItemRef) (h : Head) (i : Item) (k : Key),
     x.SecondReaderCloses ref h i →
     i.crowdMarks.reader0 = false → i.crowdMarks.reader1 = false →
     reconcile (slotVerdict i.slot0) (slotVerdict i.slot1) = .keyed k → i.corr = .unkeyed →
     (x.table.entries.map Entry.key).Nodup →
     let full := ∃ e, x.entry k = some e ∧ 6 ≤ (e.pending.filter (fun c => c.own)).length
     let reach := i.calMark = true ∨ x.startup.state ≠ .active ∨ full ∨
       (((x.entry k).isSome ∨ x.table.entries.length < 4096) ∧ 16 ≤ x.link.txQueue.length)
     reach → ∃ y j, exec (.windowClose ref h) ⟨x, q⟩ = .next ⟨y, q⟩ ∧ y.findItem ref = some j ∧ j.key = some k ∧
       (i.calMark = true → j.corr = .unkeyed ∧ y.table = x.table ∧ y.claims = x.claims) ∧
       (i.calMark = false → x.startup.state ≠ .active →
         j.corr = .rejected .notActive ∧ y.table = x.table ∧ y.claims = x.claims) ∧
       (i.calMark = false → x.startup.state = .active → full → j.corr = .rejected .claimsFull ∧ y.claims = x.claims) ∧
       (i.calMark = false → x.startup.state = .active → ¬ full →
         j.corr = .rejected .claimAbandoned ∧ y.claims.tally = x.claims.tally + 1))

/-- DECISION_DUE of an item whose windows have all closed and whose correlation state is settled: its chute and reason are fixed
as sections 9.1 to 9.3 give them, the item is DECIDED, and the fixing is counted. An item still in the member list of the open
consignment leaves it, and adds to the count of its class: review with a reason, provisional with a PROVISIONAL key, identified
with any other; a slip and an item not in the list change no count. -/
def Obligations.DecisionOfASettledItem : Prop :=
  ∀ (x : Station) (q : List Instr) (ref : ItemRef) (i : Item),
    x.findItem ref = some i → i.lane = .read → dist i.lead x.lane.pos = x.cfg.dDec → i.matching = false →
    (i.corr = .unkeyed ∨ i.corr.final) →
    ∃ y, exec (.decisionDue ref) ⟨x, q⟩ = .next ⟨y, q⟩ ∧
      y.findItem ref = some { i with
        lane := .decided
        review := if i.isSlip then none else (i.conditions.find? (fun c => c.1)).map (fun c => c.2)
        chute := some (
          if i.isSlip ∨ i.conditions.any (fun c => c.1) then 0
          else match i.key, i.ordinal with
            | some k, some o => x.cfg.chuteMap.chute k.kind o
            | _, _ => 0) } ∧
      y.records.counts = { x.records.counts with
        disposed := x.records.counts.disposed + 1
        reviews := x.records.counts.reviews + (if i.isSlip = false ∧ i.conditions.any (fun c => c.1) then 1 else 0) } ∧
      y.tracker = { x.tracker with context := x.tracker.context.map (fun c =>
        let left : Consignment := { c with members := c.members.filter (fun r => r ≠ ref) }
        if i.outcome = some .slip ∨ ref ∉ c.members then c
        else if i.conditions.any (fun c => c.1) then { left with review := min 65535 (c.review + 1) }
        else match i.key with
          | none => c
          | some k =>
            if k.kind = .provisional then { left with provisional := min 65535 (c.provisional + 1) }
            else { left with identified := min 65535 (c.identified + 1) }) } ∧
      y.link = x.link ∧ y.table = x.table ∧ y.claims = x.claims

/-- DECISION_DUE leaves no claim in flight: an item QUEUED or SETTLING is REJECTED UNSETTLED; an item WAITING with its own claim
in its entry is COMMITTED with an ordinal; an item that was not in READ has LATE READINGS, chute 0 and no open window; and in
every case it is DECIDED with a chute. A WAITING item at its decision point with P pending claims before its own commits
min(255, C + P + 1): RANKED if P > 0, HOLDINGS UNCONFIRMED if the holdings are REQUESTED, a ranked commit counted where either
holds; the entry is written as every own commit writes it, and the COMMIT joins a queue with room, or is lost with TX ABANDON. The
own claim of a QUEUED or SETTLING item leaves its entry, C and the own committed list kept, and the entry's other own claims are
tested on the report. A QUEUED item's CLAIM leaves the queue if it waits there, and is marked taken back if it is ON LINE, nothing
counted; a SETTLING item's WITHDRAW is offered and counted, and lost with TX ABANDON at a full queue. With one place left it is
the WITHDRAW that takes it, ahead of the COMMIT of another own claim let go on the report: the model's choice,
notes/assumptions/16.md. -/
def Obligations.DecisionFinalizesTheItem : Prop :=
  (∀ (x : Station) (q : List Instr) (ref : ItemRef) (i : Item),
     x.findItem ref = some i → i.lane.undecided → dist i.lead x.lane.pos = x.cfg.dDec →
     (∀ k ∈ x.lane.queue, k.ref = ref → k.departed = false ∧ k.depositHeld = false) →
     ((i.corr = .queued ∨ ∃ d, i.corr = .settling d) → i.key.isSome) →
     (i.corr = .waiting → ∃ k e c, i.key = some k ∧ x.entry k = some e ∧ e.ownClaim ref = some c) →
     ∃ y j, exec (.decisionDue ref) ⟨x, q⟩ = .next ⟨y, q⟩ ∧ y.findItem ref = some j ∧
       j.lane = .decided ∧ j.chute.isSome ∧ j.matching = false ∧
       (i.lane ≠ .read → j.lateReadings = true ∧ j.chute = some 0 ∧ ∀ h, j.windows.get h ≠ .opened) ∧
       ((i.corr = .queued ∨ ∃ d, i.corr = .settling d) → j.corr = .rejected .unsettled) ∧
       (i.corr = .waiting → j.corr = .committed ∧ ∃ o, j.ordinal = some o ∧ 1 ≤ o ∧ o ≤ 255) ∧
       (i.corr = .unkeyed → j.corr = .unkeyed) ∧ (i.corr.final → j.corr = i.corr ∧ j.ordinal = i.ordinal)) ∧
  (∀ (x : Station) (q : List Instr) (ref : ItemRef) (i : Item) (k : Key) (e : Entry) (c : Claim),
     x.findItem ref = some i → i.lane.undecided → i.windows.reader0 ≠ .opened → i.windows.reader1 ≠ .opened →
     dist i.lead x.lane.pos = x.cfg.dDec → i.corr = .waiting → i.key = some k →
     x.entry k = some e → e.pending.find? (fun c => c.own && decide (c.ref = ref)) = some c →
     (x.table.entries.map Entry.key).Nodup →
     let p := (e.pending.filter (fun a => a.before c)).length
     let ordinal := min 255 (e.committed + p + 1)
     ∃ y j e', exec (.decisionDue ref) ⟨x, q⟩ = .next ⟨y, q⟩ ∧ y.findItem ref = some j ∧ j.corr = .committed ∧
       j.ordinal = some ordinal ∧ j.ranked = (i.ranked || decide (0 < p)) ∧
       (j.holdingsUnconfirmed = true ↔
         i.holdingsUnconfirmed = true ∨ ∃ since noted, e.holdings = .requested since noted) ∧
       (j.unconfirmed = (i.unconfirmed || i.unconfirmedMark)) ∧
       y.entry k = some e' ∧ ordinal ≤ e'.committed ∧ (∀ a ∈ e'.pending, ¬ (a.own = true ∧ a.ref = ref)) ∧ y.TestedOut k ∧
       (x.NoOtherWaits e ref → e' = e.afterCommit c ordinal ∧ y.table.entries.getLast? = some e') ∧
       (e.LetsCommit c → y.claims.counts.ranked = x.claims.counts.ranked ∧
         (x.NoOtherWaits e ref → y.claims.counts.commits = x.claims.counts.commits + 1)) ∧
       (¬ e.LetsCommit c → y.claims.counts.ranked = x.claims.counts.ranked + 1 ∧
         (x.NoOtherWaits e ref → y.claims.counts.commits = x.claims.counts.commits)) ∧
       (x.link.txQueue.length < 16 → ⟨.commit k c.tally ref ordinal, 0, .ready, false⟩ ∈ y.link.txQueue) ∧
       (16 ≤ x.link.txQueue.length → y.flag .txAbandon = true ∧ y.link.txQueue = x.link.txQueue)) ∧
  (∀ (x : Station) (q : List Instr) (ref : ItemRef) (i : Item) (k : Key) (e : Entry),
     x.findItem ref = some i → i.lane.undecided → i.windows.reader0 ≠ .opened → i.windows.reader1 ≠ .opened →
     dist i.lead x.lane.pos = x.cfg.dDec → i.key = some k →
     x.entry k = some e → (∃ c ∈ e.pending, c.own = true ∧ c.ref = ref) → (x.table.entries.map Entry.key).Nodup →
     (x.lane.queue.map Item.ref).Nodup →
     (∀ a ∈ x.lane.queue, a.corr = .waiting → a.departed = false ∧ a.depositHeld = false) →
     ∃ y, exec (.decisionDue ref) ⟨x, q⟩ = .next ⟨y, q⟩ ∧
       (i.corr = .queued →
         x.Retests y k (e.withoutOwn ref) false ∧ y.claims.counts.withdrawals = x.claims.counts.withdrawals ∧
         (∀ g ∈ x.link.txQueue, g.isClaimOf ref = false → g ∈ y.link.txQueue) ∧
         ∀ f, x.link.txQueue.filter (fun g => g.isClaimOf ref) = [f] →
           if f.standing = .onLine then { f with takenBack := true } ∈ y.link.txQueue
           else (∀ b, x.records.overflow = some b → b.cls ≠ .claim) → ∀ g ∈ y.link.txQueue, g.isClaimOf ref = false) ∧
       (∀ d tally, i.corr = .settling d → i.claimTally = some tally →
         x.Retests y k (e.withoutOwn ref) false ∧ x.RetestSends y k (e.withoutOwn ref) 1 ∧
         y.claims.counts.withdrawals = x.claims.counts.withdrawals + 1 ∧
         (x.link.txQueue.length < 16 → ⟨.withdraw k tally ref, 0, .ready, false⟩ ∈ y.link.txQueue) ∧
         (16 ≤ x.link.txQueue.length → y.flag .txAbandon = true ∧ y.link.txQueue = x.link.txQueue)))

/-- DIVERT_POINT at P − L = D_div: the DECIDED item is DIVERTING and holds the diverter at its chute; a previous holder that has
not departed and whose chute differs is flagged MISDIVERTED. DEPARTURE at T known and P − T = D_div: the diverter returns to
chute 0 if the item still holds it; a slip, and any item in LISTEN-ONLY, is removed with no record; otherwise its DEPOSIT joins
the queue and the item is removed, or waits in an empty overflow slot with the item kept and its DEPOSIT held, or is not built.
A removal frees the item's buffer and fails its calibration; an item that waits keeps both. With T absent no item departs. -/
def Obligations.DivertAndDeparture : Prop :=
  (∀ (x : Station) (q : List Instr) (ref : ItemRef) (i : Item) (chute : Chute),
     x.findItem ref = some i → i.lane = .decided → i.chute = some chute → dist i.lead x.lane.pos = x.cfg.dDiv →
     exec (.divertPoint ref) ⟨x, q⟩ = .next ⟨{ x with lane := { x.lane with
       diverterChute := chute, diverterHolder := some ref
       queue := x.lane.queue.map (fun k =>
         if k.ref = ref then { k with lane := .diverting }
         else if x.lane.diverterHolder = some k.ref ∧ k.departed = false ∧ k.chute ≠ some chute then
           { k with misdiverted := true }
         else k) } }, q⟩) ∧
  (∀ (x : Station) (q : List Instr) (ref : ItemRef) (i : Item) (t : Pos),
     x.findItem ref = some i → i.lane = .diverting → i.departed = false → i.trail = some t →
     dist t x.lane.pos = x.cfg.dDiv →
     let gone := x.lane.queue.filter (fun k => k.ref ≠ ref)
     let kept := x.lane.queue.map (fun k => if k.ref = ref then { k with departed := true } else k)
     let removed (y : Station) : Prop := y.lane.queue = gone ∧ y.measurement.bufferA = (x.measurement.freeBuffer ref).bufferA ∧
       y.measurement.bufferB = (x.measurement.freeBuffer ref).bufferB ∧ x.CalibrationFails y ref
     let waits (y : Station) : Prop := y.measurement = x.measurement ∧ y.records.flags = x.records.flags
     ∃ y, exec (.departure ref) ⟨x, q⟩ = .next ⟨y, q⟩ ∧
       (if x.lane.diverterHolder = some ref then y.lane.diverterChute = 0 ∧ y.lane.diverterHolder = none
         else y.lane.diverterChute = x.lane.diverterChute ∧ y.lane.diverterHolder = x.lane.diverterHolder) ∧
       if i.outcome = some .slip ∨ x.startup.state = .listenOnly then
         removed y ∧ y.link.txQueue = x.link.txQueue ∧ y.records.overflow = x.records.overflow
       else if x.link.txQueue.length < 16 then
         removed y ∧ y.link.txQueue = x.link.txQueue ++ [⟨.deposit i.deposit, 0, .ready, false⟩] ∧
           y.records.overflow = x.records.overflow
       else if x.records.overflow = none then
         y.lane.queue = kept.map (fun k => if k.ref = ref then { k with depositHeld := true } else k) ∧
           y.link.txQueue = x.link.txQueue ∧ y.records.overflow = some (.deposit i.deposit) ∧ waits y
       else y.lane.queue = kept ∧ y.link.txQueue = x.link.txQueue ∧ y.records.overflow = x.records.overflow ∧ waits y) ∧
  (∀ (x : Station) (q : List Instr) (ref : ItemRef) (i : Item), x.findItem ref = some i → i.trail = none →
     exec (.departure ref) ⟨x, q⟩ = .next ⟨x, q⟩)

/-- The Lane Hold output: asserted while the Item Queue or the transmit queue is at its threshold, or the station is not ACTIVE,
and released otherwise; the overflow slot does not count. While it is asserted a leading edge goes on creating its item. -/
def Obligations.LaneHoldOutput : Prop :=
  (∀ x : Station, x.laneHold = true ↔
    x.cfg.itemHold ≤ x.lane.queue.length ∨ x.cfg.txHold ≤ x.link.txQueue.length ∨
    x.startup.state = .configLoad ∨ x.startup.state = .joining ∨ x.startup.state = .listenOnly) ∧
  (∀ (x : Station) (q : List Instr), x.laneHold = true → x.startup.state ≠ .configLoad → x.lane.queue.length < 8 →
    ∃ y, exec .leadingEdge ⟨x, q⟩ = .next ⟨y, q⟩ ∧ y.lane.queue.length = x.lane.queue.length + 1)

/-- The lane state of an item in the queue before and after a command never goes back, and once DECIDED its chute and review
reason are as they were fixed. A command that names an item leaves every other item that stays in the queue as it was, but for
what a commit of its own WAITING claim writes, an unconfirmed mark a dropped claim sets, MISDIVERTED, which DIVERT_POINT
alone sets, and the DEPOSIT of a departed one that a decision's room brings into the overflow slot (in a queue that holds no
two items with the same item ref, as none does). An item's correlation state moves only as the table of chapter 7 says, and
COMMITTED and REJECTED, with the ordinal and the reason, are final. -/
def Obligations.ItemStatesMoveForward : Prop :=
  (∀ (c : Instr) (s t : State) (ref : ItemRef) (i j : Item), exec c s = .next t →
     s.station.findItem ref = some i → t.station.findItem ref = some j →
     j.lead = i.lead ∧ i.lane.rank ≤ j.lane.rank ∧
     (LaneState.decided.rank ≤ i.lane.rank → j.chute = i.chute ∧ j.review = i.review)) ∧
  (∀ (c : Instr) (s t : State) (ref r : ItemRef) (i j : Item), r ≠ ref →
     ((∃ h, c = .windowOpen ref h ∨ c = .windowClose ref h) ∨ c = .weightCompletion ref ∨ c = .decisionDue ref ∨
       c = .divertPoint ref ∨ c = .departure ref ∨ c = .settleExpiry ref) →
     (s.station.lane.queue.map Item.ref).Nodup →
     exec c s = .next t → s.station.findItem r = some i → t.station.findItem r = some j →
     j = { i with
       corr := j.corr, ordinal := j.ordinal, unconfirmed := j.unconfirmed, unconfirmedMark := j.unconfirmedMark
       misdiverted := j.misdiverted, depositHeld := j.depositHeld } ∧
     (j.depositHeld = i.depositHeld ∨ i.departed = true ∧ c = .decisionDue ref) ∧
     (j.corr = i.corr ∧ j.ordinal = i.ordinal ∧ j.unconfirmed = i.unconfirmed ∨ i.corr = .waiting ∧ j.corr = .committed) ∧
     (j.misdiverted = i.misdiverted ∨ c = .divertPoint ref)) ∧
  (∀ (c : Instr) (s t : State) (ref : ItemRef) (i j : Item), exec c s = .next t →
     s.station.findItem ref = some i → t.station.findItem ref = some j →
     (i.corr.final → j.corr = i.corr ∧ j.ordinal = i.ordinal) ∧ (j.corr ≠ i.corr → i.corr.mayMoveTo j.corr = true))

/-! ### Head lines (chapter 2) -/

/-- HEAD_SYMBOL_ARRIVAL: discarded in CONFIG LOAD and on a disabled line; stored behind the others while the FIFO holds fewer
than 64, carrying an armed overrun mark; otherwise dropped, the mark armed, HEAD OVERRUN set and an overrun counted. -/
def Obligations.HeadSymbolArrival : Prop :=
  ∀ (x : Station) (q : List Instr) (h : Head) (sym : Symbol),
    let r := x.receivers.get h
    let disabled := x.cfg.acceptValue.get h &&& ~~~(x.cfg.acceptMask.get h) ≠ 0
    (x.startup.state = .configLoad ∨ disabled → exec (.headSymbolArrival h sym) ⟨x, q⟩ = .next ⟨x, q⟩) ∧
    (x.startup.state ≠ .configLoad → ¬ disabled → r.fifo.length < 64 →
      exec (.headSymbolArrival h sym) ⟨x, q⟩ = .next ⟨{ x with
        receivers := x.receivers.set h { r with fifo := r.fifo ++ [⟨sym, r.markArmed⟩], markArmed := false } }, q⟩) ∧
    (x.startup.state ≠ .configLoad → ¬ disabled → 64 ≤ r.fifo.length →
      exec (.headSymbolArrival h sym) ⟨x, q⟩ = .next ⟨{ x with
        receivers := x.receivers.set h { r with markArmed := true }
        headCounts := { x.headCounts with overruns := x.headCounts.overruns + 1 }
        records := { x.records with flags := x.records.flags ||| 8#13 } }, q⟩)

/-- FRAMER_TAKE_SYMBOL in HUNT: the lead search, with an overrun mark first taking the progress to 0. FRAMER_TAKE_SYMBOL of a
wrong check symbol: the packet is discarded, the framer hunts again, HEAD FORMAT ERROR is set and a format error counted; the
same for a count the line does not allow, and for an overrun mark reached in the middle of a packet, whose symbol is then taken
in HUNT. A type symbol that is not qualified drops the framer back to HUNT, uncounted. -/
def Obligations.FramerTakes : Prop :=
  (∀ (x : Station) (q : List Instr) (h : Head) (p : LeadProgress) (sym : Symbol) (mark : Bool) (rest : List FifoSymbol),
     (x.receivers.get h).framer = .hunt p → (x.receivers.get h).fifo = ⟨sym, mark⟩ :: rest →
     exec (.framerTakeSymbol h) ⟨x, q⟩ = .next ⟨{ x with receivers := x.receivers.set h { x.receivers.get h with
       fifo := rest
       framer :=
         if sym = 0x3FF then (if p = .two ∧ mark = false then .type else .hunt .one)
         else if sym = 0 ∧ p = .one ∧ mark = false then .hunt .two
         else .hunt .zero } }, q⟩) ∧
  (∀ (x : Station) (q : List Instr) (h : Head) (sym : Symbol) (mark : Bool) (rest : List FifoSymbol),
     let r := x.receivers.get h
     let spoiled (next : Framer) : Station := { x with
       receivers := x.receivers.set h { r with fifo := rest, framer := next }
       headCounts := { x.headCounts with formatErrors := x.headCounts.formatErrors + 1 }
       records := { x.records with flags := x.records.flags ||| 4#13 } }
     r.fifo = ⟨sym, mark⟩ :: rest →
     (∀ t n count symbols sum, r.framer = .check t n count symbols sum → mark = false → sym ≠ sum →
       exec (.framerTakeSymbol h) ⟨x, q⟩ = .next ⟨spoiled (.hunt .zero), q⟩) ∧
     (∀ t n sum, r.framer = .count t n sum → mark = false →
       (match h with
         | .reader0 | .reader1 => t.toNat < 0x80 ∨ sym.toNat = 0 ∨ 40 < sym.toNat
         | .scale => 0x80 ≤ t.toNat ∨ 60 < sym.toNat ∨ (x.cfg.wide = true ∧ sym.toNat % 2 = 1)
         | .gauge => 0x80 ≤ t.toNat ∨ 60 < sym.toNat ∨ sym.toNat % 2 = 1) →
       exec (.framerTakeSymbol h) ⟨x, q⟩ = .next ⟨spoiled (.hunt .zero), q⟩) ∧
     (r.framer = .type → mark = false →
       ¬ (sym.toNat / 256 = (List.range 8).countP (fun i => (BitVec.ofNat 8 sym.toNat).getLsbD i) % 4 ∧
         BitVec.ofNat 8 sym.toNat &&& x.cfg.acceptMask.get h = x.cfg.acceptValue.get h &&& x.cfg.acceptMask.get h) →
       exec (.framerTakeSymbol h) ⟨x, q⟩ = .next ⟨{ x with receivers := x.receivers.set h { r with
         fifo := rest, framer := if sym = 0x3FF then .hunt .one else .hunt .zero } }, q⟩) ∧
     (mark = true → (∀ p, r.framer ≠ .hunt p) → (∀ p, r.framer ≠ .handOver p) →
       exec (.framerTakeSymbol h) ⟨x, q⟩ = .next ⟨spoiled (if sym = 0x3FF then .hunt .one else .hunt .zero), q⟩))

/-- A packet of n data symbols waiting whole in the FIFO of its line, its type qualified, its count allowed and its check right,
is framed by n + 7 takes of its line's framer: it stands in HAND-OVER stamped with P, its sequence number tested and kept, a gap
counted on its line; and nothing else has changed. -/
def Obligations.WellFormedPacketIsFramed : Prop :=
  ∀ (x : Station) (h : Head) (type second count : Symbol) (data : List Symbol) (behind : List FifoSymbol),
    let r := x.receivers.get h
    let code : Byte := BitVec.ofNat 8 type.toNat
    let sum := data.foldl (fun a b => a + b) (type + second + count)
    r.framer = .hunt .zero → x.cfg.acceptValue.get h &&& ~~~(x.cfg.acceptMask.get h) = 0 →
    type.toNat / 256 = (List.range 8).countP (fun i => code.getLsbD i) % 4 →
    code &&& x.cfg.acceptMask.get h = x.cfg.acceptValue.get h &&& x.cfg.acceptMask.get h →
    count.toNat = data.length →
    (match h with
      | .reader0 | .reader1 => 0x80 ≤ code.toNat ∧ 1 ≤ count.toNat ∧ count.toNat ≤ 40
      | .scale => code.toNat < 0x80 ∧ count.toNat ≤ 60 ∧ (x.cfg.wide = true → count.toNat % 2 = 0)
      | .gauge => code.toNat < 0x80 ∧ count.toNat ≤ 60 ∧ count.toNat % 2 = 0) →
    r.fifo = (([0x3FF, 0x000, 0x3FF, type, second, count] ++ data ++ [sum]).map (fun s => ⟨s, false⟩)) ++ behind →
    ∃ y p, Host.Core.run Sys2Proof.core (data.length + 7) ⟨x, List.replicate (data.length + 7) (.framerTakeSymbol h)⟩ =
        .next ⟨y, []⟩ ∧
      (let gap := ∃ l, r.lastSequence = some l ∧ BitVec.ofNat 8 second.toNat ≠ l + 1
       y = { x with
         receivers := x.receivers.set h { r with
           fifo := behind, framer := .handOver p
           lastSequence := if h = .scale ∨ h = .gauge then some (BitVec.ofNat 8 second.toNat) else r.lastSequence }
         headCounts := y.headCounts } ∧
       (h = .scale ∧ gap → y.headCounts = { x.headCounts with scaleGaps := x.headCounts.scaleGaps + 1 }) ∧
       (h = .gauge ∧ gap → y.headCounts = { x.headCounts with gaugeGaps := x.headCounts.gaugeGaps + 1 }) ∧
       (¬ ((h = .scale ∨ h = .gauge) ∧ gap) → y.headCounts = x.headCounts)) ∧
      p.typeCode = code ∧ p.second = BitVec.ofNat 8 second.toNat ∧ p.count = data.length ∧ p.symbols = data ∧
      p.stamp = x.lane.pos ∧
      (p.gapMark = true ↔ h = .scale ∧ ∃ l, r.lastSequence = some l ∧ BitVec.ofNat 8 second.toNat ≠ l + 1)

/-- HAND_OVER of a packet whose stamp lies in one item's window, not force-closed: a reading takes its reader's slot with its
verdict, a MISREAD counted; gauge pairs raise the maxima; and the framer hunts again. HAND_OVER of a scale packet to its item:
its samples join the buffer the item holds, the most recent 64 kept; without one the item takes A, else B; with both taken it is
refused, BUFFER, and counted. A gap mark sets GAP where the samples are stored; a refused packet sets none (the model's choice for
the first one refused, notes/assumptions/27.md). -/
def Obligations.PacketToItsItem : Prop :=
  (∀ (x : Station) (q : List Instr) (h : Head) (p : Packet) (i : Item),
     (x.receivers.get h).framer = .handOver p → x.lane.queue.filter (fun i => i.windowHolds x.cfg h p.stamp) = [i] →
     i.windows.get h ≠ .forceClosed →
     let hunting := x.receivers.set h { x.receivers.get h with framer := .hunt .zero }
     let reading : Reading := ⟨p.second, p.symbols, verdictOf p.second p.symbols⟩
     let given (f : Item → Item) (counts : KeyCounts) : Station := { x with
       receivers := hunting, keyCounts := counts
       lane := { x.lane with queue := x.lane.queue.map (fun k => if k.ref = i.ref then f k else k) } }
     let counts := if reading.verdict = .misread then { x.keyCounts with misreads := x.keyCounts.misreads + 1 } else x.keyCounts
     (h = .reader0 →
       exec (.handOver h) ⟨x, q⟩ = .next ⟨given (fun k => { k with slot0 := some reading }) counts, q⟩) ∧
     (h = .reader1 →
       exec (.handOver h) ⟨x, q⟩ = .next ⟨given (fun k => { k with slot1 := some reading }) counts, q⟩) ∧
     (h = .gauge →
       exec (.handOver h) ⟨x, q⟩ = .next ⟨given (fun k => { k with
         maxThickness := (pairsOf p.symbols).foldl (fun m t => raiseMax m t.1) k.maxThickness
         maxWidth := (pairsOf p.symbols).foldl (fun m t => raiseMax m t.2) k.maxWidth }) x.keyCounts, q⟩)) ∧
  (∀ (x : Station) (q : List Instr) (p : Packet) (i : Item),
     (x.receivers.get .scale).framer = .handOver p →
     x.lane.queue.filter (fun i => i.windowHolds x.cfg .scale p.stamp) = [i] → i.windows.scale ≠ .forceClosed →
     let recent (l : List Int) := l.drop (l.length - 64)
     let samples := samplesOf x.cfg.wide p.symbols
     let m := x.measurement
     let given (f : Item → Item) (m : Measurement) : Station := { x with
       receivers := x.receivers.set .scale { x.receivers.get .scale with framer := .hunt .zero }
       lane := { x.lane with queue := x.lane.queue.map (fun k => if k.ref = i.ref then f k else k) }
       measurement := m }
     let gap (k : Item) : Item := { k with gap := k.gap || p.gapMark }
     exec (.handOver .scale) ⟨x, q⟩ = .next ⟨
       if i.bufferRefused = false ∧ m.bufferA.holder = some i.ref then
         given gap { m with bufferA := { m.bufferA with samples := recent (m.bufferA.samples ++ samples) } }
       else if i.bufferRefused = false ∧ m.bufferB.holder = some i.ref then
         given gap { m with bufferB := { m.bufferB with samples := recent (m.bufferB.samples ++ samples) } }
       else if i.bufferRefused = false ∧ m.bufferA.holder = none then
         given gap { m with bufferA := ⟨some i.ref, recent samples, none⟩ }
       else if i.bufferRefused = false ∧ m.bufferB.holder = none then
         given gap { m with bufferB := ⟨some i.ref, recent samples, none⟩ }
       else given (fun k => { k with bufferRefused := true })
         { m with counts := { m.counts with bufferRefusals := m.counts.bufferRefusals + 1 } }, q⟩)

/-- HAND_OVER of a packet that no item takes: in no window, a stray, counted, or from the scale an empty packet for the tare; in
one force-closed window, a counted stray; in two windows or more, each of those items CROWDED and marked, and one packet
counted. A departed item has no window that contains a stamp (the model's reading, notes/assumptions/5.md), and its record stays as it
is. A force-closed window contains a stamp in its span also when P has passed its upper end by the hand-over: the model's choice,
notes/assumptions/28.md. -/
def Obligations.PacketToNoItem : Prop :=
  ∀ (x : Station) (q : List Instr) (h : Head) (p : Packet),
    (x.receivers.get h).framer = .handOver p →
    let held := x.lane.queue.filter (fun i => i.windowHolds x.cfg h p.stamp)
    let hunting (l : Lane) : Station := { x with
      receivers := x.receivers.set h { x.receivers.get h with framer := .hunt .zero }, lane := l }
    let stray := hunting { x.lane with counts := { x.lane.counts with strays := x.lane.counts.strays + 1 } }
    (∀ i ∈ held, i.departed = false) ∧
    ((x.lane.queue.map Item.ref).Nodup → ∃ y, exec (.handOver h) ⟨x, q⟩ = .next ⟨y, q⟩ ∧
      ∀ i ∈ x.lane.queue, i.departed = true → i ∈ y.lane.queue) ∧
    (held = [] → h ≠ .scale → exec (.handOver h) ⟨x, q⟩ = .next ⟨stray, q⟩) ∧
    (∀ i, held = [i] → i.windows.get h = .forceClosed → exec (.handOver h) ⟨x, q⟩ = .next ⟨stray, q⟩) ∧
    (2 ≤ held.length → exec (.handOver h) ⟨x, q⟩ = .next ⟨hunting { x.lane with
      queue := x.lane.queue.map (fun k => if k.windowHolds x.cfg h p.stamp then
        { k with crowded := true, crowdMarks := k.crowdMarks.set h true } else k)
      counts := { x.lane.counts with crowded := x.lane.counts.crowded + 1 } }, q⟩) ∧
    (held = [] → h = .scale →
      let xs := samplesOf x.cfg.wide p.symbols
      let mean := (2 * xs.sum + xs.length) / (2 * xs.length)
      let moved (tare : Option Int) (run : Nat) : Measurement := { x.measurement with tare := tare, rejectedRun := run }
      let drifted (y : Station) : Station := { y with records := { y.records with flags := y.records.flags ||| 16#13 } }
      exec (.handOver h) ⟨x, q⟩ = .next ⟨
        if xs = [] then hunting x.lane
        else match x.measurement.tare with
          | none => { hunting x.lane with measurement := moved (some mean) x.measurement.rejectedRun }
          | some t =>
            if (mean - t).natAbs ≤ x.cfg.tareLimit then
              { hunting x.lane with measurement := moved (some (t + (mean - t).tdiv 8)) 0 }
            else if x.measurement.rejectedRun = 3 then
              drifted { hunting x.lane with measurement := { moved (some mean) 0 with
                counts := { x.measurement.counts with tareRezeros := x.measurement.counts.tareRezeros + 1 } } }
            else drifted { hunting x.lane with measurement := moved (some t) (x.measurement.rejectedRun + 1) }, q⟩)

/-! ### Codes and keys (chapter 3) -/

/-- Which readings are VALID or a SLIP, and with what. Subtypes 1 to 3: 13 digits and an add-on of 0, 2 or 5, valid where the
sum with weights 1 and 3 in turn is divisible by 10; a code that begins 977 is SERIAL, digits 4 to 10 × 128 + the 2-digit add-on
or 100, any other is ARTICLE, its 13 digits. Subtypes 4 and 5: 7 digits, the check character and an add-on of 0 or 2, valid where
the check is (11 − s mod 11) mod 11 with weights 8 to 2, X for 10; SERIAL, the 7 digits × 128 + the add-on or 100. Subtype 6: D, S
and 17 digits are a slip with its three numbers. Every other reading is a MISREAD. Every key formed is ARTICLE or SERIAL, inside
the range of its kind. -/
def Obligations.ReadKeysAreInRange : Prop :=
  let digits (l : List Nat) (n : Nat) : Prop := l.length = n ∧ ∀ d ∈ l, d ≤ 9
  let printed (l : List Nat) : List Symbol := l.map (fun d => BitVec.ofNat 10 (0x30 + d))
  let number (l : List Nat) : Nat := l.foldl (fun v d => 10 * v + d) 0
  let check (base : List Nat) : Symbol :=
    let v := (11 - ((List.range 7).map (fun n => (8 - n) * base.getD n 0)).sum % 11) % 11
    if v = 10 then 0x58 else BitVec.ofNat 10 (0x30 + v)
  (∀ (subtype : Byte) (code addOn : List Nat),
     digits code 13 → (subtype = 1 ∧ digits addOn 0) ∨ (subtype = 2 ∧ digits addOn 2) ∨ (subtype = 3 ∧ digits addOn 5) →
     verdictOf subtype (printed (code ++ addOn)) =
       if ((List.range 13).map (fun n => (if n % 2 = 0 then 1 else 3) * code.getD n 0)).sum % 10 = 0 then
         .valid (if code.take 3 = [9, 7, 7] then
           ⟨.serial, number ((code.drop 3).take 7) * 128 + (if subtype = 2 then number addOn else 100)⟩
         else ⟨.article, number code⟩)
       else .misread) ∧
  (∀ (subtype : Byte) (base addOn : List Nat) (c : Symbol),
     digits base 7 → (subtype = 4 ∧ digits addOn 0) ∨ (subtype = 5 ∧ digits addOn 2) →
     verdictOf subtype (printed base ++ c :: printed addOn) =
       if c = check base then .valid ⟨.serial, number base * 128 + (if subtype = 5 then number addOn else 100)⟩
       else .misread) ∧
  (∀ consignment declared publisher : List Nat, digits consignment 8 → digits declared 4 → digits publisher 5 →
     verdictOf 6 ([0x44, 0x53] ++ printed (consignment ++ declared ++ publisher)) = .slip
       { number := number consignment, declared := number declared, publisher := number publisher }) ∧
  (∀ (subtype : Byte) (symbols : List Symbol), verdictOf subtype symbols ≠ .misread →
     (∃ code addOn, symbols = printed (code ++ addOn) ∧ digits code 13 ∧
       ((subtype = 1 ∧ digits addOn 0) ∨ (subtype = 2 ∧ digits addOn 2) ∨ (subtype = 3 ∧ digits addOn 5))) ∨
     (∃ base addOn, symbols = printed base ++ check base :: printed addOn ∧ digits base 7 ∧
       ((subtype = 4 ∧ digits addOn 0) ∨ (subtype = 5 ∧ digits addOn 2))) ∨
     (subtype = 6 ∧ ∃ l, symbols = [0x44, 0x53] ++ printed l ∧ digits l 17)) ∧
  ∀ (subtype : Byte) (symbols : List Symbol) (k : Key), verdictOf subtype symbols = .valid k →
    k.kind ≠ .provisional ∧ Key.inRange k = true

/-- The check of a 13-digit code and of an 8-character code finds every single wrong digit: of two readings of one subtype that
differ in one of the first 13 digits, or of the first 8 characters, at most one is valid. -/
def Obligations.OneWrongDigitIsAMisread : Prop :=
  ∀ (subtype : Byte) (front back : List Symbol) (a b : Symbol) (k : Key), a ≠ b →
    ((subtype.toNat = 1 ∨ subtype.toNat = 2 ∨ subtype.toNat = 3) ∧ front.length < 13 ∨
      (subtype.toNat = 4 ∨ subtype.toNat = 5) ∧ front.length < 8) →
    verdictOf subtype (front ++ a :: back) = .valid k → verdictOf subtype (front ++ b :: back) = .misread

/-! ### Weighing (chapter 4) -/

/-- WEIGHT_COMPLETION: the record is written as the settled samples give it, the buffer freed, and a calibration that chose the
item ends: with the new factor and CAL DONE from a present, steady weight with Net > 0 whose factor lies in 1..65535, with CAL
FAILED otherwise. An item that waited in matching waits no more: NO KEY if its consignment has closed, NOT ACTIVE in LISTEN-ONLY, no
mark with the calibration mark; otherwise its weight is matched: the newest roster reference within the scan depth that passes
gives its key, is touched and counted, and the item commits min(255, C + 1); where none passes the next PROVISIONAL key is issued
and ordinal 1 committed. For an item that did not wait no matching is run. -/
def Obligations.WeightCompletion : Prop :=
  ∀ (x : Station) (q : List Instr) (ref : ItemRef) (i : Item) (b : SampleBuffer) (c : Computation),
    x.findItem ref = some i → x.measurement.bufferOf ref = some b → b.computing = some c →
    let w := computeWeight x.cfg.settleCount x.cfg.settleBand c b.samples
    let unsteady := i.gap || (match w.1 with
      | .present _ spread _ => spread
      | .absent _ => false)
    ∃ y j, exec (.weightCompletion ref) ⟨x, q⟩ = .next ⟨y, q⟩ ∧ y.findItem ref = some j ∧ j.weight = some w.1 ∧
      j.gap = i.gap ∧ y.measurement.bufferA = (x.measurement.freeBuffer ref).bufferA ∧
      (i.matching = false → j.key = i.key ∧ j.corr = i.corr ∧ j.trackerMark = i.trackerMark ∧ y.table = x.table ∧
        y.tracker = x.tracker) ∧
      (i.matching = true → i.corr = .unkeyed → j.matching = false ∧
        (let left (mark : Option TrackerMark) : Prop :=
           j.trackerMark = mark ∧ j.corr = .unkeyed ∧ j.key = i.key ∧ y.table = x.table
         ((∀ c, x.tracker.context = some c → ref ∉ c.members) → left (some .noKey)) ∧
         ∀ k, x.tracker.context = some k → ref ∈ k.members →
           (x.startup.state = .listenOnly → left (some .notActive)) ∧
           (x.startup.state ≠ .listenOnly → i.calMark = true → left i.trackerMark) ∧
           (x.startup.state ≠ .listenOnly → i.calMark = false → ∀ grams spread below, w.1 = .present grams spread below →
             let passes := x.Passes grams unsteady i.thickness
             let key : Key := ⟨.provisional, k.number * 4096 + k.nextIndex⟩
             ((∀ a ∈ k.roster.reverse.take x.cfg.scanDepth, ¬ passes a) → k.nextIndex < 4095 → k.roster.length ≤ 64 →
               i.consignment = some k.number → x.table.entries.length < 4096 → x.entry key = none →
               j.key = some key ∧ j.corr = .committed ∧ j.ordinal = some 1 ∧
                 y.entry key = some ⟨key, 1, .known, [], [], false, some ⟨grams, unsteady, i.thickness⟩⟩ ∧
                 y.tracker.context = some { k with
                   nextIndex := k.nextIndex + 1
                   roster := (if k.roster.length < 64 then k.roster else k.roster.drop 1) ++ [key] } ∧
                 y.tracker.issued = x.tracker.issued + 1) ∧
             (∀ newer older found e, k.roster.reverse.take x.cfg.scanDepth = newer ++ found :: older →
               (∀ a ∈ newer, ¬ passes a) → passes found → x.entry found = some e → (x.table.entries.map Entry.key).Nodup →
               let ordinal := min 255 (e.committed + 1)
               j.key = some found ∧ j.corr = .committed ∧ j.ordinal = some ordinal ∧
                 y.table = { x.table with
                   entries := x.table.entries.eraseP (fun a => a.key = found) ++ [{ e with committed := max e.committed ordinal }] } ∧
                 y.tracker = { x.tracker with matches_ := x.tracker.matches_ + 1 } ∧ y.link = x.link ∧ y.claims = x.claims)))) ∧
      y.measurement.bufferB = (x.measurement.freeBuffer ref).bufferB ∧ y.measurement.tare = x.measurement.tare ∧
      match x.measurement.calibration with
      | .chosen g r =>
        if r = ref then
          let f := (g * 1024 + w.2 / 2) / w.2
          y.measurement.calibration = .none ∧
          if unsteady = false ∧ 0 < w.2 ∧ 1 ≤ f ∧ f ≤ 65535 then
            y.measurement.factor = f.toNat ∧ y.flag .calDone = true
          else y.measurement.factor = x.measurement.factor ∧ y.flag .calFailed = true
        else y.measurement.factor = x.measurement.factor ∧ y.measurement.calibration = x.measurement.calibration
      | _ => y.measurement.factor = x.measurement.factor ∧ y.measurement.calibration = x.measurement.calibration

/-- The arithmetic of a weight: M is the mean of the last S filtered values to the nearest count, a tie toward plus infinity;
with Net ≤ 0 the grams are 0 and BELOW TARE is set, otherwise Net × factor / 1024 to the nearest gram, a half going up, at most
65535; and the spread flag says that largest less smallest passes the band. -/
def Obligations.WeightArithmetic : Prop :=
  ∀ (count band : Nat) (c : Computation) (xs : List Int), 0 < count → count ≤ xs.length →
    let ys := (filtered xs).drop (xs.length - count)
    ys.length = count ∧ ∃ (m : Int) (grams : Nat) (spread : Bool),
      2 * count * m ≤ 2 * ys.sum + count ∧ 2 * ys.sum + count < 2 * count * (m + 1) ∧
      computeWeight count band c xs = (.present grams spread (decide (m - c.tare ≤ 0)), m - c.tare) ∧ grams ≤ 65535 ∧
      (m - c.tare ≤ 0 → grams = 0) ∧
      (0 < m - c.tare → (m - c.tare) * c.factor + 512 < 1024 * 65536 →
        1024 * (grams : Int) ≤ (m - c.tare) * c.factor + 512 ∧ (m - c.tare) * c.factor + 512 < 1024 * (grams + 1)) ∧
      (0 < m - c.tare → 1024 * 65536 ≤ (m - c.tare) * c.factor + 512 → grams = 65535) ∧
      (spread = true ↔ ∃ a ∈ ys, ∃ b ∈ ys, (band : Int) < a - b)

/-! ### The Correlation Table (chapter 6) -/

/-- Claim order, its four cases and no other; and of two claims that differ in station id or item ref exactly one is before the
other. -/
def Obligations.ClaimOrder : Prop :=
  ∀ a b : Claim,
    (a.before b = true ↔
      let d := (b.tally.toNat + 16777216 - a.tally.toNat) % 16777216
      (1 ≤ d ∧ d ≤ 8388607) ∨ (a.tally = b.tally ∧ a.station < b.station) ∨ (d = 8388608 ∧ a.station < b.station) ∨
      (a.station = b.station ∧ (a.tally = b.tally ∨ d = 8388608) ∧ a.ref.toNat < b.ref.toNat)) ∧
    ((a.station, a.ref) ≠ (b.station, b.ref) → (a.before b = true ↔ ¬ b.before a = true))

/-- A list of at most 6 claims with a newcomer: it holds at most 6, every own claim of it is still there, and so is an own
newcomer unless the list is full of own claims; nothing else has come in. A claim is dropped exactly at a full list, and it is
no own one: where one non-own claim of the seven has every other before it, that one, the list being unchanged if it is the newcomer.
The list is in claim order wherever the claims in it have one, and so is what a removal leaves of it. Where they have none, a
removal leaves them as they stand (the model's choice, as the free values of a cycle are: notes/assumptions/3.md), and where
claim order gives the newcomer a place among the claims kept as they stand, it goes behind those before it and ahead of those
after it. A record joins the own committed list at its newest end; one of the same item ref goes first, else the oldest of four. -/
def Obligations.ListsOfAnEntry : Prop :=
  let ordered (m : List Claim) : Prop := m.Pairwise (fun a b => a.before b = true)
  (∀ (c : Claim) (l : List Claim), l.length ≤ 6 →
     let r := insertLimited c l
     r.1.length ≤ 6 ∧ (∀ a ∈ r.1, a = c ∨ a ∈ l) ∧ (∀ a ∈ l, a.own = true → a ∈ r.1) ∧
     (c.own = true → (∃ a ∈ l, a.own = false) ∨ l.length < 6 → c ∈ r.1) ∧
     (l.length < 6 → r.2 = false ∧ r.1.Perm (c :: l)) ∧
     (l.length = 6 → (∃ a ∈ c :: l, a.own = false) →
       r.2 = true ∧ ∃ dropped, dropped.own = false ∧ (dropped :: r.1).Perm (c :: l)) ∧
     (l.length < 6 → ∀ m, m.Perm (c :: l) → ordered m → r = (m, false)) ∧
     (l.length < 6 → (∀ m, m.Perm (c :: l) → ¬ ordered m) → ∀ front back, l = front ++ back →
       (∀ a ∈ front, a.before c = true ∧ c.before a = false) → (∀ a ∈ back, c.before a = true ∧ a.before c = false) →
       r = (front ++ c :: back, false)) ∧
     (l.length = 6 → ∀ latest ∈ c :: l, latest.own = false →
       (∀ a ∈ c :: l, a.own = false → a = latest ∨ a.before latest = true) →
       (latest = c → r = (l, true)) ∧
       (latest ≠ c → r.2 = true ∧ r.1.Perm (c :: l.erase latest) ∧
         ∀ m, m.Perm (c :: l.erase latest) → ordered m → r = (m, true)))) ∧
  (∀ (e : Entry) (p : Claim → Bool),
     let left := e.pending.filter (fun c => !p c)
     let e' := e.removeClaims p
     e' = { e with pending := e'.pending, overfull := e.overfull && !left.isEmpty } ∧ e'.pending.Perm left ∧
     (∀ m, m.Perm left → ordered m → e'.pending = m) ∧ ((∀ m, m.Perm left → ¬ ordered m) → e'.pending = left)) ∧
  (∀ (e : Entry) (r : CommitRecord), e.ownCommitted.length ≤ 4 → (e.ownCommitted.map CommitRecord.ref).Nodup →
     (e.addRecord r).ownCommitted.length ≤ 4 ∧ ((e.addRecord r).ownCommitted.map CommitRecord.ref).Nodup ∧
     (e.addRecord r).ownCommitted.getLast? = some r ∧
     ((∃ a ∈ e.ownCommitted, a.ref = r.ref) →
       (e.addRecord r).ownCommitted = e.ownCommitted.filter (fun a => a.ref ≠ r.ref) ++ [r]) ∧
     ((∀ a ∈ e.ownCommitted, a.ref ≠ r.ref) → (e.addRecord r).ownCommitted =
       (if e.ownCommitted.length = 4 then e.ownCommitted.drop 1 else e.ownCommitted) ++ [r]))

/-- A creation in a full table evicts the least recently touched entry that is not pinned, its roster reference with it, and
counts it; with every entry pinned it fails, TABLE FULL set and a refusal counted, and no entry is changed. -/
def Obligations.CreationInAFullTable : Prop :=
  ∀ (x : Station) (e : Entry), x.table.entries.length = 4096 → (x.table.entries.map Entry.key).Nodup →
    (∀ front old back, x.table.entries = front ++ old :: back → (∀ a ∈ front, x.pinned a = true) → x.pinned old = false →
      x.createEntry e = ({ x with
        table := { x.table with
          entries := front ++ back ++ [e], counts := { x.table.counts with evictions := x.table.counts.evictions + 1 } }
        tracker := { x.tracker with
          context := x.tracker.context.map (fun c => { c with roster := c.roster.filter (fun k => k ≠ old.key) }) } }, true)) ∧
    ((∀ a ∈ x.table.entries, x.pinned a = true) →
      x.createEntry e = ({ x with
        table := { x.table with counts := { x.table.counts with fullRefusals := x.table.counts.fullRefusals + 1 } }
        records := { x.records with flags := x.records.flags ||| 1024#13 } }, false))

/-- Except at power-on the tally never moves backwards in serial order: whatever command runs, it is as it was or at most 2^23 −
1 further on. While an entry stays in the table its committed count never decreases, and KNOWN is not left. A heard frame with
key k, and an expiry in the entry of k, leave the entry of every other key as it was, or evict it from a full table. -/
def Obligations.CountsNeverGoBack : Prop :=
  (∀ (c : Instr) (s t : State), exec c s = .next t → c ≠ .powerOn →
     dist s.station.claims.tally t.station.claims.tally ≤ 8388607) ∧
  (∀ (c : Instr) (s t : State) (k : Key) (e e' : Entry), exec c s = .next t → s.station.Bounded →
     s.station.entry k = some e → t.station.entry k = some e' →
     e.committed ≤ e'.committed ∧ (e.holdings = .known → e'.holdings = .known)) ∧
  (∀ (c : Instr) (s t : State) (k other : Key) (e : Entry), other ≠ k → s.station.Bounded →
     ((c = .heardClaim ∨ c = .heardCommit ∨ c = .heardWithdraw ∨ c = .heardHoldings) ∧
         (∃ f rest, s.station.link.rxQueue = f :: rest ∧ heardKey f.payload 0 = some k) ∨
       ∃ station ref, c = .claimExpiry k station ref) →
     exec c s = .next t → s.station.entry other = some e →
     t.station.entry other = some e ∨ (s.station.table.entries.length = 4096 ∧ t.station.entry other = none))

/-- HEARD_CLAIM from a station with a usable key, merged into the entry that holds the key, or into a new one: the claim is
inserted unless the list holds it, holdings asked for and UNKNOWN become REQUESTED, C takes the larger count, the entry is
touched, T adopted, and the merge counted. With no own claim in the entry, that is all; where the merge changes the list, C or the
holdings state, or drops a claim, the entry's own claims are tested on the report, and a drop marks their items unconfirmed. -/
def Obligations.HeardClaim : Prop :=
  ∀ (x : Station) (q : List Instr) (f : RxFrame) (rest : List RxFrame) (k : Key),
    x.startup.state ≠ .configLoad → x.link.rxQueue = f :: rest → f.kind = 0x11 → f.payload.length = 14 →
    1 ≤ f.source.toNat → f.source.toNat ≤ 31 → heardKey f.payload 0 = some k →
    (x.entry k).isSome ∨ x.table.entries.length < 4096 → (x.table.entries.map Entry.key).Nodup →
    let tally := tallyField f.payload 7
    let ref := refField f.payload 10
    let wanted := payloadField f.payload 13 1 % 2 = 1
    let e := (x.entry k).getD (newEntry k 0 (if x.cfg.gatewayPresent then .unknown else .known))
    let known := e.pending.any (fun c => decide (c.station = f.source.toNat ∧ c.ref = ref))
    let inserted := insertLimited ⟨f.source.toNat, tally, ref, some x.clock, false⟩ e.pending
    let merged : Entry := { e with
      committed := max e.committed (payloadField f.payload 12 1)
      holdings := if wanted ∧ e.holdings = .unknown then .requested x.clock false else e.holdings
      pending := if known then e.pending else inserted.1
      overfull := if known then e.overfull else e.overfull || inserted.2 }
    let counts := { x.table.counts with
      merges := x.table.counts.merges + 1
      droppedClaims := if !known && inserted.2 then x.table.counts.droppedClaims + 1 else x.table.counts.droppedClaims }
    ∃ y e', exec .heardClaim ⟨x, q⟩ = .next ⟨y, q⟩ ∧ y.link.rxQueue = rest ∧ y.table.counts = counts ∧
      y.claims.tally = laterTally x.claims.tally tally ∧ y.entry k = some e' ∧
      y.table.entries.getLast? = some e' ∧ merged.committed ≤ e'.committed ∧ e'.holdings = merged.holdings ∧
      (∀ c ∈ e'.pending, c ∈ merged.pending) ∧ (∀ c ∈ merged.pending, c.own = false → c ∈ e'.pending) ∧
      (merged.pending ≠ e.pending ∨ merged.committed ≠ e.committed ∨ merged.holdings ≠ e.holdings ∨ known = false ∧ inserted.2 = true →
        x.Retests y k merged (!known && inserted.2) ∧ x.RetestSends y k merged 0) ∧
      (e.holdsOwn = false → y = { x with
        link := { x.link with rxQueue := rest }
        claims := { x.claims with tally := laterTally x.claims.tally tally }
        table := { x.table with
          entries := x.table.entries.eraseP (fun a => a.key = k) ++ [merged], counts := counts } })

/-- HEARD_COMMIT from a station with a usable key and an ordinal 1..255: the claim it closes leaves the list, C takes the
larger, the entry is touched or created, T adopted and the merge counted, whatever the clash test then finds. The clash test of
a heard COMMIT: each own committed record of its ordinal, but for one of the same station id and item ref, whose own claim is
after the heard one in claim order gives a CORRECTION with reason CLASH, in the order of the list (the model's choice,
notes/assumptions/26.md), and CLASH SEEN is set; a station in LISTEN-ONLY sets the flag and builds no record. Where the merge
changes the list or C, the entry's own claims are tested on the report; a COMMIT joins the queue where there is room for the CORRECTIONs too. -/
def Obligations.HeardCommit : Prop :=
  (∀ (x : Station) (q : List Instr) (f : RxFrame) (rest : List RxFrame) (k : Key),
     x.startup.state ≠ .configLoad → x.link.rxQueue = f :: rest → f.kind = 0x12 → f.payload.length = 13 →
     1 ≤ f.source.toNat → f.source.toNat ≤ 31 → heardKey f.payload 0 = some k → payloadField f.payload 12 1 ≠ 0 →
     (x.entry k).isSome ∨ x.table.entries.length < 4096 → (x.table.entries.map Entry.key).Nodup →
     let ordinal := payloadField f.payload 12 1
     let tally := tallyField f.payload 7
     let mine (c : Claim) : Prop := c.station = f.source.toNat ∧ c.ref = refField f.payload 10 ∧ c.own = false
     ∃ y e', exec .heardCommit ⟨x, q⟩ = .next ⟨y, q⟩ ∧ y.entry k = some e' ∧ y.link.rxQueue = rest ∧
       y.table.counts = { x.table.counts with merges := x.table.counts.merges + 1 } ∧
       y.claims.tally = laterTally x.claims.tally tally ∧
       (∀ c ∈ e'.pending, ¬ mine c) ∧
       match x.entry k with
       | none => e' = newEntry k ordinal (if x.cfg.gatewayPresent then .unknown else .known) ∧
           y.table.entries = x.table.entries ++ [e']
       | some e =>
           let left := e.pending.filter (fun c => !decide (c.station = f.source.toNat ∧ c.ref = refField f.payload 10 ∧ c.own = false))
           let m : Entry := { e with
             committed := max e.committed ordinal, pending := inClaimOrder left, overfull := e.overfull && !left.isEmpty }
           max e.committed ordinal ≤ e'.committed ∧ e'.holdings = e.holdings ∧
           (m.pending ≠ e.pending ∨ m.committed ≠ e.committed →
             x.Retests y k m false ∧ x.RetestSends y k m e.ownCommitted.length) ∧
           (e.holdsOwn = false → e'.committed = max e.committed ordinal ∧ e'.ownCommitted = e.ownCommitted ∧
             e'.pending = inClaimOrder
               (e.pending.filter (fun c => !decide (c.station = f.source.toNat ∧ c.ref = refField f.payload 10))) ∧
             y.table.entries = x.table.entries.eraseP (fun a => a.key = k) ++ [e'])) ∧
  (∀ (x : Station) (q : List Instr) (f : RxFrame) (rest : List RxFrame) (k : Key) (e : Entry),
     x.startup.state ≠ .configLoad → x.link.rxQueue = f :: rest → f.kind = 0x12 → f.payload.length = 13 →
     1 ≤ f.source.toNat → f.source.toNat ≤ 31 → heardKey f.payload 0 = some k → payloadField f.payload 12 1 ≠ 0 →
     (x.table.entries.map Entry.key).Nodup →
     x.entry k = some e → e.holdsOwn = false → x.link.txQueue.length + e.ownCommitted.length ≤ 16 →
     let ordinal := payloadField f.payload 12 1
     let clashes := e.ownCommitted.filter (fun r =>
       decide (r.ordinal = ordinal) && !decide (x.ownId = f.source.toNat ∧ r.ref = refField f.payload 10) &&
         claimBefore (tallyField f.payload 7) f.source.toNat (refField f.payload 10) r.tally x.ownId r.ref)
     ∃ y, exec .heardCommit ⟨x, q⟩ = .next ⟨y, q⟩ ∧
       y.claims.counts = { x.claims.counts with
         corrections := x.claims.counts.corrections + BitVec.ofNat 16 clashes.length } ∧
       y.records.flags = (if clashes = [] then x.records.flags else x.records.flags ||| 4096#13) ∧
       y.link.txQueue = x.link.txQueue ++ (if x.startup.state = .listenOnly then [] else
         clashes.map (fun r => ⟨.correction ⟨r.ref, k, ordinal, .clash, some f.source.toNat⟩, 0, .ready, false⟩)))

/-- HEARD_WITHDRAW from a station with a usable key: with no entry of the key nothing but T changes; otherwise the claim it
names is gone and every other heard claim stays, the holdings state stays, the entry is touched and the merge counted. With no own
claim in the entry that is all, C included; where the list changes, the own claims are tested on the report, so that one whose item
is WAITING may commit, and so leave and raise C, and every other own claim stays. -/
def Obligations.HeardWithdraw : Prop :=
  ∀ (x : Station) (q : List Instr) (f : RxFrame) (rest : List RxFrame) (k : Key),
    x.startup.state ≠ .configLoad → x.link.rxQueue = f :: rest → f.kind = 0x13 → f.payload.length = 12 →
    1 ≤ f.source.toNat → f.source.toNat ≤ 31 → heardKey f.payload 0 = some k →
    (x.table.entries.map Entry.key).Nodup →
    let tally := tallyField f.payload 7
    let adopted : ClaimEngine := { x.claims with tally := laterTally x.claims.tally tally }
    let mine (c : Claim) : Bool := decide (c.station = f.source.toNat ∧ c.ref = refField f.payload 10 ∧ c.own = false)
    ∃ y, exec .heardWithdraw ⟨x, q⟩ = .next ⟨y, q⟩ ∧ y.claims.tally = adopted.tally ∧
      match x.entry k with
      | none => y = { x with link := { x.link with rxQueue := rest }, claims := adopted }
      | some e =>
        y.table.counts = { x.table.counts with merges := x.table.counts.merges + 1 } ∧
        ∃ e', y.entry k = some e' ∧ y.table.entries.getLast? = some e' ∧ e.committed ≤ e'.committed ∧
          e'.holdings = e.holdings ∧ (∀ c ∈ e'.pending, c ∈ e.pending ∧ mine c = false) ∧
          (∀ c ∈ e.pending, c.own = false → mine c = false → c ∈ e'.pending) ∧
          (∀ c ∈ e.pending, c.own = true → c ∈ e'.pending ∨ x.isWaiting c.ref = true) ∧
          (let left := e.pending.filter (fun c => !mine c)
           let m : Entry := { e with pending := inClaimOrder left, overfull := e.overfull && !left.isEmpty }
           m.pending ≠ e.pending → x.Retests y k m false ∧ x.RetestSends y k m 0) ∧
          (e.holdsOwn = false → y = { x with
            link := { x.link with rxQueue := rest }
            claims := adopted
            table := { x.table with
              entries := x.table.entries.eraseP (fun a => a.key = k) ++ [{ e with
                pending := inClaimOrder (e.pending.filter (fun c => !mine c))
                overfull := e.overfull && !(e.pending.filter (fun c => !mine c)).isEmpty }]
              counts := { x.table.counts with merges := x.table.counts.merges + 1 } } })

/-- HEARD_HOLDINGS from the gateway with a usable key: the entry is KNOWN with at least the count, touched or created, and the
merge counted; of a claim of the station's own, the one own committed record with the answered tally, if its ordinal is within the
count, gives a CORRECTION with reason HOLDINGS, counted, and in LISTEN-ONLY no record of it; a larger ordinal, no such record, and
an answer to another station give none. Where the merge changes C or the holdings state, the entry's own claims are tested on the
report; a COMMIT joins the queue where there is room for a CORRECTION too. -/
def Obligations.HeardHoldings : Prop :=
  ∀ (x : Station) (q : List Instr) (f : RxFrame) (rest : List RxFrame) (k : Key),
    x.startup.state ≠ .configLoad → x.link.rxQueue = f :: rest → f.kind = 0x21 → f.payload.length = 12 → f.source = 0 →
    heardKey f.payload 0 = some k → (x.entry k).isSome ∨ x.table.entries.length < 4096 →
    (x.table.entries.map Entry.key).Nodup →
    let count := payloadField f.payload 7 1
    let tally := tallyField f.payload 9
    ∃ y e', exec .heardHoldings ⟨x, q⟩ = .next ⟨y, q⟩ ∧ y.link.rxQueue = rest ∧
      y.table.counts = { x.table.counts with merges := x.table.counts.merges + 1 } ∧
      y.claims.tally = laterTally x.claims.tally tally ∧
      y.entry k = some e' ∧ e'.holdings = .known ∧
      match x.entry k with
      | none => e' = newEntry k count .known ∧ y.table.entries = x.table.entries ++ [e']
      | some e => max e.committed count ≤ e'.committed ∧
          (let m : Entry := { e with committed := max e.committed count, holdings := .known }
           m.committed ≠ e.committed ∨ m.holdings ≠ e.holdings → x.Retests y k m false ∧ x.RetestSends y k m 1) ∧
          (e.holdsOwn = false → e' = { e with committed := max e.committed count, holdings := .known } ∧
            y.table.entries = x.table.entries.eraseP (fun a => a.key = k) ++ [e'] ∧
            (∀ r, e.ownCommitted.filter (fun r => r.tally = tally) = [r] → r.ordinal ≤ count →
              x.startup.stationId = some (payloadField f.payload 8 1) → x.link.txQueue.length < 16 →
              y.link.txQueue = x.link.txQueue ++ (if x.startup.state = .listenOnly then [] else
                [⟨.correction ⟨r.ref, k, r.ordinal, .holdings, none⟩, 0, .ready, false⟩]) ∧
              y.claims.counts = { x.claims.counts with corrections := x.claims.counts.corrections + 1 }) ∧
            ((∀ r ∈ e.ownCommitted, r.tally = tally → count < r.ordinal) ∨
                x.startup.stationId ≠ some (payloadField f.payload 8 1) →
              y.link.txQueue = x.link.txQueue ∧ y.claims.counts = x.claims.counts ∧ y.records = x.records))

/-- CLAIM_EXPIRY: the heard claim whose age is the claim lifetime now leaves the list, and the expiry is counted; C and the
holdings state stay as they are unless an own claim of the entry commits on the report, on which every own claim is tested; with
no own claim in the entry that is all, and the entry keeps its place in the touch order. REQUESTED_LAPSE: a REQUESTED state that has reached the claim lifetime
lapses to UNKNOWN, with no touch and no count, once no own claim stands in the list; while one stands, it stays. -/
def Obligations.ExpiryAndLapse : Prop :=
  (∀ (x : Station) (q : List Instr) (k : Key) (station : Nat) (ref : ItemRef) (e : Entry),
     let expired (c : Claim) : Bool := decide (c.station = station ∧ c.ref = ref ∧ c.own = false) &&
       c.heard.any (fun h => decide ((x.clock - h).toNat = x.cfg.claimLifetime))
     x.entry k = some e → (∃ c ∈ e.pending, expired c = true) → (x.table.entries.map Entry.key).Nodup →
     ∃ y e', exec (.claimExpiry k station ref) ⟨x, q⟩ = .next ⟨y, q⟩ ∧ y.entry k = some e' ∧
       y.table.counts = { x.table.counts with expiries := x.table.counts.expiries + 1 } ∧
       (∀ c ∈ e'.pending, expired c = false) ∧ e.committed ≤ e'.committed ∧ e'.holdings = e.holdings ∧
       (let left := e.pending.filter (fun c => !expired c)
        let m : Entry := { e with pending := inClaimOrder left, overfull := e.overfull && !left.isEmpty }
        x.Retests y k m false ∧ x.RetestSends y k m 0) ∧
       ((∀ c ∈ e.pending, c.own = false) → y = { x with table := { x.table with
         entries := x.table.entries.map (fun a => if a.key = k then
           let l := inClaimOrder (a.pending.filter (fun c => !expired c))
           { a with pending := l, overfull := a.overfull && !l.isEmpty } else a)
         counts := { x.table.counts with expiries := x.table.counts.expiries + 1 } } })) ∧
  (∀ (x : Station) (q : List Instr) (k : Key) (e : Entry) (since : Millis),
     x.entry k = some e → e.holdings = .requested since true →
     ((∃ c ∈ e.pending, c.own = true) → exec (.requestedLapse k) ⟨x, q⟩ = .next ⟨x, q⟩) ∧
     ((∀ c ∈ e.pending, c.own = false) →
       exec (.requestedLapse k) ⟨x, q⟩ = .next ⟨{ x with table := { x.table with
         entries := x.table.entries.map (fun a => if a.key = k then { a with holdings := .unknown } else a) } }, q⟩))

/-! ### Claims and ordinals (chapter 7) -/

/-- SETTLE_EXPIRY at the item's deadline: with no pending claim before its own and holdings not REQUESTED the item commits
min(255, C + 1): its claim leaves the list, C is at least the ordinal, a record of item ref, ordinal and claim tally joins the own
committed list, UNCONFIRMED is set if it is marked, the commit is counted, and its COMMIT joins a queue with room, or is lost at a
full one, TX ABANDON set and an abandon counted, the commit standing; the other own claims of the entry are then tested in their
turn. Otherwise the item is WAITING. -/
def Obligations.SettleExpiry : Prop :=
  ∀ (x : Station) (q : List Instr) (ref : ItemRef) (i : Item) (k : Key) (e : Entry) (c : Claim),
    x.findItem ref = some i → i.corr = .settling x.clock → i.key = some k → x.entry k = some e →
    e.pending.find? (fun c => c.own && decide (c.ref = ref)) = some c → (x.table.entries.map Entry.key).Nodup →
    let ordinal := min 255 (e.committed + 1)
    (e.LetsCommit c →
      ∃ y j e', exec (.settleExpiry ref) ⟨x, q⟩ = .next ⟨y, q⟩ ∧ y.findItem ref = some j ∧ j.corr = .committed ∧
        j.ordinal = some ordinal ∧ j.ranked = i.ranked ∧
        j.unconfirmed = (i.unconfirmed || i.unconfirmedMark) ∧ y.entry k = some e' ∧
        ordinal ≤ e'.committed ∧ (∀ a ∈ e'.pending, ¬ (a.own = true ∧ a.ref = ref)) ∧ y.TestedOut k ∧
        (x.link.txQueue.length < 16 →
          ⟨.commit k c.tally ref ordinal, 0, .ready, false⟩ ∈ y.link.txQueue) ∧
        (16 ≤ x.link.txQueue.length → y.flag .txAbandon = true ∧ y.link.txQueue = x.link.txQueue)) ∧
    (e.LetsCommit c → x.NoOtherWaits e ref →
      let y : Station := { x with
        table := { x.table with
          entries := x.table.entries.eraseP (fun a => a.key = k) ++ [e.afterCommit c ordinal] }
        lane := { x.lane with queue := x.lane.queue.map (fun a => if a.ref = ref then
          { a with corr := .committed, ordinal := some ordinal, unconfirmed := a.unconfirmed || a.unconfirmedMark } else a) }
        claims := { x.claims with counts := { x.claims.counts with commits := x.claims.counts.commits + 1 } } }
      exec (.settleExpiry ref) ⟨x, q⟩ = .next ⟨
        if x.link.txQueue.length < 16 then { y with
          link := { x.link with txQueue := x.link.txQueue ++ [⟨.commit k c.tally ref ordinal, 0, .ready, false⟩] } }
        else { y with
          link := { x.link with counts := { x.link.counts with abandons := x.link.counts.abandons + 1 } }
          records := { x.records with flags := x.records.flags ||| 512#13 } }, q⟩) ∧
    (¬ e.LetsCommit c →
      exec (.settleExpiry ref) ⟨x, q⟩ = .next ⟨{ x with lane := { x.lane with
        queue := x.lane.queue.map (fun i => if i.ref = ref then { i with corr := .waiting } else i) } }, q⟩)

/-! ### The dock link (chapter 8) -/

/-- The line's events out of CONFIG LOAD: a dominant bit makes the line busy; 12 recessive bit times make it idle and end a
chain the station held; a lead found makes the receiver take a frame; a line error in it is counted (the model's reading of the
line, notes/assumptions/12.md). In CONFIG LOAD none has an effect. COLLISION while a frame is sent: the jam starts, the
collision is counted and the chain ends. BACKOFF_EXPIRY: the frame at the place (notes/assumptions/14.md), in BACKOFF, becomes
READY. -/
def Obligations.LineEvents : Prop :=
  (∀ (x : Station) (q : List Instr),
     (x.startup.state = .configLoad → ∀ c ∈ [Instr.lineIdle, .lineLeavesIdle, .leadFound, .rxLineError],
       exec c ⟨x, q⟩ = .next ⟨x, q⟩) ∧
     (x.startup.state ≠ .configLoad →
       exec .lineLeavesIdle ⟨x, q⟩ = .next ⟨{ x with link := { x.link with lineIdle := false } }, q⟩ ∧
       (x.link.sending = .quiet →
         exec .lineIdle ⟨x, q⟩ = .next ⟨{ x with link := { x.link with
           lineIdle := true, holding := false, chain := if x.link.holding then 0 else x.link.chain } }, q⟩ ∧
         exec .leadFound ⟨x, q⟩ = .next ⟨{ x with link := { x.link with lineIdle := false, reception := .taking } }, q⟩ ∧
         (x.link.reception = .taking →
           exec .rxLineError ⟨x, q⟩ = .next ⟨{ x with link := { x.link with
             reception := .seeking
             counts := { x.link.counts with checkFailures := x.link.counts.checkFailures + 1 } } }, q⟩)))) ∧
  (∀ (x : Station) (q : List Instr) (bits : List Bool), x.link.sending = .frame bits →
     exec .collision ⟨x, q⟩ = .next ⟨{ x with link := { x.link with
       sending := .jam, holding := false, chain := 0
       counts := { x.link.counts with collisions := x.link.counts.collisions + 1 } } }, q⟩) ∧
  (∀ (x : Station) (q : List Instr) (place : Nat) (f : TxFrame) (slots : Nat),
     x.link.txQueue[place]? = some f → f.standing = .backoff slots →
     exec (.backoffExpiry place) ⟨x, q⟩ = .next ⟨{ x with link := { x.link with
       txQueue := x.link.txQueue.set place { f with standing := .ready } } }, q⟩)

/-- The frame selected for an attempt is READY and past the record fence; no frame of a higher class is eligible, and no older
one of its own; and where none is selected none is eligible. -/
def Obligations.Selection : Prop :=
  ∀ queue : List TxFrame,
    let rank : FrameClass → Nat := fun c => match c with
      | .claim => 0
      | .notice => 1
      | .record => 2
    let fence (b : Body) : Prop := ∃ g ∈ queue, ∃ ref,
      ((∃ k t o, g.body = .commit k t ref o) ∨ (∃ k t, g.body = .withdraw k t ref)) ∧
      ((∃ d, b = .deposit d ∧ d.ref = ref) ∨ (∃ c, b = .correction c ∧ c.ref = ref))
    let free (f : TxFrame) : Prop := f.standing = .ready ∧ ¬ fence f.body
    (selectFrame queue = none → ∀ f ∈ queue, ¬ free f) ∧
    (∀ n, selectFrame queue = some n → ∃ f, queue[n]? = some f ∧ free f ∧
      ∀ (m : Nat) (g : TxFrame), queue[m]? = some g → free g →
        rank f.body.cls < rank g.body.cls ∨ rank f.body.cls = rank g.body.cls ∧ n ≤ m)

/-- ATTEMPT_BEGIN with the gate open and the line idle, and CHAIN_CONTINUATION while the line is held: the selected frame goes
ON LINE and its coded bits on the line; a STATUS at its first attempt is sampled then, its clear mask applied and its pending
mark gone. With no eligible frame no attempt begins, and a chain is released. -/
def Obligations.AttemptsBegin : Prop :=
  ∀ (x : Station) (q : List Instr), x.link.gateOpen = true → x.startup.state = .joining ∨ x.startup.state = .active →
    let sent (place chain : Nat) (f : TxFrame) (body : Body) (records : Records) : Station := { x with
      link := { x.link with
        txQueue := x.link.txQueue.set place { f with body := body, standing := .onLine }
        sending := .frame (body.lineBits x.ownId), holding := false, chain := chain, lineIdle := false
        reception := .seeking }
      records := records }
    let begun (place chain : Nat) (f : TxFrame) : Station := match f.body with
      | .status g none => sent place chain f (.status g (some (x.sample g))) { x.records with
          flags := x.records.flags &&& ~~~((x.records.pending.get g).getD 0), pending := x.records.pending.set g none }
      | b => sent place chain f b x.records
    (∀ place f, selectFrame x.link.txQueue = some place → x.link.txQueue[place]? = some f →
      (x.link.lineIdle = true → x.link.holding = false → x.link.sending = .quiet → x.framesOnLine = [] →
        exec .attemptBegin ⟨x, q⟩ = .next ⟨begun place 0 f, q⟩) ∧
      (x.link.holding = true → exec .chainContinuation ⟨x, q⟩ = .next ⟨begun place x.link.chain f, q⟩)) ∧
    (selectFrame x.link.txQueue = none → exec .attemptBegin ⟨x, q⟩ = .next ⟨x, q⟩) ∧
    (selectFrame x.link.txQueue = none → x.link.holding = true →
      exec .chainContinuation ⟨x, q⟩ = .next ⟨{ x with link := { x.link with holding := false, chain := 0 } }, q⟩)

/-- JAM_END below the retry limit, or for a record at any count: the attempt count rises by one, a record's not past 15, and the
frame draws a backoff of 1 + (g mod 2^min(k, 4)) slots from the generator's next value g. JAM_END at the retry limit: a CLAIM is
abandoned with its item REJECTED CLAIM ABANDONED and its own claim gone, a COMMIT or WITHDRAW with TX ABANDON set and nothing
else; each abandon is counted (a CLAIM's, where the queue has room for the COMMITs its removal may set off, is the only one). A frame
taken back leaves uncounted. -/
def Obligations.JamEnd : Prop :=
  (∀ (x : Station) (q : List Instr) (front back : List TxFrame) (f : TxFrame),
     x.link.sending = .jam → x.link.txQueue = front ++ f :: back → f.standing = .onLine → f.takenBack = false →
     (∀ a ∈ front ++ back, a.standing ≠ .onLine) → f.body.cls = .record ∨ f.attempts ≠ x.cfg.retryLimit →
     let g : BitVec 16 := if x.link.generator.getLsbD 0 then (x.link.generator >>> 1) ^^^ 0xB400#16 else x.link.generator >>> 1
     let k := if f.body.cls = .record then min 15 (f.attempts + 1) else f.attempts + 1
     exec .jamEnd ⟨x, q⟩ = .next ⟨{ x with link := { x.link with
       sending := .quiet, reception := .seeking, generator := g
       txQueue := front ++ { f with attempts := k, standing := .backoff (1 + g.toNat % 2 ^ min k 4) } :: back } }, q⟩) ∧
  (∀ (x : Station) (q : List Instr) (front back : List TxFrame) (f : TxFrame),
     x.link.sending = .jam → x.link.txQueue = front ++ f :: back → f.standing = .onLine →
     (∀ a ∈ front ++ back, a.standing ≠ .onLine) → x.records.overflow = none → x.startup.announce ≠ .waiting →
     let left (abandons : Count) (flags : BitVec 13) : Station := { x with
       link := { x.link with
         sending := .quiet, reception := .seeking, txQueue := front ++ back
         counts := { x.link.counts with abandons := x.link.counts.abandons + abandons } }
       records := { x.records with flags := x.records.flags ||| flags } }
     (f.takenBack = true → exec .jamEnd ⟨x, q⟩ = .next ⟨left 0 0, q⟩) ∧
     (f.takenBack = false → f.attempts = x.cfg.retryLimit →
       (f.body.cls = .notice → (∀ t v, f.body ≠ .announce t v) → exec .jamEnd ⟨x, q⟩ = .next ⟨left 1 512#13, q⟩) ∧
       (∀ t v, f.body = .announce t v → (front ++ back).length < 16 →
         exec .jamEnd ⟨x, q⟩ = .next ⟨{ left 1 512#13 with
           link := { (left 1 512#13).link with
             txQueue := front ++ back ++ [⟨.announce x.claims.tally x.cfg.version, 0, .ready, false⟩] }
           startup := { x.startup with announce := .queued } }, q⟩) ∧
       (∀ k t ref known wanted i, f.body = .claim k t ref known wanted → x.findItem ref = some i → i.corr = .queued →
         (x.table.entries.map Entry.key).Nodup →
         ∃ y j, exec .jamEnd ⟨x, q⟩ = .next ⟨y, q⟩ ∧ y.findItem ref = some j ∧ j.corr = .rejected .claimAbandoned ∧
           y.link.sending = .quiet ∧ y.link.generator = x.link.generator ∧ f ∉ y.link.txQueue ∧
           ((∀ e, x.entry k = some e → (front ++ back).length + e.pending.length ≤ 16) →
             y.link.counts = { x.link.counts with abandons := x.link.counts.abandons + 1 } ∧
             y.records.flags = x.records.flags) ∧
           ∀ e, y.entry k = some e → ∀ c ∈ e.pending, ¬ (c.own = true ∧ c.ref = ref))))

/-- ATTEMPT_COMPLETE: the frame leaves the queue and is counted as sent; the line is held while the chain is below the hold
budget and released otherwise; a CLAIM's item is SETTLING until the settle time has passed, a CLAIM taken back gives a WITHDRAW,
and the ANNOUNCE of a station in JOINING makes it ACTIVE. A departure from a full queue moves the record of the overflow slot,
whichever it is, into the room, ahead of any other offer, and a DEPOSIT's item, if it is still there, is removed; then the oldest
departed item still waiting is offered, and its DEPOSIT takes the slot in its turn (`Station.SlotMoves`; shown at every completion
but that of a CLAIM whose item then settles, and at every JAM_END that takes a frame taken back or an abandoned notice from the
queue). A DEPOSIT whose item has gone removes none, whatever item has its ref since. -/
def Obligations.AttemptComplete : Prop :=
  (∀ (x : Station) (q : List Instr) (front back : List TxFrame) (f : TxFrame) (bits : List Bool),
     x.link.sending = .frame bits → x.link.txQueue = front ++ f :: back → f.standing = .onLine →
     (∀ a ∈ front ++ back, a.standing ≠ .onLine) → x.records.overflow = none → x.startup.announce ≠ .waiting →
     let hold := x.link.chain + 1 < x.cfg.holdBudget
     let y : Station := { x with link := { x.link with
       sending := .quiet, reception := .seeking, txQueue := front ++ back
       holding := decide hold, chain := if hold then x.link.chain + 1 else 0
       counts := { x.link.counts with sent := x.link.counts.sent + 1 } } }
     exec .attemptComplete ⟨x, q⟩ = .next ⟨
       match f.body with
       | .claim k t ref _ _ =>
         if f.takenBack then
           let z : Station := { y with claims := { y.claims with
             counts := { y.claims.counts with withdrawals := y.claims.counts.withdrawals + 1 } } }
           if (front ++ back).length < 16 then
             { z with link := { z.link with txQueue := front ++ back ++ [⟨.withdraw k t ref, 0, .ready, false⟩] } }
           else { z with
             link := { z.link with counts := { z.link.counts with abandons := z.link.counts.abandons + 1 } }
             records := { z.records with flags := z.records.flags ||| 512#13 } }
         else { y with lane := { y.lane with queue := y.lane.queue.map (fun i =>
           if i.ref = ref ∧ i.corr = .queued then
             { i with
               corr := .settling (x.clock + BitVec.ofNat 32 x.cfg.settleTime)
               unconfirmedMark := i.unconfirmedMark || (match x.entry k with
                 | some e => e.overfull
                 | none => false) }
           else i) } }
       | .announce _ _ => { y with startup := { y.startup with
           announce := .none, state := if x.startup.state = .joining then .active else x.startup.state } }
       | _ => y, q⟩) ∧
  (∀ (x : Station) (q : List Instr) (front back : List TxFrame) (f : TxFrame) (b : Body),
     x.link.txQueue = front ++ f :: back → f.standing = .onLine → (∀ a ∈ front ++ back, a.standing ≠ .onLine) →
     (front ++ back).length = 15 → x.records.overflow = some b →
     (∀ bits, x.link.sending = .frame bits → f.body.cls ≠ .claim ∨ f.takenBack = true →
       ∃ y, exec .attemptComplete ⟨x, q⟩ = .next ⟨y, q⟩ ∧ x.SlotMoves y (front ++ back) b) ∧
     (x.link.sending = .jam → f.takenBack = true ∨ f.body.cls = .notice ∧ f.attempts = x.cfg.retryLimit →
       ∃ y, exec .jamEnd ⟨x, q⟩ = .next ⟨y, q⟩ ∧ x.SlotMoves y (front ++ back) b))

/-- FRAME_RECEIVED while the receiver takes a frame, with the line's bits from the recessive bit times before the lead on: bits that
hold no lead in front are no frame, and the receiver looks for a lead again; bits that end no frame leave the reception open (both the
model's choice, notes/assumptions/10.md); a line error behind the lead or a wrong check is a check failure; a good frame
of another station, and any good frame in LISTEN-ONLY, enters the receive queue, or at 32 frames is dropped with RX OVERFLOW,
the drop counted and every SETTLING or WAITING item marked. -/
def Obligations.FrameReceived : Prop :=
  ∀ (x : Station) (q : List Instr) (bits : List Bool),
    x.startup.state ≠ .configLoad → x.link.sending = .quiet → x.link.reception = .taking →
    (receive bits = .noLead →
      exec (.frameReceived bits) ⟨x, q⟩ = .next ⟨{ x with link := { x.link with reception := .seeking } }, q⟩) ∧
    (receive bits = .unfinished → exec (.frameReceived bits) ⟨x, q⟩ = .next ⟨x, q⟩) ∧
    (receive bits = .lineError ∨ (∃ f, receive bits = .frame f ∧ goodFrame f = false) →
      exec (.frameReceived bits) ⟨x, q⟩ = .next ⟨{ x with link := { x.link with
        reception := .seeking, counts := { x.link.counts with checkFailures := x.link.counts.checkFailures + 1 } } }, q⟩) ∧
    (∀ f, receive bits = .frame f → goodFrame f = true →
      x.startup.stationId ≠ some f.source.toNat ∨ x.startup.state = .listenOnly →
      (x.link.rxQueue.length < 32 → exec (.frameReceived bits) ⟨x, q⟩ = .next ⟨{ x with link := { x.link with
        reception := .seeking, rxQueue := x.link.rxQueue ++ [f] } }, q⟩) ∧
      (32 ≤ x.link.rxQueue.length → exec (.frameReceived bits) ⟨x, q⟩ = .next ⟨{ x with
        link := { x.link with
          reception := .seeking, counts := { x.link.counts with rxDrops := x.link.counts.rxDrops + 1 } }
        records := { x.records with flags := x.records.flags ||| 256#13 }
        lane := { x.lane with queue := x.lane.queue.map (fun i => match i.corr with
          | .settling _ => { i with unconfirmedMark := true }
          | .waiting => { i with unconfirmedMark := true }
          | _ => i) } }, q⟩))

/-- A good frame with the station's own id as its source, heard in JOINING or ACTIVE: LISTEN-ONLY with DUPLICATE ID and the
indicator lit, the timer and the ANNOUNCE gone, the transmit queue flushed and the gate shut, items in flight REJECTED NOT
ACTIVE, no own claim left, slot and pending marks empty, departed items removed; and the frame is queued or dropped like any
other. -/
def Obligations.DuplicateIdSilencesTheStation : Prop :=
  ∀ (x : Station) (q : List Instr) (bits : List Bool) (f : RxFrame),
    x.startup.state = .joining ∨ x.startup.state = .active → x.link.sending = .quiet → x.link.reception = .taking →
    receive bits = .frame f → goodFrame f = true → x.startup.stationId = some f.source.toNat →
    ∃ y, exec (.frameReceived bits) ⟨x, q⟩ = .next ⟨y, q⟩ ∧
      y.startup = { x.startup with state := .listenOnly, joinTimer := none, announce := .none } ∧
      y.faultIndicator = true ∧ y.laneHold = true ∧
      y.link.txQueue = [] ∧ y.link.gateOpen = false ∧
      (x.link.rxQueue.length < 32 → y.link.rxQueue = x.link.rxQueue ++ [f] ∧ y.link.counts = x.link.counts) ∧
      (32 ≤ x.link.rxQueue.length → y.link.rxQueue = x.link.rxQueue ∧ y.flag .rxOverflow = true ∧
        y.link.counts = { x.link.counts with rxDrops := x.link.counts.rxDrops + 1 }) ∧
      y.records.overflow = none ∧ y.records.pending = ⟨none, none, none⟩ ∧
      y.table.entries = x.table.entries.map (Entry.removeClaims (fun c => c.own)) ∧ y.claims = x.claims ∧
      (∀ i ∈ y.lane.queue, i.departed = false ∧ i.corr ≠ .queued ∧ i.corr ≠ .waiting ∧ ∀ d, i.corr ≠ .settling d) ∧
      (∀ i ∈ x.lane.queue, (∀ k ∈ x.lane.queue, k.ref = i.ref → k.departed = false) →
        (i.corr = .unkeyed ∨ i.corr.final → i ∈ y.lane.queue) ∧
        (i.corr = .queued ∨ i.corr = .waiting ∨ (∃ d, i.corr = .settling d) →
          { i with corr := .rejected .notActive } ∈ y.lane.queue))

/-- The gate: an attempt begins only with the gate open, in JOINING or ACTIVE; the gate opens only at the end of the join-quiet
interval in JOINING, and while the station is not put in LISTEN-ONLY or powered on it stays open. With the gate shut, or in
CONFIG LOAD or LISTEN-ONLY, a station that sends nothing goes on sending nothing, and the entry to LISTEN-ONLY flushes the
queue, frames in BACKOFF included. -/
def Obligations.TransmitGate : Prop :=
  ∀ (c : Instr) (s t : State), exec c s = .next t →
    (∀ bits, t.station.link.sending = .frame bits → s.station.link.sending = .frame bits ∨
      (s.station.link.gateOpen = true ∧ (s.station.startup.state = .joining ∨ s.station.startup.state = .active))) ∧
    (s.station.link.gateOpen = false → t.station.link.gateOpen = true →
      c = .joinQuietExpiry ∧ s.station.startup.state = .joining ∧
        ∃ start, s.station.startup.joinTimer = some start ∧
          (s.station.clock - start).toNat = s.station.cfg.joinQuiet) ∧
    (s.station.link.gateOpen = true → t.station.link.gateOpen = false →
      t.station.startup.state = .listenOnly ∨ c = .powerOn) ∧
    ((s.station.link.sending ≠ .quiet → s.station.mayTransmit = true) →
      t.station.link.sending ≠ .quiet → t.station.mayTransmit = true) ∧
    (s.station.startup.state = .joining ∨ s.station.startup.state = .active → t.station.startup.state = .listenOnly →
      t.station.link.txQueue = [])

/-- Deliveries with no other effect: a heard ANNOUNCE is compared with T; a misdirected and a malformed frame are counted; a
frame addressed elsewhere is neither delivered nor counted. Each leaves the front of the receive queue. Unusable frames are
counted and change no entry: a station's frame from source 0, which carries no tally; and one with a key out of range or of
another kind, or a COMMIT of ordinal 0, or a HOLDINGS with such a key, whose tally is adopted all the same. -/
def Obligations.PlainDeliveries : Prop :=
  (∀ (x : Station) (q : List Instr) (f : RxFrame) (rest : List RxFrame),
     x.startup.state ≠ .configLoad → x.link.rxQueue = f :: rest →
     let taken (counts : LinkCounts) : Station := { x with link := { x.link with rxQueue := rest, counts := counts } }
     let known := kindLength f.kind.toNat = some f.payload.length
     let request := f.kind = 0x22 ∨ f.kind = 0x23 ∨ f.kind = 0x24
     (f.kind = 0x14 → f.payload.length = 5 → 1 ≤ f.source.toNat → f.source.toNat ≤ 31 →
       let t := tallyField f.payload 0
       exec .heardAnnounce ⟨x, q⟩ = .next ⟨{ taken x.link.counts with claims := { x.claims with tally := laterTally x.claims.tally t } }, q⟩) ∧
     (known → (f.kind = 0x21 ∧ f.source ≠ 0) ∨ (f.kind = 0x14 ∧ f.source = 0) ∨
         ((f.kind = 0x11 ∨ f.kind = 0x12 ∨ f.kind = 0x13 ∨ f.kind = 0x14) ∧ 32 ≤ f.source.toNat) ∨
         (request ∧ f.source ≠ 0 ∧ x.startup.stationId = some f.dest.toNat) →
       exec .misdirectedFrame ⟨x, q⟩ =
         .next ⟨taken { x.link.counts with misdirected := x.link.counts.misdirected + 1 }, q⟩) ∧
     (¬ known →
       exec .malformedFrame ⟨x, q⟩ = .next ⟨taken { x.link.counts with malformed := x.link.counts.malformed + 1 }, q⟩) ∧
     (known → (f.kind = 0x31 ∨ f.kind = 0x32 ∨ f.kind = 0x33 ∨ f.kind = 0x34) ∨
         (request ∧ x.startup.stationId ≠ some f.dest.toNat) →
       exec .unaddressedFrame ⟨x, q⟩ = .next ⟨taken x.link.counts, q⟩)) ∧
  (∀ (x : Station) (q : List Instr) (f : RxFrame) (rest : List RxFrame),
     x.startup.state ≠ .configLoad → x.link.rxQueue = f :: rest → kindLength f.kind.toNat = some f.payload.length →
     let y (t : Tally) : Station := { x with
       link := { x.link with rxQueue := rest }, claims := { x.claims with tally := t }
       table := { x.table with counts := { x.table.counts with unusable := x.table.counts.unusable + 1 } } }
     let adopted := laterTally x.claims.tally (tallyField f.payload 7)
     let station := 1 ≤ f.source.toNat ∧ f.source.toNat ≤ 31
     let noKey := heardKey f.payload 0 = none
     (f.kind = 0x11 → (f.source = 0 → exec .heardClaim ⟨x, q⟩ = .next ⟨y x.claims.tally, q⟩) ∧
       (station → noKey → exec .heardClaim ⟨x, q⟩ = .next ⟨y adopted, q⟩)) ∧
     (f.kind = 0x12 → (f.source = 0 → exec .heardCommit ⟨x, q⟩ = .next ⟨y x.claims.tally, q⟩) ∧
       (station → noKey ∨ payloadField f.payload 12 1 = 0 → exec .heardCommit ⟨x, q⟩ = .next ⟨y adopted, q⟩)) ∧
     (f.kind = 0x13 → (f.source = 0 → exec .heardWithdraw ⟨x, q⟩ = .next ⟨y x.claims.tally, q⟩) ∧
       (station → noKey → exec .heardWithdraw ⟨x, q⟩ = .next ⟨y adopted, q⟩)) ∧
     (f.kind = 0x21 → f.source = 0 → noKey → exec .heardHoldings ⟨x, q⟩ =
       .next ⟨y (laterTally x.claims.tally (tallyField f.payload 9)), q⟩))

/-! ### Requests (chapters 4 and 9) -/

/-- A delivered STATUS REQUEST: in LISTEN-ONLY nothing; with a STATUS of the group pending its mask joins the mask; otherwise a
STATUS with no contents is built, and its mask is pending if it finds room in the queue or the slot, and lost, counted, if not. A
group above 2 is group 0. A STATUS stays pending until its first attempt begins (or power-on, or the entry to LISTEN-ONLY).
A delivered CALIBRATE: G of 1..65535 makes the record PENDING with G, from NONE or PENDING; G = 0, or a record that has CHOSEN
its item, is ignored with CAL IGNORED. -/
def Obligations.GatewayRequests : Prop :=
  (∀ (c : Instr) (s t : State) (g : StatusGroup) (mask : BitVec 13), exec c s = .next t →
     s.station.records.pending.get g = some mask → t.station.records.pending.get g = none →
     c = .powerOn ∨ t.station.startup.state = .listenOnly ∨
     ((c = .attemptBegin ∨ c = .chainContinuation) ∧ ∃ f ∈ s.station.link.txQueue, f.body = .status g none)) ∧
  (∀ (x : Station) (q : List Instr) (f : RxFrame) (rest : List RxFrame),
     x.startup.state ≠ .configLoad → x.link.rxQueue = f :: rest → f.kind = 0x22 → f.payload.length = 3 → f.source = 0 →
     x.startup.stationId = some f.dest.toNat →
     let g : StatusGroup := match payloadField f.payload 0 1 with
       | 1 => .correlation
       | 2 => .link
       | _ => .sensing
     let mask := BitVec.ofNat 13 (payloadField f.payload 1 2)
     let y : Station := { x with link := { x.link with rxQueue := rest } }
     exec .statusRequest ⟨x, q⟩ = .next ⟨
       if x.startup.state = .listenOnly then y
       else match x.records.pending.get g with
         | some m => { y with records := { x.records with pending := x.records.pending.set g (some (m ||| mask)) } }
         | none =>
           if x.link.txQueue.length < 16 then { y with
             link := { y.link with txQueue := x.link.txQueue ++ [⟨.status g none, 0, .ready, false⟩] }
             records := { x.records with pending := x.records.pending.set g (some mask) } }
           else if x.records.overflow = none then { y with records := { x.records with
             overflow := some (.status g none), pending := x.records.pending.set g (some mask) } }
           else { y with records := { x.records with
             counts := { x.records.counts with lost := x.records.counts.lost + 1 } } }, q⟩) ∧
  (∀ (x : Station) (q : List Instr) (f : RxFrame) (rest : List RxFrame),
     x.startup.state ≠ .configLoad → x.link.rxQueue = f :: rest → f.kind = 0x23 → f.payload.length = 2 → f.source = 0 →
     x.startup.stationId = some f.dest.toNat →
     let grams := payloadField f.payload 0 2
     let y : Station := { x with link := { x.link with rxQueue := rest } }
     let ignored : Station := { y with records := { x.records with flags := x.records.flags ||| 128#13 } }
     exec .calibrate ⟨x, q⟩ = .next ⟨
       match x.measurement.calibration with
       | .chosen _ _ => ignored
       | _ => if grams = 0 then ignored else { y with measurement := { x.measurement with calibration := .pending grams } }, q⟩)

/-- A sticky flag is cleared only at the first attempt of a STATUS, by the masks pending then, and by POWER_ON. -/
def Obligations.StickyFlagsStay : Prop :=
  ∀ (c : Instr) (s t : State) (flag : Flag), exec c s = .next t → s.station.flag flag = true → t.station.flag flag = false →
    c = .powerOn ∨ ((c = .attemptBegin ∨ c = .chainContinuation) ∧
      ∃ f ∈ s.station.link.txQueue, ∃ g mask, f.body = .status g none ∧ s.station.records.pending.get g = some mask ∧
        mask.getLsbD flag.index = true)

/-! ### Formats and line coding (chapters 8 and 11) -/

/-- A CLAIM, COMMIT or WITHDRAW as one station sends it, taken whole by another: its check is good, it is delivered as its kind,
and every field reads back as it was sent. Every payload has the length of its kind. -/
def Obligations.ClaimFramesReadBack : Prop :=
  (∀ (source : Nat) (own : Option Nat) (k : Key) (t : Tally) (ref : ItemRef) (n : Nat) (wanted : Bool),
     1 ≤ source → source ≤ 31 → k.kind ≠ .provisional → Key.inRange k = true → n ≤ 255 →
     let heard (b : Body) : RxFrame :=
       ⟨BitVec.ofNat 8 b.kindCode, BitVec.ofNat 8 source, BitVec.ofNat 8 b.destination, b.payload, frameCheck (b.covered source)⟩
     let claim := heard (.claim k t ref n wanted)
     let commit := heard (.commit k t ref n)
     let withdraw := heard (.withdraw k t ref)
     (goodFrame claim = true ∧ goodFrame commit = true ∧ goodFrame withdraw = true) ∧
     (classify own claim = .claim ∧ classify own commit = .commit ∧ classify own withdraw = .withdraw) ∧
     (∀ f ∈ [claim, commit, withdraw], f.source.toNat = source ∧ heardKey f.payload 0 = some k ∧
       tallyField f.payload 7 = t ∧ refField f.payload 10 = ref) ∧
     payloadField claim.payload 12 1 = n ∧ payloadField commit.payload 12 1 = n ∧
     decide (payloadField claim.payload 13 1 % 2 = 1) = wanted) ∧
  (∀ b : Body, kindLength b.kindCode = some b.payload.length)

/-- Removing stuff bits gives back the bits that were stuffed; no coded stream holds eight equal bits in a row; and the sender's
coding of a frame is the coding of its bytes. The lead goes on the line as its 16 bits, 0x55 and 0x5D, with no stuff bit. A receiver
recognises the lead as those 16 bits after at least 4 recessive bit times, whatever follows them, and nothing else as a lead.
Behind the lead it takes back every field of a coded frame, whatever
follows it on the line, so that what a station sends is what another takes; a payload length above 48 is a line error, and so are eight
equal bits in a row that come before the frame's end. -/
def Obligations.StuffingRoundTrip : Prop :=
  (∀ bits : List Bool, unstuff (stuff bits) = some bits) ∧
  (∀ (bits front back : List Bool) (b : Bool), stuff bits ≠ front ++ List.replicate 8 b ++ back) ∧
  (∀ (source : Nat) (b : Body), unstuff (b.lineBits source) = some ((b.frameBytes source).flatMap byteBits)) ∧
  (∀ (source : Nat) (b : Body), (b.lineBits source).take 16 = [0x55#8, 0x5D#8].flatMap byteBits) ∧
  (∀ line : List Bool, receive line ≠ .noLead ↔ ∃ (n : Nat) (behind : List Bool),
     4 ≤ n ∧ line = List.replicate n true ++ [0x55#8, 0x5D#8].flatMap byteBits ++ behind) ∧
  (∀ (n : Nat) (kind source dest length : Byte) (payload : List Byte) (check : BitVec 16) (behind : List Bool),
     4 ≤ n → payload.length = length.toNat →
     let bytes := [0x55, 0x5D, kind, source, dest, length] ++ payload ++
       [BitVec.ofNat 8 (check.toNat / 256), BitVec.ofNat 8 check.toNat]
     let line := List.replicate n true ++ stuff (bytes.flatMap byteBits) ++ behind
     (length.toNat ≤ 48 → receive line = .frame ⟨kind, source, dest, payload, check⟩) ∧
     (48 < length.toNat → receive line = .lineError)) ∧
  (∀ (n source : Nat) (b : Body) (behind : List Bool), 4 ≤ n →
     receive (List.replicate n true ++ b.lineBits source ++ behind) =
     .frame ⟨BitVec.ofNat 8 b.kindCode, BitVec.ofNat 8 source, BitVec.ofNat 8 b.destination, b.payload,
       frameCheck (b.covered source)⟩) ∧
  (∀ (front behind : List Bool) (b : Bool), receive front = .unfinished →
     (∀ n f, n ≤ 7 → receive (front ++ List.replicate n b) ≠ .frame f) →
     receive (front ++ List.replicate 8 b ++ behind) = .lineError)

/-! ### Invariants of every step -/

/-- Every capacity is kept by every step, and no two table entries ever have equal keys. -/
def Obligations.CapacitiesAreKept : Prop :=
  ∀ s t : State, s.station.Bounded → Machine.step s = .next t → t.station.Bounded

/-- Start-up in order is kept by every step: values inside their limits, an id and a nonzero generator in JOINING and ACTIVE,
the gate shut elsewhere. -/
def Obligations.StartupOrderIsKept : Prop :=
  ∀ s t : State, s.station.Started → Machine.step s = .next t → t.station.Started

/-- One frame is ON LINE exactly while the station sends or jams, a line held is a quiet one, and a diverter with no holder
rests at chute 0: kept by every step. -/
def Obligations.LineAndQueueAgree : Prop :=
  ∀ s t : State, s.station.Coherent → Machine.step s = .next t → t.station.Coherent

/-- In CONFIG LOAD nothing but the encoder, the clock and the restart input's level has reached the station: kept by every step. -/
def Obligations.ConfigLoadIsIdle : Prop :=
  ∀ s t : State, s.station.LoadingIdle → Machine.step s = .next t → t.station.LoadingIdle
end

