-- ==== Sys2Proof/Laws/Frames.lean ====
section
/-! SUPPORT. What each shared operation can touch: one lemma for each, which says the pieces of state outside which the
station is the same. The frame of a command follows from the lemmas of the operations it is made of. -/

namespace Sys2Proof.Machine

/-! ### The relation -/

theorem Changes.refl {bs : List Block} (s : Station) : Changes bs s s := by
  intro b _
  cases b <;> first | rfl | exact ⟨rfl, rfl⟩ | exact ⟨rfl, rfl, rfl⟩ | exact ⟨rfl, rfl, rfl, rfl, rfl⟩

theorem Block.same_trans {b : Block} {s t u : Station} (h : b.same s t) (k : b.same t u) : b.same s u := by
  cases b <;> simp only [Block.same] at * <;> simp only [k, h, and_self]

theorem Changes.trans {bs : List Block} {s t u : Station} (h : Changes bs s t) (k : Changes bs t u) : Changes bs s u :=
  fun b hb => Block.same_trans (h b hb) (k b hb)

/-- A frame holds for a longer list of pieces too. -/
theorem Changes.mono {bs cs : List Block} {s t : Station} (h : Changes bs s t)
    (sub : (bs.all fun b => decide (b ∈ cs)) = true) : Changes cs s t := by
  intro b hb
  refine h b fun hm => hb ?_
  have := List.all_eq_true.mp sub b hm
  simpa using this

/-- One operation after another. -/
theorem Changes.then {bs cs ds : List Block} {s t u : Station} (h : Changes bs s t) (k : Changes cs t u)
    (hb : (bs.all fun b => decide (b ∈ ds)) = true) (hc : (cs.all fun b => decide (b ∈ ds)) = true) : Changes ds s u :=
  (h.mono hb).trans (k.mono hc)

/-- A fold of operations with one frame. -/
theorem Changes.foldl {α : Type} {bs : List Block} {f : Station → α → Station} (h : ∀ s a, Changes bs s (f s a)) :
    ∀ (l : List α) (s : Station), Changes bs s (l.foldl f s)
  | [], s => .refl s
  | a :: l, s => (h s a).trans (Changes.foldl h l (f s a))

/-- An operation that is made or not. -/
theorem Changes.step {bs : List Block} {s t u : Station} {c : Prop} [Decidable c] (h : Changes bs s t)
    (k : Changes bs t u) : Changes bs s (if c then u else t) := by
  split
  · exact h.trans k
  · exact h

/-! ### The sample buffers -/

/-- A change of an item's buffer leaves the rest of the Measurement Unit alone. -/
@[simp] theorem Measurement.modifyBuffer_tare (r : ItemRef) (f : SampleBuffer → SampleBuffer) (m : Measurement) :
    (m.modifyBuffer r f).tare = m.tare := by
  unfold Measurement.modifyBuffer; split_ifs <;> rfl

@[simp] theorem Measurement.modifyBuffer_rejectedRun (r : ItemRef) (f : SampleBuffer → SampleBuffer) (m : Measurement) :
    (m.modifyBuffer r f).rejectedRun = m.rejectedRun := by
  unfold Measurement.modifyBuffer; split_ifs <;> rfl

@[simp] theorem Measurement.modifyBuffer_factor (r : ItemRef) (f : SampleBuffer → SampleBuffer) (m : Measurement) :
    (m.modifyBuffer r f).factor = m.factor := by
  unfold Measurement.modifyBuffer; split_ifs <;> rfl

@[simp] theorem Measurement.modifyBuffer_calibration (r : ItemRef) (f : SampleBuffer → SampleBuffer) (m : Measurement) :
    (m.modifyBuffer r f).calibration = m.calibration := by
  unfold Measurement.modifyBuffer; split_ifs <;> rfl

@[simp] theorem Measurement.modifyBuffer_counts (r : ItemRef) (f : SampleBuffer → SampleBuffer) (m : Measurement) :
    (m.modifyBuffer r f).counts = m.counts := by
  unfold Measurement.modifyBuffer; split_ifs <;> rfl

theorem Measurement.takeBuffer_fields {r : ItemRef} {m m' : Measurement} (h : m.takeBuffer r = some m') :
    m'.tare = m.tare ∧ m'.rejectedRun = m.rejectedRun ∧ m'.factor = m.factor ∧ m'.calibration = m.calibration ∧
      m'.counts = m.counts := by
  unfold Measurement.takeBuffer at h
  split_ifs at h <;> cases h <;> exact ⟨rfl, rfl, rfl, rfl, rfl⟩


/-! ### Single updates -/

variable (s : Station)

theorem Station.raise_changes (f : Flag) : Changes [.flags] s (s.raise f) := by
  intro b hb
  cases b <;> first
    | rfl
    | exact ⟨rfl, rfl⟩
    | exact ⟨rfl, rfl, rfl⟩
    | exact ⟨rfl, rfl, rfl, rfl, rfl⟩
    | exact absurd (by decide) hb

theorem Station.clearFlags_changes (m : BitVec 13) : Changes [.flags] s (s.clearFlags m) := by
  intro b hb
  cases b <;> first
    | rfl
    | exact ⟨rfl, rfl⟩
    | exact ⟨rfl, rfl, rfl⟩
    | exact ⟨rfl, rfl, rfl, rfl, rfl⟩
    | exact absurd (by decide) hb

theorem Station.modifyItem_changes (r : ItemRef) (f : Item → Item) : Changes [.items] s (s.modifyItem r f) := by
  intro b hb
  cases b <;> first
    | rfl
    | exact ⟨rfl, rfl⟩
    | exact ⟨rfl, rfl, rfl⟩
    | exact ⟨rfl, rfl, rfl, rfl, rfl⟩
    | exact absurd (by decide) hb

theorem Station.freeBuffer_changes (r : ItemRef) : Changes [.buffers] s (s.freeBuffer r) := by
  intro b hb
  cases b <;> first
    | rfl
    | exact ⟨rfl, rfl⟩
    | exact ⟨rfl, rfl, rfl⟩
    | exact ⟨rfl, rfl, rfl, rfl, rfl⟩
    | exact absurd (by decide) hb
    | simp [Block.same, Station.freeBuffer, Measurement.freeBuffer]

theorem Station.formatError_changes : Changes [.headCounts, .flags] s (s.formatError) := by
  intro b hb
  cases b <;> first
    | rfl
    | exact ⟨rfl, rfl⟩
    | exact ⟨rfl, rfl, rfl⟩
    | exact ⟨rfl, rfl, rfl, rfl, rfl⟩
    | exact absurd (by decide) hb

theorem Station.withReceiver_changes (h : Head) (r : Receiver) : Changes [.receivers] s (s.withReceiver h r) := by
  intro b hb
  cases b <;> first
    | rfl
    | exact ⟨rfl, rfl⟩
    | exact ⟨rfl, rfl, rfl⟩
    | exact ⟨rfl, rfl, rfl, rfl, rfl⟩
    | exact absurd (by decide) hb

theorem Station.txPush_changes (b : Body) : Changes [.txQueue] s (s.txPush b) := by
  intro b hb
  cases b <;> first
    | rfl
    | exact ⟨rfl, rfl⟩
    | exact ⟨rfl, rfl, rfl⟩
    | exact ⟨rfl, rfl, rfl, rfl, rfl⟩
    | exact absurd (by decide) hb

theorem Station.countAbandon_changes : Changes [.linkCounts] s (s.countAbandon) := by
  intro b hb
  cases b <;> first
    | rfl
    | exact ⟨rfl, rfl⟩
    | exact ⟨rfl, rfl, rfl⟩
    | exact ⟨rfl, rfl, rfl, rfl, rfl⟩
    | exact absurd (by decide) hb

theorem Station.modifyEntry_changes (k : Key) (f : Entry → Entry) : Changes [.entries] s (s.modifyEntry k f) := by
  intro b hb
  cases b <;> first
    | rfl
    | exact ⟨rfl, rfl⟩
    | exact ⟨rfl, rfl, rfl⟩
    | exact ⟨rfl, rfl, rfl, rfl, rfl⟩
    | exact absurd (by decide) hb

theorem Station.evict_changes (e : Entry) : Changes [.entries, .tableCounts, .context] s (s.evict e) := by
  intro b hb
  cases b <;> first
    | rfl
    | exact ⟨rfl, rfl⟩
    | exact ⟨rfl, rfl, rfl⟩
    | exact ⟨rfl, rfl, rfl, rfl, rfl⟩
    | exact absurd (by decide) hb

theorem Station.addEntry_changes (e : Entry) : Changes [.entries] s (s.addEntry e) := by
  intro b hb
  cases b <;> first
    | rfl
    | exact ⟨rfl, rfl⟩
    | exact ⟨rfl, rfl, rfl⟩
    | exact ⟨rfl, rfl, rfl, rfl, rfl⟩
    | exact absurd (by decide) hb

theorem Station.countUnusable_changes : Changes [.tableCounts] s (s.countUnusable) := by
  intro b hb
  cases b <;> first
    | rfl
    | exact ⟨rfl, rfl⟩
    | exact ⟨rfl, rfl, rfl⟩
    | exact ⟨rfl, rfl, rfl, rfl, rfl⟩
    | exact absurd (by decide) hb

theorem Station.countMerge_changes : Changes [.tableCounts] s (s.countMerge) := by
  intro b hb
  cases b <;> first
    | rfl
    | exact ⟨rfl, rfl⟩
    | exact ⟨rfl, rfl, rfl⟩
    | exact ⟨rfl, rfl, rfl, rfl, rfl⟩
    | exact absurd (by decide) hb

theorem Station.takeTally_changes : Changes [.tally, .claimCounts] s (s.takeTally) := by
  intro b hb
  cases b <;> first
    | rfl
    | exact ⟨rfl, rfl⟩
    | exact ⟨rfl, rfl, rfl⟩
    | exact ⟨rfl, rfl, rfl, rfl, rfl⟩
    | exact absurd (by decide) hb

theorem Station.tick_changes : Changes [.clock, .entries] s (s.tick) := by
  intro b hb
  cases b <;> first
    | rfl
    | exact ⟨rfl, rfl⟩
    | exact ⟨rfl, rfl, rfl⟩
    | exact ⟨rfl, rfl, rfl, rfl, rfl⟩
    | exact absurd (by decide) hb

theorem Station.removeOwnClaims_changes : Changes [.entries] s (s.removeOwnClaims) := by
  intro b hb
  cases b <;> first
    | rfl
    | exact ⟨rfl, rfl⟩
    | exact ⟨rfl, rfl, rfl⟩
    | exact ⟨rfl, rfl, rfl, rfl, rfl⟩
    | exact absurd (by decide) hb

theorem Station.markAllUnconfirmed_changes : Changes [.items] s (s.markAllUnconfirmed) := by
  intro b hb
  cases b <;> first
    | rfl
    | exact ⟨rfl, rfl⟩
    | exact ⟨rfl, rfl, rfl⟩
    | exact ⟨rfl, rfl, rfl, rfl, rfl⟩
    | exact absurd (by decide) hb

theorem Station.modifyContext_changes (f : Consignment → Consignment) : Changes [.context] s (s.modifyContext f) := by
  intro b hb
  cases b <;> first
    | rfl
    | exact ⟨rfl, rfl⟩
    | exact ⟨rfl, rfl, rfl⟩
    | exact ⟨rfl, rfl, rfl, rfl, rfl⟩
    | exact absurd (by decide) hb

theorem Station.openContext_changes (x : Slip) : Changes [.context] s (s.openContext x) := by
  intro b hb
  cases b <;> first
    | rfl
    | exact ⟨rfl, rfl⟩
    | exact ⟨rfl, rfl, rfl⟩
    | exact ⟨rfl, rfl, rfl, rfl, rfl⟩
    | exact absurd (by decide) hb

theorem Station.countMeasure_changes (f : MeasureCounts → MeasureCounts) : Changes [.measureCounts] s (s.countMeasure f) := by
  intro b hb
  cases b <;> first
    | rfl
    | exact ⟨rfl, rfl⟩
    | exact ⟨rfl, rfl, rfl⟩
    | exact ⟨rfl, rfl, rfl, rfl, rfl⟩
    | exact absurd (by decide) hb

theorem Station.startComputation_changes (r : ItemRef) (c : Computation) : Changes [.buffers] s (s.startComputation r c) := by
  intro b hb
  cases b <;> first
    | rfl
    | exact ⟨rfl, rfl⟩
    | exact ⟨rfl, rfl, rfl⟩
    | exact ⟨rfl, rfl, rfl, rfl, rfl⟩
    | exact absurd (by decide) hb
    | simp [Block.same, Station.startComputation]

theorem Station.countLane_changes (f : LaneCounts → LaneCounts) : Changes [.laneCounts] s (s.countLane f) := by
  intro b hb
  cases b <;> first
    | rfl
    | exact ⟨rfl, rfl⟩
    | exact ⟨rfl, rfl, rfl⟩
    | exact ⟨rfl, rfl, rfl, rfl, rfl⟩
    | exact absurd (by decide) hb

theorem Station.forwardCount_changes : Changes [.position] s (s.forwardCount) := by
  intro b hb
  cases b <;> first
    | rfl
    | exact ⟨rfl, rfl⟩
    | exact ⟨rfl, rfl, rfl⟩
    | exact ⟨rfl, rfl, rfl, rfl, rfl⟩
    | exact absurd (by decide) hb

theorem Station.countDisposed_changes (r : Bool) : Changes [.recordCounts] s (s.countDisposed r) := by
  intro b hb
  cases b <;> first
    | rfl
    | exact ⟨rfl, rfl⟩
    | exact ⟨rfl, rfl, rfl⟩
    | exact ⟨rfl, rfl, rfl, rfl, rfl⟩
    | exact absurd (by decide) hb

theorem Station.countLink_changes (f : LinkCounts → LinkCounts) : Changes [.linkCounts] s (s.countLink f) := by
  intro b hb
  cases b <;> first
    | rfl
    | exact ⟨rfl, rfl⟩
    | exact ⟨rfl, rfl, rfl⟩
    | exact ⟨rfl, rfl, rfl, rfl, rfl⟩
    | exact absurd (by decide) hb

theorem Station.releaseLine_changes : Changes [.line] s (s.releaseLine) := by
  intro b hb
  cases b <;> first
    | rfl
    | exact ⟨rfl, rfl⟩
    | exact ⟨rfl, rfl, rfl⟩
    | exact ⟨rfl, rfl, rfl, rfl, rfl⟩
    | exact absurd (by decide) hb

theorem Station.backOff_changes (n : Nat) : Changes [.txQueue, .generator] s (s.backOff n) := by
  intro b hb
  cases b <;> first
    | rfl
    | exact ⟨rfl, rfl⟩
    | exact ⟨rfl, rfl, rfl⟩
    | exact ⟨rfl, rfl, rfl, rfl, rfl⟩
    | exact absurd (by decide) hb

theorem Station.takeSettings_changes (c : Settings) : Changes [.factor, .line, .settings] s (s.takeSettings c) := by
  intro b hb
  cases b <;> first
    | rfl
    | exact ⟨rfl, rfl⟩
    | exact ⟨rfl, rfl, rfl⟩
    | exact ⟨rfl, rfl, rfl, rfl, rfl⟩
    | exact absurd (by decide) hb

theorem Station.enterListenOnly_changes : Changes [.stationState] s (s.enterListenOnly) := by
  intro b hb
  cases b <;> first
    | rfl
    | exact ⟨rfl, rfl⟩
    | exact ⟨rfl, rfl, rfl⟩
    | exact ⟨rfl, rfl, rfl, rfl, rfl⟩
    | exact absurd (by decide) hb

theorem Station.enterJoining_changes (id : Nat) : Changes [.generator, .stationState, .settings, .joinTimer] s (s.enterJoining id) := by
  intro b hb
  cases b <;> first
    | rfl
    | exact ⟨rfl, rfl⟩
    | exact ⟨rfl, rfl, rfl⟩
    | exact ⟨rfl, rfl, rfl, rfl, rfl⟩
    | exact absurd (by decide) hb

theorem Station.flushTransmit_changes : Changes [.txQueue, .gate] s (s.flushTransmit) := by
  intro b hb
  cases b <;> first
    | rfl
    | exact ⟨rfl, rfl⟩
    | exact ⟨rfl, rfl, rfl⟩
    | exact ⟨rfl, rfl, rfl, rfl, rfl⟩
    | exact absurd (by decide) hb

theorem Station.clearLane_changes : Changes [.items, .sensorOwner, .diverter] s (s.clearLane) := by
  intro b hb
  cases b <;> first
    | rfl
    | exact ⟨rfl, rfl⟩
    | exact ⟨rfl, rfl, rfl⟩
    | exact ⟨rfl, rfl, rfl, rfl, rfl⟩
    | exact absurd (by decide) hb

theorem Station.restartReleased_changes : Changes [.restartInput] s (s.restartReleased) := by
  intro b hb
  cases b <;> first
    | rfl
    | exact ⟨rfl, rfl⟩
    | exact ⟨rfl, rfl, rfl⟩
    | exact ⟨rfl, rfl, rfl, rfl, rfl⟩
    | exact absurd (by decide) hb

theorem Station.announced_changes : Changes [.stationState, .announce] s (s.announced) := by
  intro b hb
  cases b <;> first
    | rfl
    | exact ⟨rfl, rfl⟩
    | exact ⟨rfl, rfl, rfl⟩
    | exact ⟨rfl, rfl, rfl, rfl, rfl⟩
    | exact absurd (by decide) hb

theorem Station.checkFails_changes : Changes [.line, .linkCounts] s (s.checkFails) := by
  intro b hb
  cases b <;> first
    | rfl
    | exact ⟨rfl, rfl⟩
    | exact ⟨rfl, rfl, rfl⟩
    | exact ⟨rfl, rfl, rfl, rfl, rfl⟩
    | exact absurd (by decide) hb

theorem Station.applyMask_changes (g : StatusGroup) : Changes [.flags, .pendingStatus] s (s.applyMask g) := by
  intro b hb
  cases b <;> first
    | rfl
    | exact ⟨rfl, rfl⟩
    | exact ⟨rfl, rfl, rfl⟩
    | exact ⟨rfl, rfl, rfl, rfl, rfl⟩
    | exact absurd (by decide) hb

/-! ### Removal, offers, the transmit queue -/

theorem Station.endCalibrationOf_changes (r : ItemRef) (g : Bool) :
    Changes [.calibration, .flags] s (s.endCalibrationOf r g) := by
  have h : Changes [.calibration] s { s with measurement := { s.measurement with calibration := .none } } := by
    intro b hb
    cases b <;> first
      | rfl
      | exact ⟨rfl, rfl⟩
      | exact ⟨rfl, rfl, rfl⟩
      | exact ⟨rfl, rfl, rfl, rfl, rfl⟩
      | exact absurd (by decide) hb
  unfold Station.endCalibrationOf
  split
  · split
    · split
      · exact h.then (Station.raise_changes _ _) rfl rfl
      · exact h.mono rfl
    · exact .refl s
  · exact .refl s

/-- Two stations that differ only in the Item Queue. -/
theorem changes_items (l : List Item) : Changes [.items] s { s with lane := { s.lane with queue := l } } := by
  intro b hb
  cases b <;> first
    | rfl
    | exact ⟨rfl, rfl⟩
    | exact ⟨rfl, rfl, rfl⟩
    | exact ⟨rfl, rfl, rfl, rfl, rfl⟩
    | exact absurd (by decide) hb

/-- Two stations that differ only in the transmit queue. -/
theorem changes_txQueue (l : List TxFrame) : Changes [.txQueue] s { s with link := { s.link with txQueue := l } } := by
  intro b hb
  cases b <;> first
    | rfl
    | exact ⟨rfl, rfl⟩
    | exact ⟨rfl, rfl, rfl⟩
    | exact ⟨rfl, rfl, rfl, rfl, rfl⟩
    | exact absurd (by decide) hb

/-- Two stations that differ only in the receive queue. -/
theorem changes_rxQueue (l : List RxFrame) : Changes [.rxQueue] s { s with link := { s.link with rxQueue := l } } := by
  intro b hb
  cases b <;> first
    | rfl
    | exact ⟨rfl, rfl⟩
    | exact ⟨rfl, rfl, rfl⟩
    | exact ⟨rfl, rfl, rfl, rfl, rfl⟩
    | exact absurd (by decide) hb

/-- Two stations that differ only in the overflow slot. -/
theorem changes_overflow (o : Option Body) : Changes [.overflow] s { s with records := { s.records with overflow := o } } := by
  intro b hb
  cases b <;> first
    | rfl
    | exact ⟨rfl, rfl⟩
    | exact ⟨rfl, rfl, rfl⟩
    | exact ⟨rfl, rfl, rfl, rfl, rfl⟩
    | exact absurd (by decide) hb

/-- Two stations that differ only in the pending STATUS marks. -/
theorem changes_pendingStatus (p : PendingStatus) :
    Changes [.pendingStatus] s { s with records := { s.records with pending := p } } := by
  intro b hb
  cases b <;> first
    | rfl
    | exact ⟨rfl, rfl⟩
    | exact ⟨rfl, rfl, rfl⟩
    | exact ⟨rfl, rfl, rfl, rfl, rfl⟩
    | exact absurd (by decide) hb

/-- Two stations that differ only in the Claim Engine's counts. -/
theorem changes_claimCounts (c : ClaimCounts) : Changes [.claimCounts] s { s with claims := { s.claims with counts := c } } := by
  intro b hb
  cases b <;> first
    | rfl
    | exact ⟨rfl, rfl⟩
    | exact ⟨rfl, rfl, rfl⟩
    | exact ⟨rfl, rfl, rfl, rfl, rfl⟩
    | exact absurd (by decide) hb

/-- Two stations that differ only in the Record Builder's counts. -/
theorem changes_recordCounts (c : RecordCounts) :
    Changes [.recordCounts] s { s with records := { s.records with counts := c } } := by
  intro b hb
  cases b <;> first
    | rfl
    | exact ⟨rfl, rfl⟩
    | exact ⟨rfl, rfl, rfl⟩
    | exact ⟨rfl, rfl, rfl, rfl, rfl⟩
    | exact absurd (by decide) hb

/-- Two stations that differ only in the standing of the ANNOUNCE. -/
theorem changes_announce (a : AnnounceStanding) : Changes [.announce] s { s with startup := { s.startup with announce := a } } := by
  intro b hb
  cases b <;> first
    | rfl
    | exact ⟨rfl, rfl⟩
    | exact ⟨rfl, rfl, rfl⟩
    | exact ⟨rfl, rfl, rfl, rfl, rfl⟩
    | exact absurd (by decide) hb

theorem Station.removeItem_changes (r : ItemRef) (g : Bool) :
    Changes [.items, .buffers, .calibration, .flags] s (s.removeItem r g) :=
  ((changes_items s _).then (Station.freeBuffer_changes _ r) rfl rfl : Changes [.items, .buffers] s _).then
    (Station.endCalibrationOf_changes _ r g) rfl rfl

theorem Station.offerNotice_changes (b : Body) : Changes [.txQueue, .linkCounts, .flags] s (s.offerNotice b) := by
  unfold Station.offerNotice
  split
  · exact (Station.txPush_changes s b).mono rfl
  · exact (Station.countAbandon_changes s).then (Station.raise_changes _ _) rfl rfl

theorem Station.offerWithdraw_changes (k : Key) (t : Tally) (r : ItemRef) :
    Changes [.claimCounts, .txQueue, .linkCounts, .flags] s (s.offerWithdraw k t r) :=
  (changes_claimCounts s _).then (Station.offerNotice_changes _ _) rfl rfl

theorem Station.offerAnnounce_changes : Changes [.txQueue, .linkCounts, .flags, .announce] s s.offerAnnounce :=
  (Station.offerNotice_changes s _).then (changes_announce _ _) rfl rfl

theorem Station.offerRecord_changes (b : Body) : Changes [.txQueue, .overflow, .recordCounts] s (s.offerRecord b) := by
  unfold Station.offerRecord
  split
  · exact (Station.txPush_changes s b).mono rfl
  · exact (changes_overflow s _).mono rfl
  · exact (changes_recordCounts s _).mono rfl

theorem Station.buildRecord_changes (b : Body) : Changes [.txQueue, .overflow, .recordCounts] s (s.buildRecord b) := by
  unfold Station.buildRecord
  split
  · exact .refl s
  · exact Station.offerRecord_changes s b

theorem Station.offerDeposit_changes (i : Item) (g : Bool) :
    Changes [.txQueue, .overflow, .items, .buffers, .calibration, .flags] s (s.offerDeposit i g) := by
  unfold Station.offerDeposit
  split
  · exact (Station.txPush_changes s _).then (Station.removeItem_changes _ _ _) rfl rfl
  · exact (changes_overflow s _).then (Station.modifyItem_changes _ _ _) rfl rfl
  · exact .refl s

theorem Station.removeDeposited_changes (b : Body) (g : Bool) :
    Changes [.items, .buffers, .calibration, .flags] s (s.removeDeposited b g) := by
  unfold Station.removeDeposited
  split
  · split
    · split
      · exact Station.removeItem_changes s _ _
      · exact .refl s
    · exact .refl s
  · exact .refl s

theorem Station.moveOverflow_changes (g : Bool) :
    Changes [.txQueue, .overflow, .items, .buffers, .calibration, .flags] s (s.moveOverflow g) := by
  have h : ∀ b, Changes [.txQueue, .overflow, .items, .buffers, .calibration, .flags] s
      (({ s with records := { s.records with overflow := none } }.txPush b).removeDeposited b (!g)) := fun b =>
    ((changes_overflow s none).then (Station.txPush_changes _ b) rfl rfl : Changes [.txQueue, .overflow] s _).then
      (Station.removeDeposited_changes _ b (!g)) rfl rfl
  unfold Station.moveOverflow
  split
  · exact .refl s
  · rename_i b _
    split
    · dsimp only
      split
      · exact h b
      · split
        · exact (h b).trans (Station.offerDeposit_changes _ _ _)
        · exact h b
    · exact .refl s

theorem Station.roomReport_changes (g : Bool) :
    Changes [.txQueue, .overflow, .items, .buffers, .calibration, .flags, .linkCounts, .announce] s (s.roomReport g) := by
  unfold Station.roomReport
  dsimp only
  split
  · exact (Station.moveOverflow_changes s g).then (Station.offerAnnounce_changes _) rfl rfl
  · exact (Station.moveOverflow_changes s g).mono rfl

theorem Station.departOnLine_changes :
    Changes [.txQueue, .overflow, .items, .buffers, .calibration, .flags, .linkCounts, .announce] s s.departOnLine :=
  (changes_txQueue s _).then (Station.roomReport_changes _ false) rfl rfl

theorem Station.takeBack_changes (r : ItemRef) (g : Bool) :
    Changes [.txQueue, .overflow, .items, .buffers, .calibration, .flags, .linkCounts, .announce] s (s.takeBack r g) := by
  unfold Station.takeBack
  split
  · exact .refl s
  · split
    · exact (changes_txQueue s _).mono rfl
    · exact (changes_txQueue s _).then (Station.roomReport_changes _ g) rfl rfl

/-! ### The Correlation Table and the Claim Engine -/

/-- Two stations that differ only in the table's entries. -/
theorem changes_entries (l : List Entry) : Changes [.entries] s { s with table := { s.table with entries := l } } := by
  intro b hb
  cases b <;> first
    | rfl
    | exact ⟨rfl, rfl⟩
    | exact ⟨rfl, rfl, rfl⟩
    | exact ⟨rfl, rfl, rfl, rfl, rfl⟩
    | exact absurd (by decide) hb

/-- Two stations that differ only in the table's counts. -/
theorem changes_tableCounts (c : TableCounts) : Changes [.tableCounts] s { s with table := { s.table with counts := c } } := by
  intro b hb
  cases b <;> first
    | rfl
    | exact ⟨rfl, rfl⟩
    | exact ⟨rfl, rfl, rfl⟩
    | exact ⟨rfl, rfl, rfl, rfl, rfl⟩
    | exact absurd (by decide) hb

/-- Two stations that differ only in the tally. -/
theorem changes_tally (t : Tally) : Changes [.tally] s { s with claims := { s.claims with tally := t } } := by
  intro b hb
  cases b <;> first
    | rfl
    | exact ⟨rfl, rfl⟩
    | exact ⟨rfl, rfl, rfl⟩
    | exact ⟨rfl, rfl, rfl, rfl, rfl⟩
    | exact absurd (by decide) hb

theorem Station.touch_changes (k : Key) : Changes [.entries] s (s.touch k) := by
  unfold Station.touch
  split
  · exact .refl s
  · exact changes_entries s _

theorem Station.writeEntry_changes (k : Key) (f : Entry → Entry) : Changes [.entries] s (s.writeEntry k f) :=
  (Station.modifyEntry_changes s k f).trans (Station.touch_changes _ k)

theorem Station.createEntry_changes (e : Entry) :
    Changes [.entries, .tableCounts, .context, .flags] s (s.createEntry e).1 := by
  unfold Station.createEntry
  split
  · exact (Station.addEntry_changes s e).mono rfl
  · split
    · exact (Station.evict_changes s _).then (Station.addEntry_changes _ e) rfl rfl
    · exact (changes_tableCounts s _).then (Station.raise_changes _ _) rfl rfl

theorem Station.ensureEntry_changes (k : Key) (n : Nat) (h : Holdings) :
    Changes [.entries, .tableCounts, .context, .flags] s (s.ensureEntry k n h).1 := by
  unfold Station.ensureEntry
  split
  · exact .refl s
  · exact Station.createEntry_changes s _

theorem Station.countDropped_changes (d : Bool) : Changes [.tableCounts] s (s.countDropped d) := by
  unfold Station.countDropped
  split
  · exact changes_tableCounts s _
  · exact .refl s

theorem Station.adopt_changes (t : Tally) : Changes [.tally] s (s.adopt t) := by
  unfold Station.adopt
  split
  · exact changes_tally s t
  · exact .refl s

theorem Station.countCommit_changes (r : Bool) : Changes [.claimCounts] s (s.countCommit r) := by
  unfold Station.countCommit
  split <;> exact changes_claimCounts s _

theorem Station.reject_changes (r : ItemRef) (x : Rejection) : Changes [.items] s (s.reject r x) :=
  Station.modifyItem_changes s r _

theorem Station.commitAs_changes (k : Key) (c : Claim) (n : Nat) (a b d : Bool) :
    Changes [.items, .entries, .claimCounts, .txQueue, .linkCounts, .flags] s (s.commitAs k c n a b d) :=
  (((Station.writeEntry_changes s k _).then (Station.modifyItem_changes _ c.ref _) rfl rfl :
      Changes [.items, .entries] s _).then (Station.countCommit_changes _ a) rfl rfl :
      Changes [.items, .entries, .claimCounts] s _).then (Station.offerNotice_changes _ _) rfl rfl

theorem Station.retestFuel_changes (k : Key) : ∀ (n : Nat) (s : Station),
    Changes [.items, .entries, .claimCounts, .txQueue, .linkCounts, .flags] s (Station.retestFuel n k s)
  | 0, s => .refl s
  | n + 1, s => by
    unfold Station.retestFuel
    split
    · exact .refl s
    · exact (Station.commitAs_changes s k _ _ _ _ _).trans (Station.retestFuel_changes k n _)

theorem Station.retest_changes (k : Key) :
    Changes [.items, .entries, .claimCounts, .txQueue, .linkCounts, .flags] s (s.retest k) := by
  unfold Station.retest
  split
  · exact .refl s
  · exact Station.retestFuel_changes k _ s

theorem Station.markOverfull_changes (k : Key) : Changes [.items] s (s.markOverfull k) := by
  unfold Station.markOverfull
  split
  · exact .refl s
  · exact changes_items s _

theorem Station.report_changes (k : Key) (o : Option Entry) (f : Bool) :
    Changes [.items, .entries, .claimCounts, .txQueue, .linkCounts, .flags] s (s.report k o f) := by
  unfold Station.report
  split
  · exact .refl s
  · split
    · split
      · exact (Station.markOverfull_changes s k).then (Station.retest_changes _ k) rfl rfl
      · exact Station.retest_changes s k
    · exact .refl s

theorem Station.offerClaim_changes (r : ItemRef) (k : Key) (e : Entry) :
    Changes [.items, .entries, .tableCounts, .tally, .claimCounts, .txQueue, .linkCounts, .flags] s (s.offerClaim r k e) := by
  unfold Station.offerClaim
  dsimp only
  split
  · exact ((((((Station.takeTally_changes s).then (Station.txPush_changes _ _) rfl rfl :
      Changes [.tally, .claimCounts, .txQueue] s _).then (Station.writeEntry_changes _ k _) rfl rfl :
      Changes [.tally, .claimCounts, .txQueue, .entries] s _).then (Station.countDropped_changes _ _) rfl rfl :
      Changes [.tally, .claimCounts, .txQueue, .entries, .tableCounts] s _).then (Station.modifyItem_changes _ r _) rfl rfl :
      Changes [.items, .tally, .claimCounts, .txQueue, .entries, .tableCounts] s _)).then (Station.report_changes _ k _ _) rfl rfl
  · exact (Station.takeTally_changes s).then (Station.reject_changes _ r _) rfl rfl

theorem Station.takeKey_changes (r : ItemRef) (k : Key) :
    Changes [.items, .context, .entries, .tableCounts, .tally, .claimCounts, .txQueue, .linkCounts, .flags] s
      (s.takeKey r k) := by
  unfold Station.takeKey
  split
  · exact .refl s
  · split
    · exact .refl s
    · split
      · exact .refl s
      · split
        · exact (Station.reject_changes s r _).mono rfl
        · dsimp only
          split
          · exact (Station.ensureEntry_changes s k _ _).then (Station.reject_changes _ r _) rfl rfl
          · split
            · exact (Station.ensureEntry_changes s k _ _).then (Station.touch_changes _ k) rfl rfl
            · split
              · exact ((Station.ensureEntry_changes s k _ _).then (Station.touch_changes _ k) rfl rfl :
                  Changes [.entries, .tableCounts, .context, .flags] s _).then (Station.reject_changes _ r _) rfl rfl
              · exact ((Station.ensureEntry_changes s k _ _).then (Station.touch_changes _ k) rfl rfl :
                  Changes [.entries, .tableCounts, .context, .flags] s _).then (Station.offerClaim_changes _ r k _) rfl rfl

theorem Station.claimSent_changes (k : Key) (r : ItemRef) : Changes [.items] s (s.claimSent k r) :=
  Station.modifyItem_changes s r _

theorem Station.removeOwnClaim_changes (k : Key) (r : ItemRef) : Changes [.entries] s (s.removeOwnClaim k r) :=
  Station.writeEntry_changes s k _

theorem Station.claimAbandoned_changes (k : Key) (r : ItemRef) :
    Changes [.items, .entries, .claimCounts, .txQueue, .linkCounts, .flags] s (s.claimAbandoned k r) :=
  ((Station.modifyItem_changes s r _).then (Station.removeOwnClaim_changes _ k r) rfl rfl : Changes [.items, .entries] s _).then
    (Station.report_changes _ k _ _) rfl rfl

theorem Station.settleExpires_changes (r : ItemRef) :
    Changes [.items, .entries, .claimCounts, .txQueue, .linkCounts, .flags] s (s.settleExpires r) := by
  unfold Station.settleExpires
  split
  · exact .refl s
  · split
    · split
      · split
        · exact (Station.modifyItem_changes s r _).mono rfl
        · split
          · split
            · exact (Station.commitAs_changes s _ _ _ _ _ _).trans (Station.retest_changes _ _)
            · exact (Station.modifyItem_changes s r _).mono rfl
          · exact (Station.modifyItem_changes s r _).mono rfl
      · exact .refl s
    · exact .refl s

theorem Station.finalizeWaiting_changes (i : Item) (k : Key) :
    Changes [.items, .entries, .claimCounts, .txQueue, .linkCounts, .flags] s (s.finalizeWaiting i k) := by
  unfold Station.finalizeWaiting
  split
  · exact .refl s
  · split
    · exact .refl s
    · split
      · exact (Station.commitAs_changes s _ _ _ _ _ _).trans (Station.retest_changes _ _)
      · exact (Station.commitAs_changes s _ _ _ _ _ _).trans (Station.retest_changes _ _)

theorem Station.finalizeItem_changes (r : ItemRef) :
    Changes [.items, .entries, .claimCounts, .txQueue, .linkCounts, .flags, .overflow, .buffers, .calibration, .announce] s
      (s.finalizeItem r) := by
  have h : ∀ (x : Rejection) (k : Key), Changes [.items, .entries] s ((s.reject r x).removeOwnClaim k r) := fun x k =>
    (Station.reject_changes s r x).then (Station.removeOwnClaim_changes _ k r) rfl rfl
  unfold Station.finalizeItem
  split
  · exact .refl s
  · split
    · exact (Station.finalizeWaiting_changes s _ _).mono rfl
    · exact ((h _ _).then (Station.takeBack_changes _ r false) rfl rfl :
        Changes [.items, .entries, .txQueue, .linkCounts, .flags, .overflow, .buffers, .calibration, .announce] s _).then
        (Station.report_changes _ _ _ _) rfl rfl
    · exact ((h _ _).then (Station.offerWithdraw_changes _ _ _ _) rfl rfl :
        Changes [.items, .entries, .claimCounts, .txQueue, .linkCounts, .flags] s _).then
        (Station.report_changes _ _ _ _) rfl rfl
    · exact .refl s

theorem Station.handCorrection_changes (c : Correction) :
    Changes [.claimCounts, .txQueue, .overflow, .recordCounts] s (s.handCorrection c) :=
  (changes_claimCounts s _).then (Station.buildRecord_changes _ _) rfl rfl

theorem Station.clashTest_changes (k : Key) (t : Tally) (n : Nat) (r : ItemRef) (o : Nat) :
    Changes [.claimCounts, .txQueue, .overflow, .recordCounts, .flags] s (s.clashTest k t n r o) := by
  unfold Station.clashTest
  split
  · exact .refl s
  · refine Changes.foldl (fun s c => ?_) _ _
    unfold Station.clashTestOne
    split
    · exact (Station.handCorrection_changes s _).then (Station.raise_changes _ _) rfl rfl
    · exact .refl s

theorem Station.lateHoldings_changes (k : Key) (c n : Nat) (t : Tally) :
    Changes [.claimCounts, .txQueue, .overflow, .recordCounts] s (s.lateHoldings k c n t) := by
  unfold Station.lateHoldings
  split
  · split
    · exact .refl s
    · split
      · exact .refl s
      · split
        · exact Station.handCorrection_changes s _
        · exact .refl s
  · exact .refl s

theorem Station.mergeClaim_changes (k : Key) (t : Tally) (n : Nat) (r : ItemRef) (c : Nat) (w : Bool) :
    Changes [.items, .context, .entries, .tableCounts, .claimCounts, .txQueue, .linkCounts, .flags] s
      (s.mergeClaim k t n r c w) := by
  unfold Station.mergeClaim
  dsimp only
  split
  · exact (Station.ensureEntry_changes s k _ _).mono rfl
  · split
    · exact (Station.ensureEntry_changes s k _ _).mono rfl
    · exact ((((Station.ensureEntry_changes s k _ _).then (Station.writeEntry_changes _ k _) rfl rfl :
        Changes [.entries, .tableCounts, .context, .flags] s _).then (Station.countDropped_changes _ _) rfl rfl :
        Changes [.entries, .tableCounts, .context, .flags] s _).then (Station.countMerge_changes _) rfl rfl :
        Changes [.entries, .tableCounts, .context, .flags] s _).then (Station.report_changes _ k _ _) rfl rfl

theorem Station.mergeCommit_changes (k : Key) (t : Tally) (n : Nat) (r : ItemRef) (o : Nat) :
    Changes [.items, .context, .entries, .tableCounts, .claimCounts, .txQueue, .linkCounts, .flags, .overflow, .recordCounts] s
      (s.mergeCommit k t n r o) := by
  unfold Station.mergeCommit
  dsimp only
  split
  · exact (Station.ensureEntry_changes s k _ _).mono rfl
  · exact ((((Station.ensureEntry_changes s k _ _).then (Station.writeEntry_changes _ k _) rfl rfl :
        Changes [.entries, .tableCounts, .context, .flags] s _).then (Station.countMerge_changes _) rfl rfl :
        Changes [.entries, .tableCounts, .context, .flags] s _).then (Station.clashTest_changes _ k _ _ _ _) rfl rfl :
        Changes [.entries, .tableCounts, .context, .flags, .claimCounts, .txQueue, .overflow, .recordCounts] s _).then
        (Station.report_changes _ k _ _) rfl rfl

theorem Station.mergeWithdraw_changes (k : Key) (n : Nat) (r : ItemRef) :
    Changes [.items, .entries, .tableCounts, .claimCounts, .txQueue, .linkCounts, .flags] s (s.mergeWithdraw k n r) := by
  unfold Station.mergeWithdraw
  split
  · exact .refl s
  · exact ((Station.writeEntry_changes s k _).then (Station.countMerge_changes _) rfl rfl :
        Changes [.entries, .tableCounts] s _).then (Station.report_changes _ k _ _) rfl rfl

theorem Station.mergeHoldings_changes (k : Key) (c n : Nat) (t : Tally) :
    Changes [.items, .context, .entries, .tableCounts, .claimCounts, .txQueue, .linkCounts, .flags, .overflow, .recordCounts] s
      (s.mergeHoldings k c n t) := by
  unfold Station.mergeHoldings
  dsimp only
  split
  · exact (Station.ensureEntry_changes s k _ _).mono rfl
  · exact ((((Station.ensureEntry_changes s k _ _).then (Station.writeEntry_changes _ k _) rfl rfl :
        Changes [.entries, .tableCounts, .context, .flags] s _).then (Station.countMerge_changes _) rfl rfl :
        Changes [.entries, .tableCounts, .context, .flags] s _).then (Station.lateHoldings_changes _ k _ _ _) rfl rfl :
        Changes [.entries, .tableCounts, .context, .flags, .claimCounts, .txQueue, .overflow, .recordCounts] s _).then
        (Station.report_changes _ k _ _) rfl rfl

theorem Station.claimExpires_changes (k : Key) (n : Nat) (r : ItemRef) :
    Changes [.items, .entries, .tableCounts, .claimCounts, .txQueue, .linkCounts, .flags] s (s.claimExpires k n r) := by
  unfold Station.claimExpires
  split
  · exact .refl s
  · split
    · exact ((Station.modifyEntry_changes s k _).then (changes_tableCounts _ _) rfl rfl :
        Changes [.entries, .tableCounts] s _).then (Station.report_changes _ k _ _) rfl rfl
    · exact .refl s

theorem Station.requestLapses_changes (k : Key) : Changes [.entries] s (s.requestLapses k) := by
  unfold Station.requestLapses
  split
  · exact .refl s
  · split
    · split
      · exact .refl s
      · exact Station.modifyEntry_changes s k _
    · exact .refl s

theorem Station.restartClaim_changes (i : Item) :
    Changes [.items, .claimCounts, .txQueue, .linkCounts, .flags, .overflow, .buffers, .calibration, .announce] s
      (s.restartClaim i) := by
  unfold Station.restartClaim
  split
  · exact (Station.takeBack_changes s _ true).mono rfl
  · exact (Station.offerWithdraw_changes s _ _ _).mono rfl
  · exact (Station.offerWithdraw_changes s _ _ _).mono rfl
  · exact .refl s

/-! ### The Consignment Tracker and the Measurement Unit -/

/-- Two stations that differ only in the Consignment Tracker's counts. -/
theorem changes_trackerCounts (a b : Count) :
    Changes [.trackerCounts] s { s with tracker := { s.tracker with matches_ := a, issued := b } } := by
  intro b hb
  cases b <;> first
    | rfl
    | exact ⟨rfl, rfl⟩
    | exact ⟨rfl, rfl, rfl⟩
    | exact ⟨rfl, rfl, rfl, rfl, rfl⟩
    | exact absurd (by decide) hb

/-- Two stations that differ only in the consignment context. -/
theorem changes_context (c : Option Consignment) :
    Changes [.context] s { s with tracker := { s.tracker with context := c } } := by
  intro b hb
  cases b <;> first
    | rfl
    | exact ⟨rfl, rfl⟩
    | exact ⟨rfl, rfl, rfl⟩
    | exact ⟨rfl, rfl, rfl, rfl, rfl⟩
    | exact absurd (by decide) hb

/-- Two stations that differ only in the calibration record. -/
theorem changes_calibration (c : Calibration) :
    Changes [.calibration] s { s with measurement := { s.measurement with calibration := c } } := by
  intro b hb
  cases b <;> first
    | rfl
    | exact ⟨rfl, rfl⟩
    | exact ⟨rfl, rfl, rfl⟩
    | exact ⟨rfl, rfl, rfl, rfl, rfl⟩
    | exact absurd (by decide) hb

theorem Station.markItem_changes (r : ItemRef) (m : TrackerMark) : Changes [.items] s (s.markItem r m) :=
  Station.modifyItem_changes s r _

theorem Station.closeContext_changes (c : EndCause) :
    Changes [.context, .txQueue, .overflow, .recordCounts] s (s.closeContext c) := by
  unfold Station.closeContext
  split
  · exact .refl s
  · exact (changes_context s none).then (Station.buildRecord_changes _ _) rfl rfl

theorem Station.takeSlip_changes (x : Slip) :
    Changes [.context, .txQueue, .overflow, .recordCounts] s (s.takeSlip x) := by
  unfold Station.takeSlip
  split
  · exact (Station.openContext_changes s x).mono rfl
  · exact (Station.closeContext_changes s _).then (Station.openContext_changes _ x) rfl rfl

theorem Station.commitProvisional_changes (r : ItemRef) (k : Key) :
    Changes [.items, .entries] s (s.commitProvisional r k) := by
  unfold Station.commitProvisional
  split
  · exact .refl s
  · exact (Station.writeEntry_changes s k _).then (Station.modifyItem_changes _ r _) rfl rfl

theorem Station.issueProvisional_changes (r : ItemRef) (n : Nat) (p : Stored) (c : Consignment) :
    Changes [.items, .context, .trackerCounts, .entries, .tableCounts, .flags] s (s.issueProvisional r n p c) := by
  unfold Station.issueProvisional
  dsimp only
  split
  · exact (Station.modifyContext_changes s _).then (Station.markItem_changes _ r _) rfl rfl
  · split
    · exact ((Station.modifyContext_changes s _).then (Station.createEntry_changes _ _) rfl rfl :
        Changes [.context, .entries, .tableCounts, .flags] s _).then (Station.markItem_changes _ r _) rfl rfl
    · exact (((((Station.modifyContext_changes s _).then (Station.createEntry_changes _ _) rfl rfl :
        Changes [.context, .entries, .tableCounts, .flags] s _).then (Station.modifyContext_changes _ _) rfl rfl :
        Changes [.context, .entries, .tableCounts, .flags] s _).then (Station.modifyItem_changes _ r _) rfl rfl :
        Changes [.items, .context, .entries, .tableCounts, .flags] s _).then (changes_trackerCounts _ _ _) rfl rfl :
        Changes [.items, .context, .trackerCounts, .entries, .tableCounts, .flags] s _).then
        (Station.commitProvisional_changes _ r _) rfl rfl

theorem Station.matchRoster_changes (i : Item) (g : Nat) (c : Consignment) :
    Changes [.items, .context, .trackerCounts, .entries, .tableCounts, .flags] s (s.matchRoster i g c) := by
  unfold Station.matchRoster
  split
  · exact (((Station.modifyItem_changes s _ _).then (Station.touch_changes _ _) rfl rfl :
      Changes [.items, .entries] s _).then (changes_trackerCounts _ _ _) rfl rfl :
      Changes [.items, .entries, .trackerCounts] s _).then (Station.commitProvisional_changes _ _ _) rfl rfl
  · exact Station.issueProvisional_changes s _ _ _ _

theorem Station.runMatching_changes (r : ItemRef) :
    Changes [.items, .context, .trackerCounts, .entries, .tableCounts, .flags] s (s.runMatching r) := by
  have h1 : Changes [.items] s (s.modifyItem r fun x => { x with matching := false }) := Station.modifyItem_changes s r _
  have h2 : ∀ m, Changes [.items, .context, .trackerCounts, .entries, .tableCounts, .flags] s
      ((s.modifyItem r fun x => { x with matching := false }).markItem r m) := fun m =>
    h1.then (Station.markItem_changes _ r m) rfl rfl
  unfold Station.runMatching
  split
  · exact .refl s
  · dsimp only
    split
    · exact h1.mono rfl
    · split
      · exact h2 _
      · split
        · exact h2 _
        · split
          · exact h2 _
          · split
            · exact h1.mono rfl
            · split
              · exact h2 _
              · exact h1.then (Station.matchRoster_changes _ _ _ _) rfl rfl

theorem Station.takeIntoMatching_changes (r : ItemRef) :
    Changes [.items, .context, .trackerCounts, .entries, .tableCounts, .flags] s (s.takeIntoMatching r) := by
  unfold Station.takeIntoMatching
  split
  · exact .refl s
  · split
    · exact Station.runMatching_changes s r
    · exact (Station.modifyItem_changes s r _).mono rfl

theorem Station.weightArrives_changes (r : ItemRef) :
    Changes [.items, .context, .trackerCounts, .entries, .tableCounts, .flags] s (s.weightArrives r) := by
  unfold Station.weightArrives
  split
  · exact .refl s
  · split
    · exact Station.runMatching_changes s r
    · exact .refl s

theorem Station.endWait_changes (r : ItemRef) : Changes [.items] s (s.endWait r) := Station.modifyItem_changes s r _

theorem Station.stampItem_changes (r : ItemRef) (u : Bool) :
    Changes [.items, .context, .trackerCounts, .entries, .tableCounts, .flags, .txQueue, .overflow, .recordCounts] s
      (s.stampItem r u) := by
  have h1 : ∀ (f : Item → Item) (g : Consignment → Consignment),
      Changes [.items, .context] s ((s.modifyItem r f).modifyContext g) := fun f g =>
    (Station.modifyItem_changes s r f).then (Station.modifyContext_changes _ g) rfl rfl
  unfold Station.stampItem
  split
  · split
    · exact (Station.markItem_changes s r _).mono rfl
    · exact .refl s
  · dsimp only
    split
    · split
      · exact ((h1 _ _).then (Station.takeIntoMatching_changes _ r) rfl rfl :
          Changes [.items, .context, .trackerCounts, .entries, .tableCounts, .flags] s _).then
          (Station.closeContext_changes _ _) rfl rfl
      · exact (h1 _ _).then (Station.closeContext_changes _ _) rfl rfl
    · split
      · exact (h1 _ _).then (Station.takeIntoMatching_changes _ r) rfl rfl
      · exact (h1 _ _).mono rfl

/-- Two stations that differ only in the sample buffers. -/
theorem changes_buffers {m : Measurement} (h : m.tare = s.measurement.tare ∧ m.rejectedRun = s.measurement.rejectedRun ∧
    m.factor = s.measurement.factor ∧ m.calibration = s.measurement.calibration ∧ m.counts = s.measurement.counts) :
    Changes [.buffers] s { s with measurement := m } := by
  intro b hb
  cases b <;> first
    | rfl
    | exact ⟨rfl, rfl⟩
    | exact ⟨rfl, rfl, rfl⟩
    | exact ⟨rfl, rfl, rfl, rfl, rfl⟩
    | exact absurd (by decide) hb
    | exact ⟨h.1, h.2.1⟩
    | exact h.2.2.1
    | exact h.2.2.2.1
    | exact h.2.2.2.2

theorem Station.storeSamples_changes (r : ItemRef) (xs : List Int) (g : Bool) :
    Changes [.items, .buffers] s (s.storeSamples r xs g) :=
  (changes_buffers s (m := s.measurement.modifyBuffer r (SampleBuffer.append xs)) (by simp)).then
    (Station.modifyItem_changes _ r _) rfl rfl

theorem Station.refuseBuffer_changes (r : ItemRef) : Changes [.items, .measureCounts] s (s.refuseBuffer r) :=
  (Station.modifyItem_changes s r _).then (Station.countMeasure_changes _ _) rfl rfl

theorem Station.scalePacket_changes (i : Item) (xs : List Int) (g : Bool) :
    Changes [.items, .buffers, .measureCounts] s (s.scalePacket i xs g) := by
  unfold Station.scalePacket
  split
  · exact (Station.refuseBuffer_changes s _).mono rfl
  · split
    · exact (Station.storeSamples_changes s _ _ _).mono rfl
    · split
      · rename_i m hm
        exact (changes_buffers s (Measurement.takeBuffer_fields hm)).then (Station.storeSamples_changes _ _ _ _) rfl rfl
      · exact (Station.refuseBuffer_changes s _).mono rfl

theorem Station.scaleWindowOpens_changes (r : ItemRef) : Changes [.items, .calibration] s (s.scaleWindowOpens r) := by
  unfold Station.scaleWindowOpens
  split
  · exact (changes_calibration s _).then (Station.modifyItem_changes _ r _) rfl rfl
  · exact .refl s

theorem Station.endCalibration_changes (r : ItemRef) (n : Option Int) :
    Changes [.factor, .calibration, .flags] s (s.endCalibration r n) := by
  have h : ∀ f : Nat, Changes [.factor, .calibration] s
      { s with measurement := { s.measurement with calibration := .none, factor := f } } := by
    intro f b hb
    cases b <;> first
      | rfl
      | exact ⟨rfl, rfl⟩
      | exact ⟨rfl, rfl, rfl⟩
      | exact ⟨rfl, rfl, rfl, rfl, rfl⟩
      | exact absurd (by decide) hb
  unfold Station.endCalibration
  split
  · split
    · dsimp only
      split
      · exact (h _).then (Station.raise_changes _ _) rfl rfl
      · exact (changes_calibration s _).then (Station.raise_changes _ _) rfl rfl
    · exact .refl s
  · exact .refl s

/-- A weight outcome with no net, an absent weight, leaves the scale factor (R69). -/
theorem Station.endCalibration_none_changes (r : ItemRef) :
    Changes [.calibration, .flags] s (s.endCalibration r none) := by
  unfold Station.endCalibration
  split
  · split
    · simp only [newFactor]
      exact (changes_calibration s _).then (Station.raise_changes _ _) rfl rfl
    · exact .refl s
  · exact .refl s

theorem Station.weightOutcome_changes (r : ItemRef) (w : WeightRecord) (n : Option Int) :
    Changes [.items, .buffers, .factor, .calibration, .context, .trackerCounts, .entries, .tableCounts, .flags] s
      (s.weightOutcome r w n) :=
  (((Station.modifyItem_changes s r _).then (Station.freeBuffer_changes _ r) rfl rfl :
    Changes [.items, .buffers] s _).then (Station.weightArrives_changes _ r) rfl rfl :
    Changes [.items, .buffers, .context, .trackerCounts, .entries, .tableCounts, .flags] s _).then
    (Station.endCalibration_changes _ r n) rfl rfl

theorem Station.weightOutcome_none_changes (r : ItemRef) (w : WeightRecord) :
    Changes [.items, .buffers, .calibration, .context, .trackerCounts, .entries, .tableCounts, .flags] s
      (s.weightOutcome r w none) :=
  (((Station.modifyItem_changes s r _).then (Station.freeBuffer_changes _ r) rfl rfl :
    Changes [.items, .buffers] s _).then (Station.weightArrives_changes _ r) rfl rfl :
    Changes [.items, .buffers, .context, .trackerCounts, .entries, .tableCounts, .flags] s _).then
    (Station.endCalibration_none_changes _ r) rfl rfl

theorem Station.scaleClose_changes (r : ItemRef) :
    Changes [.items, .buffers, .calibration, .measureCounts, .context, .trackerCounts, .entries, .tableCounts, .flags] s
      (s.scaleClose r) := by
  have h := fun w => (Station.weightOutcome_none_changes s r w).mono
    (cs := [.items, .buffers, .calibration, .measureCounts, .context, .trackerCounts, .entries, .tableCounts, .flags]) rfl
  unfold Station.scaleClose
  split
  · exact .refl s
  · split
    · exact h _
    · split
      · exact h _
      · split
        · exact h _
        · split
          · exact (Station.countMeasure_changes s _).then (Station.weightOutcome_none_changes _ r _) rfl rfl
          · split
            · exact h _
            · exact (Station.startComputation_changes s r _).mono rfl

theorem Station.lateScaleClose_changes (r : ItemRef) :
    Changes [.items, .buffers, .calibration, .context, .trackerCounts, .entries, .tableCounts, .flags] s
      (s.lateScaleClose r) := by
  unfold Station.lateScaleClose
  split
  · exact .refl s
  · exact Station.weightOutcome_none_changes s r _

theorem Station.weightCompletes_changes (r : ItemRef) :
    Changes [.items, .buffers, .factor, .calibration, .context, .trackerCounts, .entries, .tableCounts, .flags] s
      (s.weightCompletes r) := by
  unfold Station.weightCompletes
  split
  · exact .refl s
  · split
    · exact .refl s
    · exact Station.weightOutcome_changes s r _ _

theorem Station.emptyPacket_changes (xs : List Int) : Changes [.tare, .measureCounts, .flags] s (s.emptyPacket xs) := by
  have h : ∀ (t : Option Int) (n : Nat),
      Changes [.tare] s { s with measurement := { s.measurement with tare := t, rejectedRun := n } } := by
    intro t n b hb
    cases b <;> first
      | rfl
      | exact ⟨rfl, rfl⟩
      | exact ⟨rfl, rfl, rfl⟩
      | exact ⟨rfl, rfl, rfl, rfl, rfl⟩
      | exact absurd (by decide) hb
  unfold Station.emptyPacket
  split
  · exact .refl s
  · dsimp only
    split <;> split
    · exact ((h _ _).then (Station.countMeasure_changes _ _) rfl rfl : Changes [.tare, .measureCounts] s _).then
        (Station.raise_changes _ _) rfl rfl
    · exact (h _ _).then (Station.raise_changes _ _) rfl rfl
    · exact (h _ _).then (Station.countMeasure_changes _ _) rfl rfl
    · exact (h _ _).mono rfl

theorem Station.gaugePacket_changes (r : ItemRef) (l : List (Nat × Nat)) : Changes [.items] s (s.gaugePacket r l) :=
  Station.modifyItem_changes s r _

theorem Station.gaugeClose_changes (r : ItemRef) : Changes [.items] s (s.gaugeClose r) := Station.modifyItem_changes s r _

theorem Station.lateGaugeClose_changes (r : ItemRef) : Changes [.items] s (s.lateGaugeClose r) :=
  Station.modifyItem_changes s r _

theorem Station.calibrateRequest_changes (g : Nat) : Changes [.calibration, .flags] s (s.calibrateRequest g) := by
  unfold Station.calibrateRequest
  split
  · exact (Station.raise_changes s _).mono rfl
  · split
    · exact (Station.raise_changes s _).mono rfl
    · exact (changes_calibration s _).mono rfl

/-! ### The Head Receivers -/

/-- Two stations that differ only in the head counts. -/
theorem changes_headCounts (c : HeadCounts) : Changes [.headCounts] s { s with headCounts := c } := by
  intro b hb
  cases b <;> first
    | rfl
    | exact ⟨rfl, rfl⟩
    | exact ⟨rfl, rfl, rfl⟩
    | exact ⟨rfl, rfl, rfl, rfl, rfl⟩
    | exact absurd (by decide) hb

theorem Station.countGap_changes (h : Head) : Changes [.headCounts] s (s.countGap h) := by
  cases h
  · exact .refl s
  · exact .refl s
  · exact changes_headCounts s _
  · exact changes_headCounts s _

theorem Station.acceptPacket_changes (h : Head) (r : Receiver) (t n : Byte) (c : Nat) (l : List Symbol) :
    Changes [.receivers, .headCounts] s (s.acceptPacket h r t n c l) := by
  unfold Station.acceptPacket
  dsimp only
  split
  · exact (Station.withReceiver_changes s h _).then (Station.countGap_changes _ h) rfl rfl
  · exact (Station.withReceiver_changes s h _).mono rfl

theorem Station.frameSymbol_changes (h : Head) (r : Receiver) (x : Symbol) :
    Changes [.receivers, .headCounts, .flags] s (s.frameSymbol h r x) := by
  have w := fun r' => (Station.withReceiver_changes s h r').mono (cs := [.receivers, .headCounts, .flags]) rfl
  have f := fun r' => ((Station.withReceiver_changes s h r').then (Station.formatError_changes _) rfl rfl :
    Changes [.receivers, .headCounts, .flags] s _)
  unfold Station.frameSymbol
  split
  · exact w _
  · split <;> exact w _
  · exact w _
  · split
    · split <;> exact w _
    · exact f _
  · split <;> exact w _
  · split
    · exact (Station.acceptPacket_changes s h r _ _ _ _).mono rfl
    · exact f _
  · exact .refl s

theorem Station.overrunGap_changes (r : Receiver) : Changes [.headCounts, .flags] s (s.overrunGap r).1 := by
  unfold Station.overrunGap
  split
  · exact .refl s
  · exact .refl s
  all_goals exact Station.formatError_changes s

theorem Station.framerTake_changes (h : Head) : Changes [.receivers, .headCounts, .flags] s (s.framerTake h) := by
  unfold Station.framerTake
  dsimp only
  split
  · exact .refl s
  · exact .refl s
  · split
    · exact (Station.overrunGap_changes s _).then (Station.frameSymbol_changes _ h _ _) rfl rfl
    · exact Station.frameSymbol_changes s h _ _

theorem Station.symbolArrives_changes (h : Head) (x : Symbol) :
    Changes [.receivers, .headCounts, .flags] s (s.symbolArrives h x) := by
  unfold Station.symbolArrives
  split
  · exact .refl s
  · dsimp only
    split
    · exact (Station.withReceiver_changes s h _).mono rfl
    · exact ((Station.withReceiver_changes s h _).then (changes_headCounts _ _) rfl rfl :
        Changes [.receivers, .headCounts] s _).then (Station.raise_changes _ _) rfl rfl

/-! ### The lane -/

/-- Two stations that differ only in the Key Builder's counts. -/
theorem changes_keyCounts (c : KeyCounts) : Changes [.keyCounts] s { s with keyCounts := c } := by
  intro b hb
  cases b <;> first
    | rfl
    | exact ⟨rfl, rfl⟩
    | exact ⟨rfl, rfl, rfl⟩
    | exact ⟨rfl, rfl, rfl, rfl, rfl⟩
    | exact absurd (by decide) hb

theorem Station.writeOutcome_changes (r : ItemRef) (o : IdOutcome) (k : Option Key) (m : Bool) :
    Changes [.items] s (s.writeOutcome r o k m) := Station.modifyItem_changes s r _

theorem Station.identifierClose_changes (r : ItemRef) (late : Bool) :
    Changes [.items, .keyCounts, .context, .trackerCounts, .entries, .tableCounts, .tally, .claimCounts, .txQueue,
      .linkCounts, .overflow, .recordCounts, .flags] s (s.identifierClose r late) := by
  have st := fun (t : Station) (u : Bool) (h : Changes [.items, .keyCounts] s t) =>
    (h.then (Station.stampItem_changes t r u) rfl rfl :
      Changes [.items, .keyCounts, .context, .trackerCounts, .entries, .tableCounts, .txQueue, .overflow, .recordCounts,
        .flags] s _)
  have w := fun o k m => (Station.writeOutcome_changes s r o k m).mono (cs := [.items, .keyCounts]) rfl
  unfold Station.identifierClose
  split
  · exact .refl s
  · split
    · exact (st _ _ (w _ _ _)).mono rfl
    · split
      · exact (st _ _ (w _ _ _)).then (Station.takeKey_changes _ r _) rfl rfl
      · exact (Station.writeOutcome_changes s r _ _ _).then (Station.takeSlip_changes _ _) rfl rfl
      · exact (st _ _ (w _ _ _)).mono rfl
      · exact (st _ _ ((Station.writeOutcome_changes s r _ _ _).then (changes_keyCounts _ _) rfl rfl)).mono rfl

/-- A late identifier close hands no key on: nothing is claimed and no tally is taken (R48). -/
theorem Station.identifierClose_late_changes (r : ItemRef) :
    Changes [.items, .context, .trackerCounts, .entries, .tableCounts, .txQueue, .overflow, .recordCounts, .flags] s
      (s.identifierClose r true) := by
  unfold Station.identifierClose
  split
  · exact .refl s
  · simp only [Bool.true_or, if_true]
    exact (Station.writeOutcome_changes s r _ _ _).then (Station.stampItem_changes _ r _) rfl rfl

theorem Station.createItem_changes : Changes [.items, .nextRef, .sensorOwner, .calibration] s s.createItem := by
  have h : ∀ (l : List Item) (n : ItemRef) (o : Option ItemRef), Changes [.items, .nextRef, .sensorOwner] s
      { s with lane := { s.lane with queue := l, nextRef := n, sensorOwner := o } } := by
    intro l n o b hb
    cases b <;> first
      | rfl
      | exact ⟨rfl, rfl⟩
      | exact ⟨rfl, rfl, rfl⟩
      | exact ⟨rfl, rfl, rfl, rfl, rfl⟩
      | exact absurd (by decide) hb
  unfold Station.createItem
  dsimp only
  split
  · exact (h _ _ _).then (Station.scaleWindowOpens_changes _ _) rfl rfl
  · exact (h _ _ _).mono rfl

theorem Station.leadingEdge_changes :
    Changes [.items, .nextRef, .sensorOwner, .calibration, .laneCounts, .flags] s s.leadingEdge := by
  unfold Station.leadingEdge
  split
  · exact .refl s
  · split
    · exact (Station.createItem_changes s).mono rfl
    · exact (Station.countLane_changes s _).then (Station.raise_changes _ _) rfl rfl

/-- Two stations that differ only in the sensor owner. -/
theorem changes_sensorOwner (o : Option ItemRef) :
    Changes [.sensorOwner] s { s with lane := { s.lane with sensorOwner := o } } := by
  intro b hb
  cases b <;> first
    | rfl
    | exact ⟨rfl, rfl⟩
    | exact ⟨rfl, rfl, rfl⟩
    | exact ⟨rfl, rfl, rfl, rfl, rfl⟩
    | exact absurd (by decide) hb

/-- Two stations that differ only in the diverter. -/
theorem changes_diverter (c : Chute) (o : Option ItemRef) :
    Changes [.diverter] s { s with lane := { s.lane with diverterChute := c, diverterHolder := o } } := by
  intro b hb
  cases b <;> first
    | rfl
    | exact ⟨rfl, rfl⟩
    | exact ⟨rfl, rfl, rfl⟩
    | exact ⟨rfl, rfl, rfl, rfl, rfl⟩
    | exact absurd (by decide) hb

theorem Station.trailingEdgeOf_changes (i : Item) :
    Changes [.items, .laneCounts, .buffers, .calibration, .flags] s (s.trailingEdgeOf i) := by
  unfold Station.trailingEdgeOf
  split
  · split
    · exact (Station.removeItem_changes s _ _).then (Station.countLane_changes _ _) rfl rfl
    · exact (Station.modifyItem_changes s _ _).mono rfl
  · exact (Station.modifyItem_changes s _ _).mono rfl
  · exact (Station.modifyItem_changes s _ _).mono rfl
  all_goals exact .refl s

theorem Station.trailingEdge_changes :
    Changes [.items, .sensorOwner, .laneCounts, .buffers, .calibration, .flags] s s.trailingEdge := by
  unfold Station.trailingEdge
  split
  · exact .refl s
  · split
    · exact .refl s
    · dsimp only
      split
      · exact (changes_sensorOwner s _).mono rfl
      · exact (changes_sensorOwner s _).then (Station.trailingEdgeOf_changes _ _) rfl rfl

theorem Station.overlongCloseOff_changes : Changes [.items, .sensorOwner] s s.overlongCloseOff := by
  unfold Station.overlongCloseOff
  split
  · exact .refl s
  · split
    · exact .refl s
    · split
      · exact (changes_sensorOwner s _).then (Station.modifyItem_changes _ _ _) rfl rfl
      · exact .refl s

theorem Station.windowOpens_changes (r : ItemRef) (h : Head) : Changes [.items, .calibration] s (s.windowOpens r h) := by
  unfold Station.windowOpens
  split
  · exact .refl s
  · split
    · cases h
      · exact (Station.modifyItem_changes s r _).mono rfl
      · exact (Station.modifyItem_changes s r _).mono rfl
      · exact (Station.modifyItem_changes s r _).then (Station.scaleWindowOpens_changes _ r) rfl rfl
      · exact (Station.modifyItem_changes s r _).mono rfl
    · exact .refl s

theorem Station.deliverClose_changes (i : Item) (h : Head) :
    Changes [.items, .keyCounts, .buffers, .calibration, .measureCounts, .context, .trackerCounts, .entries, .tableCounts,
      .tally, .claimCounts, .txQueue, .linkCounts, .overflow, .recordCounts, .flags] s (s.deliverClose i h) := by
  cases h <;> simp only [Station.deliverClose]
  · split
    · exact (Station.identifierClose_changes s _ _).mono rfl
    · exact .refl s
  · split
    · exact (Station.identifierClose_changes s _ _).mono rfl
    · exact .refl s
  · exact (Station.scaleClose_changes s _).mono rfl
  · exact (Station.gaugeClose_changes s _).mono rfl

theorem Station.windowCloses_changes (r : ItemRef) (h : Head) :
    Changes [.items, .keyCounts, .buffers, .calibration, .measureCounts, .context, .trackerCounts, .entries, .tableCounts,
      .tally, .claimCounts, .txQueue, .linkCounts, .overflow, .recordCounts, .flags] s (s.windowCloses r h) := by
  unfold Station.windowCloses
  split
  · exact .refl s
  · split
    · exact .refl s
    · split
      · exact (Station.modifyItem_changes s r _).then (Station.deliverClose_changes _ _ h) rfl rfl
      · exact .refl s

theorem Station.identifierPacket_changes (i : Item) (h : Head) (p : Packet) :
    Changes [.items, .keyCounts] s (s.identifierPacket i h p) := by
  unfold Station.identifierPacket
  dsimp only
  split
  · exact (Station.modifyItem_changes s _ _).then (changes_keyCounts _ _) rfl rfl
  · exact (Station.modifyItem_changes s _ _).mono rfl

theorem Station.givePacket_changes (i : Item) (h : Head) (p : Packet) :
    Changes [.items, .keyCounts, .buffers, .measureCounts] s (s.givePacket i h p) := by
  cases h <;> simp only [Station.givePacket]
  · exact (Station.identifierPacket_changes s i _ p).mono rfl
  · exact (Station.identifierPacket_changes s i _ p).mono rfl
  · exact (Station.scalePacket_changes s i _ _).mono rfl
  · exact (Station.gaugePacket_changes s _ _).mono rfl

theorem Station.countStray_changes : Changes [.laneCounts] s s.countStray := Station.countLane_changes s _

theorem Station.strayPacket_changes (h : Head) (p : Packet) :
    Changes [.laneCounts, .tare, .measureCounts, .flags] s (s.strayPacket h p) := by
  cases h <;> simp only [Station.strayPacket]
  · exact (Station.countStray_changes s).mono rfl
  · exact (Station.countStray_changes s).mono rfl
  · exact (Station.emptyPacket_changes s _).mono rfl
  · exact (Station.countStray_changes s).mono rfl

theorem Station.crowdedPacket_changes (h : Head) (p : Packet) : Changes [.items, .laneCounts] s (s.crowdedPacket h p) :=
  (changes_items s _).then (Station.countLane_changes _ _) rfl rfl

theorem Station.attribute_changes (h : Head) (p : Packet) :
    Changes [.items, .laneCounts, .keyCounts, .buffers, .tare, .measureCounts, .flags] s (s.attribute h p) := by
  unfold Station.attribute
  split
  · exact (Station.strayPacket_changes s h p).mono rfl
  · split
    · exact (Station.countStray_changes s).mono rfl
    · exact (Station.givePacket_changes s _ h p).mono rfl
  · exact (Station.crowdedPacket_changes s h p).mono rfl

theorem Station.handsOver_changes (h : Head) :
    Changes [.items, .laneCounts, .receivers, .keyCounts, .buffers, .tare, .measureCounts, .flags] s (s.handsOver h) := by
  unfold Station.handsOver
  split
  · exact (Station.withReceiver_changes s h _).then (Station.attribute_changes _ h _) rfl rfl
  all_goals exact .refl s

theorem Station.fixChute_changes (r : ItemRef) : Changes [.items, .context, .recordCounts] s (s.fixChute r) := by
  unfold Station.fixChute
  split
  · exact .refl s
  · dsimp only
    split
    · exact ((Station.modifyItem_changes s r _).then (Station.modifyContext_changes _ _) rfl rfl :
        Changes [.items, .context] s _).then (Station.countDisposed_changes _ _) rfl rfl
    · exact (Station.modifyItem_changes s r _).then (Station.countDisposed_changes _ _) rfl rfl

theorem Station.lateCloses_changes (i : Item) :
    Changes [.items, .buffers, .calibration, .context, .trackerCounts, .entries, .tableCounts, .txQueue, .overflow,
      .recordCounts, .flags] s (s.lateCloses i) := by
  have h1 : ∀ f, Changes [.items, .buffers, .calibration, .context, .trackerCounts, .entries, .tableCounts, .txQueue,
      .overflow, .recordCounts, .flags] s (s.modifyItem i.ref f) := fun f => (Station.modifyItem_changes s _ f).mono rfl
  have h2 : ∀ t, Changes [.items, .buffers, .calibration, .context, .trackerCounts, .entries, .tableCounts, .txQueue,
      .overflow, .recordCounts, .flags] t (t.identifierClose i.ref true) := fun t =>
    (Station.identifierClose_late_changes t _).mono rfl
  have h3 : ∀ t, Changes [.items, .buffers, .calibration, .context, .trackerCounts, .entries, .tableCounts, .txQueue,
      .overflow, .recordCounts, .flags] t (t.lateScaleClose i.ref) := fun t => (Station.lateScaleClose_changes t _).mono rfl
  have h4 : ∀ t, Changes [.items, .buffers, .calibration, .context, .trackerCounts, .entries, .tableCounts, .txQueue,
      .overflow, .recordCounts, .flags] t (t.lateGaugeClose i.ref) := fun t => (Station.lateGaugeClose_changes t _).mono rfl
  exact Changes.step (Changes.step (Changes.step (h1 _) (h2 _)) (h3 _)) (h4 _)

theorem Station.decisionDue_changes (r : ItemRef) :
    Changes [.items, .buffers, .calibration, .context, .trackerCounts, .entries, .tableCounts, .claimCounts, .txQueue,
      .linkCounts, .overflow, .recordCounts, .flags, .announce] s (s.decisionDue r) := by
  have tail : ∀ t, Changes [.items, .buffers, .calibration, .context, .trackerCounts, .entries, .tableCounts, .claimCounts,
      .txQueue, .linkCounts, .overflow, .recordCounts, .flags, .announce] t
      ((((t.finalizeItem r).endWait r).fixChute r).modifyItem r (fun x => { x with lane := .decided })) := fun t =>
    (((Station.finalizeItem_changes t r).then (Station.endWait_changes _ r) rfl rfl :
      Changes [.items, .entries, .claimCounts, .txQueue, .linkCounts, .flags, .overflow, .buffers, .calibration,
        .announce] t _).then (Station.fixChute_changes _ r) rfl rfl :
      Changes [.items, .context, .entries, .claimCounts, .txQueue, .linkCounts, .flags, .overflow, .buffers, .calibration,
        .announce, .recordCounts] t _).then (Station.modifyItem_changes _ r _) rfl rfl
  unfold Station.decisionDue
  split
  · exact .refl s
  · split
    · dsimp only
      split
      · exact tail s
      · exact ((Station.lateCloses_changes s _).mono rfl).trans (tail _)
    · exact .refl s

theorem Station.checkHolder_changes (i : Item) : Changes [.items] s (s.checkHolder i) := by
  unfold Station.checkHolder
  split
  · exact .refl s
  · exact Station.modifyItem_changes s _ _

theorem Station.divertPoint_changes (r : ItemRef) : Changes [.items, .diverter] s (s.divertPoint r) := by
  unfold Station.divertPoint
  split
  · exact .refl s
  · split
    · exact ((Station.checkHolder_changes s _).trans (Station.modifyItem_changes _ r _)).then (changes_diverter _ _ _) rfl rfl
    · exact .refl s

theorem Station.releaseDiverter_changes (r : ItemRef) : Changes [.diverter] s (s.releaseDiverter r) := by
  unfold Station.releaseDiverter
  split
  · exact changes_diverter s _ _
  · exact .refl s

theorem Station.disposeDeparted_changes (i : Item) :
    Changes [.txQueue, .overflow, .items, .buffers, .calibration, .flags] s (s.disposeDeparted i) := by
  unfold Station.disposeDeparted
  split
  · exact (Station.removeItem_changes s _ _).mono rfl
  · exact Station.offerDeposit_changes s i true

theorem Station.departs_changes (r : ItemRef) :
    Changes [.diverter, .txQueue, .overflow, .items, .buffers, .calibration, .flags] s (s.departs r) := by
  unfold Station.departs
  split
  · exact .refl s
  · split
    · exact .refl s
    · split
      · exact ((Station.modifyItem_changes s r _).then (Station.releaseDiverter_changes _ r) rfl rfl :
          Changes [.items, .diverter] s _).then (Station.disposeDeparted_changes _ _) rfl rfl
      · exact .refl s

/-! ### The line -/

/-- Two stations that differ only in what the station does on the line and knows of it. -/
theorem changes_line (a : Sending) (b : Bool) (c : Nat) (d : Bool) (e : Reception) :
    Changes [.line] s { s with link := { s.link with sending := a, holding := b, chain := c, lineIdle := d, reception := e } } := by
  intro b hb
  cases b <;> first
    | rfl
    | exact ⟨rfl, rfl⟩
    | exact ⟨rfl, rfl, rfl⟩
    | exact ⟨rfl, rfl, rfl, rfl, rfl⟩
    | exact absurd (by decide) hb

/-- Two stations that differ only in the line and the transmit queue. -/
theorem changes_line_txQueue (a : Sending) (b : Bool) (c : Nat) (d : Bool) (e : Reception) (q : List TxFrame) :
    Changes [.line, .txQueue] s { s with link := { s.link with
      sending := a, holding := b, chain := c, lineIdle := d, reception := e, txQueue := q } } := by
  intro b hb
  cases b <;> first
    | rfl
    | exact ⟨rfl, rfl⟩
    | exact ⟨rfl, rfl, rfl⟩
    | exact ⟨rfl, rfl, rfl, rfl, rfl⟩
    | exact absurd (by decide) hb

/-- Two stations that differ only in the line and the Link Controller's counts. -/
theorem changes_line_counts (a : Sending) (b : Bool) (c : Nat) (d : Bool) (e : Reception) (n : LinkCounts) :
    Changes [.line, .linkCounts] s { s with link := { s.link with
      sending := a, holding := b, chain := c, lineIdle := d, reception := e, counts := n } } := by
  intro b hb
  cases b <;> first
    | rfl
    | exact ⟨rfl, rfl⟩
    | exact ⟨rfl, rfl, rfl⟩
    | exact ⟨rfl, rfl, rfl, rfl, rfl⟩
    | exact absurd (by decide) hb

theorem Station.afterSampling_changes (b : Body) : Changes [.pendingStatus, .flags] s (s.afterSampling b) := by
  unfold Station.afterSampling
  split
  · exact (Station.applyMask_changes s _).mono rfl
  · exact .refl s

theorem Station.beginAt_changes (n : Nat) : Changes [.txQueue, .line, .pendingStatus, .flags] s (s.beginAt n) := by
  unfold Station.beginAt
  split
  · exact .refl s
  · exact (Station.afterSampling_changes s _).then (changes_line_txQueue _ _ _ _ _ _ _) rfl rfl

theorem Station.attemptBegins_changes : Changes [.txQueue, .line, .pendingStatus, .flags] s s.attemptBegins := by
  unfold Station.attemptBegins
  split
  · split
    · exact (changes_line s _ _ _ _ _).then (Station.beginAt_changes _ _) rfl rfl
    · exact .refl s
  · exact .refl s

theorem Station.chainContinues_changes : Changes [.txQueue, .line, .pendingStatus, .flags] s s.chainContinues := by
  unfold Station.chainContinues
  split
  · split
    · exact Station.beginAt_changes s _
    · exact (Station.releaseLine_changes s).mono rfl
  · exact .refl s

/-- Two stations that differ only in the Link Controller's counts. -/
theorem changes_linkCounts (c : LinkCounts) : Changes [.linkCounts] s { s with link := { s.link with counts := c } } :=
  Station.countLink_changes s (fun _ => c)

theorem Station.collides_changes : Changes [.line, .linkCounts] s s.collides := by
  unfold Station.collides
  split
  · exact changes_line_counts s _ _ _ _ _ _
  all_goals exact .refl s

theorem Station.abandon_changes (b : Body) :
    Changes [.txQueue, .overflow, .items, .buffers, .calibration, .flags, .linkCounts, .announce, .entries, .claimCounts] s
      (s.abandon b) := by
  have h : Changes [.txQueue, .overflow, .items, .buffers, .calibration, .flags, .linkCounts, .announce] s
      s.countAbandon.departOnLine := (Station.countAbandon_changes s).then (Station.departOnLine_changes _) rfl rfl
  unfold Station.abandon
  dsimp only
  split
  · exact h.then (Station.claimAbandoned_changes _ _ _) rfl rfl
  · exact h.then (Station.raise_changes _ _) rfl rfl
  · exact h.then (Station.raise_changes _ _) rfl rfl
  · exact (h.then (Station.raise_changes _ _) rfl rfl :
      Changes [.txQueue, .overflow, .items, .buffers, .calibration, .flags, .linkCounts, .announce] s _).then
      (Station.offerAnnounce_changes _) rfl rfl
  all_goals exact h.mono rfl

theorem Station.jamEnds_changes :
    Changes [.line, .generator, .txQueue, .overflow, .items, .buffers, .calibration, .flags, .linkCounts, .announce, .entries,
      .claimCounts] s s.jamEnds := by
  have h := changes_line s .quiet s.link.holding s.link.chain s.link.lineIdle .seeking
  unfold Station.jamEnds
  split
  · dsimp only
    split
    · exact h.mono rfl
    · split
      · exact h.then (Station.departOnLine_changes _) rfl rfl
      · split
        · exact h.then (Station.backOff_changes _ _) rfl rfl
        · split
          · exact h.then (Station.abandon_changes _ _) rfl rfl
          · exact h.then (Station.backOff_changes _ _) rfl rfl
  · exact .refl s

theorem Station.backoffExpires_changes (n : Nat) : Changes [.txQueue] s (s.backoffExpires n) := by
  unfold Station.backoffExpires
  split
  · exact .refl s
  · split
    · exact changes_txQueue s _
    all_goals exact .refl s

theorem Station.countChain_changes : Changes [.line] s s.countChain := by
  unfold Station.countChain
  split
  · exact changes_line s _ _ _ _ _
  · exact Station.releaseLine_changes s

theorem Station.tellCompleted_changes (f : TxFrame) :
    Changes [.items, .claimCounts, .txQueue, .linkCounts, .flags, .stationState, .announce] s (s.tellCompleted f) := by
  unfold Station.tellCompleted
  split
  · split
    · exact (Station.offerWithdraw_changes s _ _ _).mono rfl
    · exact (Station.claimSent_changes s _ _).mono rfl
  · exact (Station.announced_changes s).mono rfl
  all_goals exact .refl s

theorem Station.attemptCompletes_changes :
    Changes [.line, .linkCounts, .claimCounts, .stationState, .txQueue, .overflow, .items, .buffers, .calibration, .flags,
      .announce] s s.attemptCompletes := by
  unfold Station.attemptCompletes
  split
  · dsimp only
    have h : ∀ c, Changes [.line, .linkCounts] s (Station.countChain { s with link := { s.link with
        sending := .quiet, reception := .seeking, counts := c } }) := fun c =>
      ((changes_line s .quiet s.link.holding s.link.chain s.link.lineIdle .seeking).then (changes_linkCounts _ c) rfl rfl :
        Changes [.line, .linkCounts] s _).then (Station.countChain_changes _) rfl rfl
    split
    · exact (h _).mono rfl
    · exact ((h _).then (Station.departOnLine_changes _) rfl rfl :
        Changes [.line, .linkCounts, .txQueue, .overflow, .items, .buffers, .calibration, .flags, .announce] s _).then
        (Station.tellCompleted_changes _ _) rfl rfl
  all_goals exact .refl s

theorem Station.lineGoesIdle_changes : Changes [.line] s s.lineGoesIdle := by
  unfold Station.lineGoesIdle
  split
  · dsimp only
    split
    · exact (Station.releaseLine_changes s).trans (changes_line _ _ _ _ _ _)
    · exact changes_line s _ _ _ _ _
  · exact .refl s

theorem Station.lineLeaves_changes : Changes [.line] s s.lineLeaves := by
  unfold Station.lineLeaves
  split
  · exact changes_line s _ _ _ _ _
  · exact .refl s

theorem Station.leadIsFound_changes : Changes [.line] s s.leadIsFound := by
  unfold Station.leadIsFound
  split
  · exact changes_line s _ _ _ _ _
  · exact .refl s

theorem Station.lineError_changes : Changes [.line, .linkCounts] s s.lineError := by
  unfold Station.lineError
  split
  · exact Station.checkFails_changes s
  · exact .refl s

/-! ### Start-up, lane restart, reception -/

theorem Station.powersOn_changes : Changes (touches .powerOn) s s.powersOn := by
  intro b hb
  cases b <;> first
    | rfl
    | exact absurd (by decide) hb

theorem Station.configRead_changes (block : ConfigBlock) :
    Changes [.factor, .line, .generator, .flags, .stationState, .settings, .joinTimer] s (s.configRead block) := by
  have h1 : ∀ c, Changes [.factor, .line, .flags, .settings] s (s.takeSettings c) := fun c =>
    (Station.takeSettings_changes s c).mono rfl
  have h2 : ∀ t : Station, Changes [.factor, .line, .flags, .settings] t (t.raise .configAdjusted) := fun t =>
    (Station.raise_changes t _).mono rfl
  have h3 : Changes [.factor, .line, .flags, .settings] s (if configAdjusted block = true then
      (s.takeSettings (configuredSettings block)).raise .configAdjusted else s.takeSettings (configuredSettings block)) :=
    Changes.step (h1 _) (h2 _)
  unfold Station.configRead
  split
  · exact .refl s
  · split
    · exact (h1 _).then (Station.enterListenOnly_changes _) rfl rfl
    · dsimp only
      generalize (if configAdjusted block = true then
        (s.takeSettings (configuredSettings block)).raise .configAdjusted else s.takeSettings (configuredSettings block)) = t at h3
      split
      · exact h3.then (Station.enterListenOnly_changes _) rfl rfl
      · exact h3.then (Station.enterJoining_changes _ _) rfl rfl

theorem Station.joinQuietEnds_changes :
    Changes [.gate, .joinTimer, .announce, .txQueue, .linkCounts, .flags] s s.joinQuietEnds := by
  have h : Changes [.gate, .joinTimer] s { s with
      link := { s.link with gateOpen := true }, startup := { s.startup with joinTimer := none } } := by
    intro b hb
    cases b <;> first
      | rfl
      | exact ⟨rfl, rfl⟩
      | exact ⟨rfl, rfl, rfl⟩
      | exact ⟨rfl, rfl, rfl, rfl, rfl⟩
      | exact absurd (by decide) hb
  unfold Station.joinQuietEnds
  split
  · exact .refl s
  · split
    · exact h.then (Station.offerAnnounce_changes _) rfl rfl
    · exact .refl s

theorem Station.removeDeparted_changes : Changes [.items, .buffers, .calibration, .flags] s s.removeDeparted :=
  Changes.foldl (f := fun (t : Station) (i : Item) => t.removeItem i.ref true)
    (fun t i => Station.removeItem_changes t i.ref true) _ s

theorem Station.stopRecords_changes :
    Changes [.overflow, .pendingStatus, .items, .buffers, .calibration, .flags] s s.stopRecords :=
  ((changes_overflow s none).then (changes_pendingStatus _ _) rfl rfl : Changes [.overflow, .pendingStatus] s _).then
    (Station.removeDeparted_changes _) rfl rfl

theorem Station.stopClaims_changes : Changes [.items, .entries] s s.stopClaims :=
  (changes_items s _).then (Station.removeOwnClaims_changes _) rfl rfl

theorem Station.duplicateId_changes :
    Changes [.stationState, .joinTimer, .announce, .flags, .txQueue, .gate, .items, .entries, .overflow, .pendingStatus,
      .buffers, .calibration] s s.duplicateId := by
  have h : Changes [.stationState, .joinTimer, .announce] s
      { s with startup := { s.startup with state := .listenOnly, joinTimer := none, announce := .none } } := by
    intro b hb
    cases b <;> first
      | rfl
      | exact ⟨rfl, rfl⟩
      | exact ⟨rfl, rfl, rfl⟩
      | exact ⟨rfl, rfl, rfl, rfl, rfl⟩
      | exact absurd (by decide) hb
  unfold Station.duplicateId
  split
  · exact (((h.then (Station.raise_changes _ _) rfl rfl :
      Changes [.stationState, .joinTimer, .announce, .flags] s _).then (Station.flushTransmit_changes _) rfl rfl :
      Changes [.stationState, .joinTimer, .announce, .flags, .txQueue, .gate] s _).then (Station.stopClaims_changes _) rfl rfl :
      Changes [.stationState, .joinTimer, .announce, .flags, .txQueue, .gate, .items, .entries] s _).then
      (Station.stopRecords_changes _) rfl rfl
  · exact .refl s

theorem Station.laneRestart_changes :
    Changes [.items, .sensorOwner, .diverter, .receivers, .buffers, .calibration, .context, .entries, .claimCounts, .txQueue,
      .linkCounts, .overflow, .recordCounts, .flags, .announce] s s.laneRestart := by
  have h1 : Changes [.items, .claimCounts, .txQueue, .linkCounts, .flags, .overflow, .buffers, .calibration, .announce] s
      (s.lane.queue.foldl Station.restartClaim s) := Changes.foldl Station.restartClaim_changes _ s
  have h2 : ∀ t : Station, Changes [.receivers, .buffers, .calibration] t { t with
      receivers := PerHead.same Receiver.restarted, measurement := t.measurement.restarted } := by
    intro t b hb
    cases b <;> first
      | rfl
      | exact ⟨rfl, rfl⟩
      | exact ⟨rfl, rfl, rfl⟩
      | exact ⟨rfl, rfl, rfl, rfl, rfl⟩
      | exact absurd (by decide) hb
  exact ((((h1.then (Station.removeOwnClaims_changes _) rfl rfl :
    Changes [.items, .claimCounts, .txQueue, .linkCounts, .flags, .overflow, .buffers, .calibration, .announce, .entries]
      s _).then (Station.clearLane_changes _) rfl rfl :
    Changes [.items, .claimCounts, .txQueue, .linkCounts, .flags, .overflow, .buffers, .calibration, .announce, .entries,
      .sensorOwner, .diverter] s _).then (Station.closeContext_changes _ _) rfl rfl :
    Changes [.items, .claimCounts, .txQueue, .linkCounts, .flags, .overflow, .buffers, .calibration, .announce, .entries,
      .sensorOwner, .diverter, .context, .recordCounts] s _)).then (h2 _) rfl rfl

theorem Station.restartPressed_changes :
    Changes [.restartInput, .items, .sensorOwner, .diverter, .receivers, .buffers, .calibration, .context, .entries,
      .claimCounts, .txQueue, .linkCounts, .overflow, .recordCounts, .flags, .announce] s s.restartPressed := by
  have h : Changes [.restartInput] s { s with startup := { s.startup with restartInput := true } } := by
    intro b hb
    cases b <;> first
      | rfl
      | exact ⟨rfl, rfl⟩
      | exact ⟨rfl, rfl, rfl⟩
      | exact ⟨rfl, rfl, rfl, rfl, rfl⟩
      | exact absurd (by decide) hb
  unfold Station.restartPressed
  split
  · exact .refl s
  · dsimp only
    split
    · exact h.then (Station.laneRestart_changes _) rfl rfl
    · exact h.mono rfl

theorem Station.enqueueReceived_changes (f : RxFrame) :
    Changes [.rxQueue, .linkCounts, .flags, .items] s (s.enqueueReceived f) := by
  unfold Station.enqueueReceived
  split
  · exact (changes_rxQueue s _).mono rfl
  · exact ((Station.countLink_changes s _).then (Station.raise_changes _ _) rfl rfl :
      Changes [.linkCounts, .flags] s _).then (Station.markAllUnconfirmed_changes _) rfl rfl

theorem Station.ownIdReport_changes (f : RxFrame) :
    Changes [.stationState, .joinTimer, .announce, .flags, .txQueue, .gate, .items, .entries, .overflow, .pendingStatus,
      .buffers, .calibration] s (s.ownIdReport f) := by
  unfold Station.ownIdReport
  split
  · exact Station.duplicateId_changes s
  · exact .refl s

theorem Station.frameTaken_changes (f : RxFrame) :
    Changes [.line, .linkCounts, .rxQueue, .stationState, .joinTimer, .announce, .flags, .txQueue, .gate, .items, .entries,
      .overflow, .pendingStatus, .buffers, .calibration] s (s.frameTaken f) := by
  unfold Station.frameTaken
  split
  · exact ((changes_line s s.link.sending s.link.holding s.link.chain s.link.lineIdle .seeking).then
      (Station.ownIdReport_changes _ f) rfl rfl : Changes [.line, .stationState, .joinTimer, .announce, .flags, .txQueue,
      .gate, .items, .entries, .overflow, .pendingStatus, .buffers, .calibration] s _).then
      (Station.enqueueReceived_changes _ f) rfl rfl
  · exact (Station.checkFails_changes s).mono rfl

theorem Station.frameEnds_changes (bits : List Bool) :
    Changes [.line, .linkCounts, .rxQueue, .stationState, .joinTimer, .announce, .flags, .txQueue, .gate, .items, .entries,
      .overflow, .pendingStatus, .buffers, .calibration] s (s.frameEnds bits) := by
  unfold Station.frameEnds
  split
  · split
    · exact Station.frameTaken_changes s _
    · exact (Station.checkFails_changes s).mono rfl
    · exact (changes_line s s.link.sending s.link.holding s.link.chain s.link.lineIdle .seeking).mono rfl
    · exact .refl s
  · exact .refl s

/-! ### Deliveries -/

/-- The front frame taken: the receive queue loses it, and nothing else changes. -/
theorem Station.takeFront_changes {d : Delivery} {f : RxFrame} {t : Station} (h : s.takeFront d = some (f, t)) :
    Changes [.rxQueue] s t := by
  unfold Station.takeFront at h
  split at h
  · cases h
  · split at h
    · cases h
      exact changes_rxQueue s _
    · cases h

/-- A delivery touches the receive queue and what its use of the frame touches. -/
theorem Station.deliver_changes {bs : List Block} (d : Delivery) (use : RxFrame → Station → Station)
    (hq : Block.rxQueue ∈ bs) (hu : ∀ f t, Changes bs t (use f t)) : Changes bs s (s.deliver d use) := by
  unfold Station.deliver
  split
  · exact .refl s
  · rename_i f t h
    refine Changes.trans (t := t) ?_ (hu f t)
    intro b hb
    exact Station.takeFront_changes s h b (fun hm => hb (by simp only [List.mem_singleton] at hm; exact hm ▸ hq))

/-- A station's frame touches the tally, the table's counts and what its merge touches. -/
theorem Station.stationFrame_changes {bs : List Block} (f : RxFrame) (u : Bool) (merge : Key → Station → Station)
    (ht : Block.tally ∈ bs) (hc : Block.tableCounts ∈ bs) (hm : ∀ k t, Changes bs t (merge k t)) :
    Changes bs s (s.stationFrame f u merge) := by
  have one : ∀ (x : Block) (a b : Station), x ∈ bs → Changes [x] a b → Changes bs a b := fun x a b hx h y hy =>
    h y (fun hm => hy (by simp only [List.mem_singleton] at hm; exact hm ▸ hx))
  unfold Station.stationFrame
  split
  · exact one _ _ _ hc (Station.countUnusable_changes s)
  · dsimp only
    split
    · exact (one _ _ _ ht (Station.adopt_changes s _)).trans (hm _ _)
    · exact (one _ _ _ ht (Station.adopt_changes s _)).trans (one _ _ _ hc (Station.countUnusable_changes _))

theorem Station.deliverClaim_changes (f : RxFrame) :
    Changes [.items, .context, .entries, .tableCounts, .tally, .claimCounts, .txQueue, .linkCounts, .flags] s
      (s.deliverClaim f) :=
  Station.stationFrame_changes s f true _ (by decide) (by decide)
    (fun k t => (Station.mergeClaim_changes t k _ _ _ _ _).mono rfl)

theorem Station.deliverCommit_changes (f : RxFrame) :
    Changes [.items, .context, .entries, .tableCounts, .tally, .claimCounts, .txQueue, .linkCounts, .flags, .overflow,
      .recordCounts] s (s.deliverCommit f) :=
  Station.stationFrame_changes s f _ _ (by decide) (by decide)
    (fun k t => (Station.mergeCommit_changes t k _ _ _ _).mono rfl)

theorem Station.deliverWithdraw_changes (f : RxFrame) :
    Changes [.items, .entries, .tableCounts, .tally, .claimCounts, .txQueue, .linkCounts, .flags] s (s.deliverWithdraw f) :=
  Station.stationFrame_changes s f true _ (by decide) (by decide)
    (fun k t => (Station.mergeWithdraw_changes t k _ _).mono rfl)

theorem Station.deliverHoldings_changes (f : RxFrame) :
    Changes [.items, .context, .entries, .tableCounts, .tally, .claimCounts, .txQueue, .linkCounts, .flags, .overflow,
      .recordCounts] s (s.deliverHoldings f) := by
  unfold Station.deliverHoldings
  dsimp only
  split
  · exact (Station.adopt_changes s _).then (Station.mergeHoldings_changes _ _ _ _ _) rfl rfl
  · exact (Station.adopt_changes s _).then (Station.countUnusable_changes _) rfl rfl

theorem Station.requestStatus_changes (g : StatusGroup) (m : BitVec 13) :
    Changes [.txQueue, .overflow, .recordCounts, .pendingStatus] s (s.requestStatus g m) := by
  unfold Station.requestStatus
  split
  · exact .refl s
  · split
    · exact (changes_pendingStatus s _).mono rfl
    · dsimp only
      split
      · exact (Station.offerRecord_changes s _).mono rfl
      · exact (Station.offerRecord_changes s _).then (changes_pendingStatus _ _) rfl rfl

end Sys2Proof.Machine
end

