-- ==== Sys2Proof/Laws/Ops.lean ====
section
/-! SUPPORT. What the shared operations give back: an item or an entry read after it is written, others left as they were;
what removal and an offer leave; what insertion into a claim list, the search for a lead and the taking of bits come to; an own commit in the words of the
claims; and what a meaning and a step answer. -/

namespace Sys2Proof.Machine

variable (s : Station)

/-- A meaning made of an operation answers the station after it, with the same commands waiting. -/
@[simp] theorem State.run_eq (f : Station → Station) (m : State) : m.run f = .next { m with station := f m.station } := rfl

/-- A step with a command in front is that command's meaning on the rest. -/
theorem step_front (c : Instr) (x : Station) (q : List Instr) : step ⟨x, c :: q⟩ = exec c ⟨x, q⟩ := rfl

/-! ### Items -/

/-- An item written by its ref reads as written. -/
theorem Station.findItem_modifyItem (ref : ItemRef) (f : Item → Item) (h : ∀ i : Item, i.ref = ref → (f i).ref = ref) :
    (s.modifyItem ref f).findItem ref = (s.findItem ref).map f := by
  unfold Station.findItem Station.modifyItem
  dsimp only
  induction s.lane.queue with
  | nil => rfl
  | cons i l ih =>
    by_cases e : i.ref = ref
    · simp [e, h i e]
    · simpa [e] using ih

/-- Any other item reads as before. -/
theorem Station.findItem_modifyItem_other (ref other : ItemRef) (f : Item → Item) (h : ∀ i : Item, (f i).ref = i.ref)
    (ne : other ≠ ref) : (s.modifyItem ref f).findItem other = s.findItem other := by
  unfold Station.findItem Station.modifyItem
  dsimp only
  induction s.lane.queue with
  | nil => rfl
  | cons i l ih =>
    by_cases e : i.ref = ref
    · have : ¬ ref = other := fun k => ne k.symm
      simpa [e, h i, this] using ih
    · by_cases o : i.ref = other
      · simp [o, ne]
      · simpa [e, o] using ih

/-- The item found has the ref looked for. -/
theorem Station.findItem_ref {ref : ItemRef} {i : Item} (h : s.findItem ref = some i) : i.ref = ref := by
  simpa using List.find?_some h

/-- The item found stands in the queue. -/
theorem Station.findItem_mem {ref : ItemRef} {i : Item} (h : s.findItem ref = some i) : i ∈ s.lane.queue :=
  List.mem_of_find?_eq_some h

/-- A removed item is found no more. -/
theorem Station.removeItem_queue (ref : ItemRef) (flagged : Bool) :
    (s.removeItem ref flagged).lane.queue = s.lane.queue.filter (fun i => i.ref ≠ ref) := by
  unfold Station.removeItem Station.endCalibrationOf Station.freeBuffer
  dsimp only
  split
  · split
    · split <;> rfl
    · rfl
  · rfl

/-! ### Entries -/

/-- An entry changed in place reads as changed. -/
theorem Station.entry_modifyEntry (k : Key) (f : Entry → Entry) (h : ∀ e : Entry, e.key = k → (f e).key = k) :
    (s.modifyEntry k f).entry k = (s.entry k).map f := by
  unfold Station.entry Station.modifyEntry
  dsimp only
  induction s.table.entries with
  | nil => rfl
  | cons e l ih =>
    by_cases c : e.key = k
    · simp [c, h e c]
    · simpa [c] using ih

/-- Any other entry reads as before. -/
theorem Station.entry_modifyEntry_other (k other : Key) (f : Entry → Entry) (h : ∀ e : Entry, (f e).key = e.key)
    (ne : other ≠ k) : (s.modifyEntry k f).entry other = s.entry other := by
  unfold Station.entry Station.modifyEntry
  dsimp only
  induction s.table.entries with
  | nil => rfl
  | cons e l ih =>
    by_cases c : e.key = k
    · have : ¬ k = other := fun t => ne t.symm
      simpa [c, h e, this] using ih
    · by_cases o : e.key = other
      · simp [o, ne]
      · simpa [c, o] using ih

/-- The entry found holds the key looked for. -/
theorem Station.entry_key {k : Key} {e : Entry} (h : s.entry k = some e) : e.key = k := by
  simpa using List.find?_some h

/-- The entry found stands in the table. -/
theorem Station.entry_mem {k : Key} {e : Entry} (h : s.entry k = some e) : e ∈ s.table.entries :=
  List.mem_of_find?_eq_some h

/-- A touched entry stands at the most recent end, the others in their order. -/
theorem Station.touch_entries {k : Key} {e : Entry} (h : s.entry k = some e) :
    (s.touch k).table.entries = s.table.entries.eraseP (fun x => x.key = k) ++ [e] := by
  simp [Station.touch, h]

/-! ### Offers (R141, R142, R167) -/

/-- A notice joins a queue with room, and leaves no trace in a full one but the flag and the count. -/
theorem Station.offerNotice_cases (b : Body) :
    (s.link.txQueue.length < 16 ∧
      (s.offerNotice b).link.txQueue = s.link.txQueue ++ [⟨b, 0, .ready, false⟩]) ∨
    (16 ≤ s.link.txQueue.length ∧ (s.offerNotice b).link.txQueue = s.link.txQueue ∧
      (s.offerNotice b).link.counts.abandons = s.link.counts.abandons + 1) := by
  unfold Station.offerNotice Station.txRoom Config.txCapacity
  by_cases h : s.link.txQueue.length < 16
  · left; simp [h, Station.txPush]
  · right; simp [h, Station.countAbandon, Station.raise]; omega

/-- A record joins a queue with room, or takes an empty overflow slot, or is lost and counted. -/
theorem Station.offerRecord_cases (b : Body) :
    (s.link.txQueue.length < 16 ∧ (s.offerRecord b).link.txQueue = s.link.txQueue ++ [⟨b, 0, .ready, false⟩] ∧
      (s.offerRecord b).records = s.records) ∨
    (16 ≤ s.link.txQueue.length ∧ s.records.overflow = none ∧ (s.offerRecord b).link = s.link ∧
      (s.offerRecord b).records.overflow = some b) ∨
    (16 ≤ s.link.txQueue.length ∧ s.records.overflow ≠ none ∧ (s.offerRecord b).link = s.link ∧
      (s.offerRecord b).records.overflow = s.records.overflow ∧
      (s.offerRecord b).records.counts.lost = s.records.counts.lost + 1) := by
  unfold Station.offerRecord Station.placing Station.txRoom Config.txCapacity
  by_cases h : s.link.txQueue.length < 16
  · left; simp [h, Station.txPush]
  · by_cases o : s.records.overflow = none
    · right; left; simp [h, o]; omega
    · right; right; simp [h, o]; omega

/-! ### Claim lists (R93) -/

/-- Putting claims in order neither drops nor adds one. -/
theorem inClaimOrder_perm (l : List Claim) : (inClaimOrder l).Perm l := by
  unfold inClaimOrder
  dsimp only
  split
  · exact List.perm_insertionSort _ l
  · exact .refl l

/-- A claim stands in the list in order exactly where it stands in the list. -/
@[simp] theorem mem_inClaimOrder {c : Claim} {l : List Claim} : c ∈ inClaimOrder l ↔ c ∈ l := (inClaimOrder_perm l).mem_iff

/-- Order changes no length. -/
@[simp] theorem length_inClaimOrder (l : List Claim) : (inClaimOrder l).length = l.length := (inClaimOrder_perm l).length_eq

/-- The newcomer joins the list's claims and nothing else changes. -/
theorem insertClaim_perm (c : Claim) (l : List Claim) : (insertClaim c l).Perm (c :: l) := by
  have split : (l.take (claimPlace c l) ++ c :: l.drop (claimPlace c l)).Perm (c :: (l.take (claimPlace c l) ++ l.drop (claimPlace c l))) :=
    List.perm_middle
  rw [List.take_append_drop] at split
  exact (inClaimOrder_perm _).trans split

/-- What stays of an entry's claims after a removal. -/
theorem Entry.removeClaims_perm (p : Claim → Bool) (e : Entry) :
    (e.removeClaims p).pending.Perm (e.pending.filter (fun c => !p c)) := inClaimOrder_perm _

/-- The commit condition as the claims say it (R124). -/
theorem Entry.mayCommit_iff (e : Entry) (c : Claim) : e.mayCommit c = true ↔ e.LetsCommit c := by
  unfold Entry.mayCommit Entry.LetsCommit
  cases e.holdings <;> simp

/-- An own claim's removal leaves the entry as the claims say it (R110). -/
theorem Entry.removeClaims_own (ref : ItemRef) (e : Entry) :
    e.removeClaims (fun c => c.own && decide (c.ref = ref)) = e.withoutOwn ref := by
  have h := (inClaimOrder_perm (e.pending.filter (fun c => !(c.own && decide (c.ref = ref))))).isEmpty_eq
  simp only [Entry.removeClaims, Entry.withoutOwn, h]

/-- An own commit writes the entry as the claims say it (R111). -/
theorem Entry.commitOwn_eq (c : Claim) (ordinal : Nat) (e : Entry) :
    e.commitOwn c.ref ordinal c.tally = e.afterCommit c ordinal := by
  have h := Entry.removeClaims_own c.ref { e with committed := max e.committed ordinal }
  simp only [Entry.commitOwn, h, Entry.afterCommit, Entry.addRecord, Entry.withoutOwn, Config.committedCapacity]
  split
  · rw [Nat.sub_eq_zero_of_le (by omega), List.drop_zero]
  · rw [show ∀ n, n + 1 - 4 = n - 3 from fun n => by omega]

/-- What insertion into a list comes to: the newcomer at its place; or, at a full list, one of the seven that is not own dropped and
the other six kept; or, where all seven are own, no change (R93). -/
theorem insertLimited_cases (c : Claim) (l : List Claim) :
    (l.length < 6 ∧ insertLimited c l = (insertClaim c l, false)) ∨
    (6 ≤ l.length ∧ (∀ a ∈ c :: l, a.own = true) ∧ insertLimited c l = (l, false)) ∨
    (6 ≤ l.length ∧ c.own = false ∧ insertLimited c l = (l, true)) ∨
    (6 ≤ l.length ∧ ∃ x ∈ l, x.own = false ∧ insertLimited c l = (insertClaim c (inClaimOrder (l.erase x)), true)) := by
  unfold insertLimited Config.claimCapacity
  by_cases h : l.length < 6
  · exact .inl ⟨h, by rw [if_pos h]⟩
  · have h6 : 6 ≤ l.length := by omega
    rw [if_neg h]
    cases hx : latestNonOwn (c :: l) with
    | none =>
      refine .inr (.inl ⟨h6, ?_, rfl⟩)
      intro a ha
      by_contra hn
      unfold latestNonOwn at hx
      dsimp only at hx
      split at hx
      · cases hx
      · rw [List.getElem?_eq_none_iff] at hx
        have : a ∈ (c :: l).filter (fun c => !c.own) := List.mem_filter.mpr ⟨ha, by simpa using hn⟩
        have pos := List.length_pos_of_mem this
        exact absurd (Nat.mod_lt _ pos) (Nat.not_lt.mpr hx)
    | some x =>
      have hm : x ∈ (c :: l).filter (fun c => !c.own) := by
        unfold latestNonOwn at hx
        dsimp only at hx
        split at hx
        · rename_i y hy; cases hx; exact List.mem_of_find?_eq_some hy
        · exact List.mem_of_getElem? hx
      have own : x.own = false := by simpa using (List.mem_filter.mp hm).2
      by_cases e : x = c
      · exact .inr (.inr (.inl ⟨h6, e ▸ own, by simp [e]⟩))
      · have : x ∈ l := by simpa [e] using (List.mem_filter.mp hm).1
        exact .inr (.inr (.inr ⟨h6, x, this, own, by simp [e]⟩))

/-! ### Reception (R140, R153, R190) -/

/-- A run of recessive bits ahead of a dominant one is what `takeWhile` takes, and `dropWhile` leaves the rest. -/
theorem recessiveRun (n : Nat) (line : List Bool) :
    (List.replicate n true ++ false :: line).takeWhile id = List.replicate n true ∧
    (List.replicate n true ++ false :: line).dropWhile id = false :: line := by
  induction n with
  | zero => simp
  | succ n ih => simp [List.replicate_succ, ih]

/-- What a receiver recognises as a lead: its 16 bits after at least 4 recessive bit times, and nothing else (R190). -/
theorem afterLead_eq_some {line rest : List Bool} :
    afterLead line = some rest ↔ ∃ n, 4 ≤ n ∧ line = List.replicate n true ++ leadBits ++ rest := by
  constructor
  · intro h
    simp only [afterLead, Option.ite_none_right_eq_some, Option.some.injEq] at h
    obtain ⟨⟨gap, lead⟩, rfl⟩ := h
    refine ⟨_, gap, ?_⟩
    have run : line.takeWhile id = List.replicate (line.takeWhile id).length true :=
      List.eq_replicate_iff.mpr ⟨rfl, fun b hb => by simpa using List.mem_takeWhile_imp hb⟩
    rw [← run, ← lead, List.append_assoc, List.take_append_drop, List.takeWhile_append_dropWhile]
  · rintro ⟨n, gap, rfl⟩
    obtain ⟨run, heard⟩ := recessiveRun n (leadBits.tail ++ rest)
    have lead : leadBits ++ rest = false :: (leadBits.tail ++ rest) := rfl
    simp only [afterLead, List.append_assoc, lead, run, heard]
    simp [Config.leadGap, gap, leadBits, leadBytes, byteBits]

/-- No bit taken. -/
@[simp] theorem takeBits_zero (last : Bool) (run : Nat) (line : List Bool) : takeBits 0 last run line = .taken [] last run line := by
  cases line <;> rfl

/-- A receiver behind the run the coder stands behind takes back the bits that were coded, and stands before what the coder puts on
the line for the bits behind them (R140). -/
theorem takeBits_stuffFrom (front back : List Bool) : ∀ (last : Bool) (run : Nat), run < 7 →
    ∃ last' run' rest, takeBits front.length last run (stuffFrom last run (front ++ back)) = .taken front last' run' rest ∧
      ∃ last'' run'', run'' < 7 ∧ ∀ n, takeBits (n + 1) last' run' rest =
        takeBits (n + 1) last'' run'' (stuffFrom last'' run'' back) := by
  induction front with
  | nil => exact fun last run h => ⟨last, run, _, takeBits_zero .., last, run, h, fun _ => rfl⟩
  | cons b front ih =>
    intro last run h
    have hrun : run ≠ 7 := by omega
    by_cases seven : (if b = last then run + 1 else 1) = 7
    · cases front with
      | nil =>
        refine ⟨b, 7, (!b) :: stuffFrom (!b) 1 back, ?_, !b, 1, by omega, fun n => ?_⟩
        · simp only [List.cons_append, List.nil_append, stuffFrom, seven, if_true, List.length_cons, List.length_nil, takeBits, takeBit,
            hrun, if_false, Taking.cons]
        · cases b <;> simp [takeBits, takeBit]
      | cons c front =>
        obtain ⟨l, r, rest, ht, h2⟩ := ih (!b) 1 (by omega)
        refine ⟨l, r, rest, ?_, h2⟩
        have : takeBits (c :: front).length b 7 ((!b) :: stuffFrom (!b) 1 (c :: front ++ back)) =
            .taken (c :: front) l r rest := by
          rw [← ht]; cases b <;> simp [takeBits, takeBit]
        simp only [List.cons_append, stuffFrom, seven, if_true, List.length_cons, takeBits, takeBit, hrun, if_false] at this ⊢
        rw [this]; rfl
    · obtain ⟨l, r, rest, ht, h2⟩ := ih b (if b = last then run + 1 else 1) (by split_ifs at seven ⊢ <;> omega)
      refine ⟨l, r, rest, ?_, h2⟩
      simp only [List.cons_append, stuffFrom, seven, if_false, List.length_cons, takeBits, takeBit, hrun, ht, Taking.cons]

/-- The bits taken are as many as were asked for. -/
theorem takeBits_length : ∀ (line : List Bool) (n : Nat) (last : Bool) (run : Nat) {bits rest : List Bool} {l : Bool} {r : Nat},
    takeBits n last run line = .taken bits l r rest → bits.length = n := by
  intro line
  induction line with
  | nil => intro n last run bits rest l r h; cases n <;> simp [takeBits] at h; simp [h]
  | cons b line ih =>
    intro n last run bits rest l r h
    cases n with
    | zero => simp [takeBits] at h; simp [h]
    | succ n =>
      simp only [takeBits] at h
      split at h
      · cases h
      · exact ih _ _ _ h
      · rename_i x run' _
        revert h
        cases hm : takeBits n b run' line <;> simp only [Taking.cons, reduceCtorEq, Taking.taken.injEq, false_imp_iff]
        rintro ⟨rfl, -⟩
        simp [ih _ _ _ hm]

end Sys2Proof.Machine
end

