-- ==== Sys2Proof/Laws/PerInstr.lean ====
section
/-! SUPPORT. A statement made for every command by its constructor: what well-formedness asks of its operands. -/

namespace Sys2Proof.Laws.WellFormedRange

/-- A command is well-formed exactly when its operands lie in the ranges the manual gives them. -/
def Statement : Instr → Prop
  | .frameReceived bits => Instr.wellFormed (.frameReceived bits) = true ↔ (bits.dropWhile id).length ≤ 520
  | .backoffExpiry place => Instr.wellFormed (.backoffExpiry place) = true ↔ place < 16
  | .claimExpiry k station ref =>
    Instr.wellFormed (.claimExpiry k station ref) = true ↔
      k.inRange = true ∧ k.kind ≠ .provisional ∧ 1 ≤ station ∧ station ≤ 31
  | .requestedLapse k => Instr.wellFormed (.requestedLapse k) = true ↔ k.inRange = true ∧ k.kind ≠ .provisional
  | i => Instr.wellFormed i = true

theorem powerOn : Statement .powerOn := rfl
theorem configReadComplete (block : Vector Bool 512) : Statement (.configReadComplete block) := rfl
theorem millisecondTick : Statement .millisecondTick := rfl
theorem encoderForwardCount : Statement .encoderForwardCount := rfl
theorem encoderReverseCount : Statement .encoderReverseCount := rfl
theorem leadingEdge : Statement .leadingEdge := rfl
theorem trailingEdge : Statement .trailingEdge := rfl
theorem overlongCloseOff : Statement .overlongCloseOff := rfl
theorem windowOpen (ref : ItemRef) (head : Head) : Statement (.windowOpen ref head) := rfl
theorem windowClose (ref : ItemRef) (head : Head) : Statement (.windowClose ref head) := rfl
theorem weightCompletion (ref : ItemRef) : Statement (.weightCompletion ref) := rfl
theorem decisionDue (ref : ItemRef) : Statement (.decisionDue ref) := rfl
theorem divertPoint (ref : ItemRef) : Statement (.divertPoint ref) := rfl
theorem departure (ref : ItemRef) : Statement (.departure ref) := rfl
theorem headSymbolArrival (head : Head) (symbol : Symbol) : Statement (.headSymbolArrival head symbol) := rfl
theorem framerTakeSymbol (head : Head) : Statement (.framerTakeSymbol head) := rfl
theorem handOver (head : Head) : Statement (.handOver head) := rfl
theorem settleExpiry (ref : ItemRef) : Statement (.settleExpiry ref) := rfl
theorem claimExpiry (key : Key) (station : Nat) (ref : ItemRef) : Statement (.claimExpiry key station ref) := by
  simp [Statement, Instr.wellFormed, and_assoc]
theorem requestedLapse (key : Key) : Statement (.requestedLapse key) := by
  simp [Statement, Instr.wellFormed]
theorem joinQuietExpiry : Statement .joinQuietExpiry := rfl
theorem lineIdle : Statement .lineIdle := rfl
theorem attemptBegin : Statement .attemptBegin := rfl
theorem chainContinuation : Statement .chainContinuation := rfl
theorem collision : Statement .collision := rfl
theorem jamEnd : Statement .jamEnd := rfl
theorem backoffExpiry (place : Nat) : Statement (.backoffExpiry place) := decide_eq_true_iff
theorem attemptComplete : Statement .attemptComplete := rfl
theorem frameReceived (bits : List Bool) : Statement (.frameReceived bits) := decide_eq_true_iff
theorem rxLineError : Statement .rxLineError := rfl
theorem heardClaim : Statement .heardClaim := rfl
theorem heardCommit : Statement .heardCommit := rfl
theorem heardWithdraw : Statement .heardWithdraw := rfl
theorem heardHoldings : Statement .heardHoldings := rfl
theorem heardAnnounce : Statement .heardAnnounce := rfl
theorem statusRequest : Statement .statusRequest := rfl
theorem calibrate : Statement .calibrate := rfl
theorem restart : Statement .restart := rfl
theorem localRestart : Statement .localRestart := rfl
theorem misdirectedFrame : Statement .misdirectedFrame := rfl
theorem malformedFrame : Statement .malformedFrame := rfl
theorem unaddressedFrame : Statement .unaddressedFrame := rfl
theorem localRestartRelease : Statement .localRestartRelease := rfl
theorem lineLeavesIdle : Statement .lineLeavesIdle := rfl
theorem leadFound : Statement .leadFound := rfl

end Sys2Proof.Laws.WellFormedRange
end

