-- ==== Sys2Proof/Laws/State.lean ====
section
/-! SUPPORT. The fields of the station after each named update: one lemma for each field an update leaves, true by rfl and
tagged simp, and one for each field it writes, so that no proof unfolds a record update. -/

namespace Sys2Proof.Machine

variable (s : Station)

/-! ### raise -/

@[simp] theorem Station.raise_clock (f : Flag) : (s.raise f).clock = s.clock := rfl
@[simp] theorem Station.raise_lane (f : Flag) : (s.raise f).lane = s.lane := rfl
@[simp] theorem Station.raise_receivers (f : Flag) : (s.raise f).receivers = s.receivers := rfl
@[simp] theorem Station.raise_headCounts (f : Flag) : (s.raise f).headCounts = s.headCounts := rfl
@[simp] theorem Station.raise_keyCounts (f : Flag) : (s.raise f).keyCounts = s.keyCounts := rfl
@[simp] theorem Station.raise_measurement (f : Flag) : (s.raise f).measurement = s.measurement := rfl
@[simp] theorem Station.raise_tracker (f : Flag) : (s.raise f).tracker = s.tracker := rfl
@[simp] theorem Station.raise_table (f : Flag) : (s.raise f).table = s.table := rfl
@[simp] theorem Station.raise_claims (f : Flag) : (s.raise f).claims = s.claims := rfl
@[simp] theorem Station.raise_link (f : Flag) : (s.raise f).link = s.link := rfl
@[simp] theorem Station.raise_records_overflow (f : Flag) : (s.raise f).records.overflow = s.records.overflow := rfl
@[simp] theorem Station.raise_records_pending (f : Flag) : (s.raise f).records.pending = s.records.pending := rfl
@[simp] theorem Station.raise_records_flags (f : Flag) : (s.raise f).records.flags = s.records.flags ||| f.bit := rfl
@[simp] theorem Station.raise_records_counts (f : Flag) : (s.raise f).records.counts = s.records.counts := rfl
@[simp] theorem Station.raise_startup (f : Flag) : (s.raise f).startup = s.startup := rfl
@[simp] theorem Station.raise_cfg (f : Flag) : (s.raise f).cfg = s.cfg := rfl
@[simp] theorem Station.raise_ownId (f : Flag) : (s.raise f).ownId = s.ownId := rfl
@[simp] theorem Station.raise_ready (f : Flag) : (s.raise f).ready = s.ready := rfl
@[simp] theorem Station.raise_listening (f : Flag) : (s.raise f).listening = s.listening := rfl
@[simp] theorem Station.raise_findItem (f : Flag) (q : ItemRef) : (s.raise f).findItem q = s.findItem q := rfl
@[simp] theorem Station.raise_entry (f : Flag) (j : Key) : (s.raise f).entry j = s.entry j := rfl

/-! ### clearFlags -/

@[simp] theorem Station.clearFlags_clock (m : BitVec 13) : (s.clearFlags m).clock = s.clock := rfl
@[simp] theorem Station.clearFlags_lane (m : BitVec 13) : (s.clearFlags m).lane = s.lane := rfl
@[simp] theorem Station.clearFlags_receivers (m : BitVec 13) : (s.clearFlags m).receivers = s.receivers := rfl
@[simp] theorem Station.clearFlags_headCounts (m : BitVec 13) : (s.clearFlags m).headCounts = s.headCounts := rfl
@[simp] theorem Station.clearFlags_keyCounts (m : BitVec 13) : (s.clearFlags m).keyCounts = s.keyCounts := rfl
@[simp] theorem Station.clearFlags_measurement (m : BitVec 13) : (s.clearFlags m).measurement = s.measurement := rfl
@[simp] theorem Station.clearFlags_tracker (m : BitVec 13) : (s.clearFlags m).tracker = s.tracker := rfl
@[simp] theorem Station.clearFlags_table (m : BitVec 13) : (s.clearFlags m).table = s.table := rfl
@[simp] theorem Station.clearFlags_claims (m : BitVec 13) : (s.clearFlags m).claims = s.claims := rfl
@[simp] theorem Station.clearFlags_link (m : BitVec 13) : (s.clearFlags m).link = s.link := rfl
@[simp] theorem Station.clearFlags_records_overflow (m : BitVec 13) :
    (s.clearFlags m).records.overflow = s.records.overflow := rfl
@[simp] theorem Station.clearFlags_records_pending (m : BitVec 13) :
    (s.clearFlags m).records.pending = s.records.pending := rfl
@[simp] theorem Station.clearFlags_records_flags (m : BitVec 13) :
    (s.clearFlags m).records.flags = s.records.flags &&& ~~~m := rfl
@[simp] theorem Station.clearFlags_records_counts (m : BitVec 13) :
    (s.clearFlags m).records.counts = s.records.counts := rfl
@[simp] theorem Station.clearFlags_startup (m : BitVec 13) : (s.clearFlags m).startup = s.startup := rfl
@[simp] theorem Station.clearFlags_cfg (m : BitVec 13) : (s.clearFlags m).cfg = s.cfg := rfl
@[simp] theorem Station.clearFlags_ownId (m : BitVec 13) : (s.clearFlags m).ownId = s.ownId := rfl
@[simp] theorem Station.clearFlags_ready (m : BitVec 13) : (s.clearFlags m).ready = s.ready := rfl
@[simp] theorem Station.clearFlags_listening (m : BitVec 13) : (s.clearFlags m).listening = s.listening := rfl
@[simp] theorem Station.clearFlags_findItem (m : BitVec 13) (q : ItemRef) :
    (s.clearFlags m).findItem q = s.findItem q := rfl
@[simp] theorem Station.clearFlags_entry (m : BitVec 13) (j : Key) : (s.clearFlags m).entry j = s.entry j := rfl

/-! ### modifyItem -/

@[simp] theorem Station.modifyItem_clock (r : ItemRef) (f : Item → Item) : (s.modifyItem r f).clock = s.clock := rfl
@[simp] theorem Station.modifyItem_lane_pos (r : ItemRef) (f : Item → Item) :
    (s.modifyItem r f).lane.pos = s.lane.pos := rfl
@[simp] theorem Station.modifyItem_lane_queue (r : ItemRef) (f : Item → Item) :
    (s.modifyItem r f).lane.queue = s.lane.queue.map (fun i => if i.ref = r then f i else i) := rfl
@[simp] theorem Station.modifyItem_lane_nextRef (r : ItemRef) (f : Item → Item) :
    (s.modifyItem r f).lane.nextRef = s.lane.nextRef := rfl
@[simp] theorem Station.modifyItem_lane_sensorOwner (r : ItemRef) (f : Item → Item) :
    (s.modifyItem r f).lane.sensorOwner = s.lane.sensorOwner := rfl
@[simp] theorem Station.modifyItem_lane_diverterChute (r : ItemRef) (f : Item → Item) :
    (s.modifyItem r f).lane.diverterChute = s.lane.diverterChute := rfl
@[simp] theorem Station.modifyItem_lane_diverterHolder (r : ItemRef) (f : Item → Item) :
    (s.modifyItem r f).lane.diverterHolder = s.lane.diverterHolder := rfl
@[simp] theorem Station.modifyItem_lane_counts (r : ItemRef) (f : Item → Item) :
    (s.modifyItem r f).lane.counts = s.lane.counts := rfl
@[simp] theorem Station.modifyItem_receivers (r : ItemRef) (f : Item → Item) :
    (s.modifyItem r f).receivers = s.receivers := rfl
@[simp] theorem Station.modifyItem_headCounts (r : ItemRef) (f : Item → Item) :
    (s.modifyItem r f).headCounts = s.headCounts := rfl
@[simp] theorem Station.modifyItem_keyCounts (r : ItemRef) (f : Item → Item) :
    (s.modifyItem r f).keyCounts = s.keyCounts := rfl
@[simp] theorem Station.modifyItem_measurement (r : ItemRef) (f : Item → Item) :
    (s.modifyItem r f).measurement = s.measurement := rfl
@[simp] theorem Station.modifyItem_tracker (r : ItemRef) (f : Item → Item) :
    (s.modifyItem r f).tracker = s.tracker := rfl
@[simp] theorem Station.modifyItem_table (r : ItemRef) (f : Item → Item) : (s.modifyItem r f).table = s.table := rfl
@[simp] theorem Station.modifyItem_claims (r : ItemRef) (f : Item → Item) : (s.modifyItem r f).claims = s.claims := rfl
@[simp] theorem Station.modifyItem_link (r : ItemRef) (f : Item → Item) : (s.modifyItem r f).link = s.link := rfl
@[simp] theorem Station.modifyItem_records (r : ItemRef) (f : Item → Item) :
    (s.modifyItem r f).records = s.records := rfl
@[simp] theorem Station.modifyItem_startup (r : ItemRef) (f : Item → Item) :
    (s.modifyItem r f).startup = s.startup := rfl
@[simp] theorem Station.modifyItem_cfg (r : ItemRef) (f : Item → Item) : (s.modifyItem r f).cfg = s.cfg := rfl
@[simp] theorem Station.modifyItem_ownId (r : ItemRef) (f : Item → Item) : (s.modifyItem r f).ownId = s.ownId := rfl
@[simp] theorem Station.modifyItem_ready (r : ItemRef) (f : Item → Item) : (s.modifyItem r f).ready = s.ready := rfl
@[simp] theorem Station.modifyItem_listening (r : ItemRef) (f : Item → Item) :
    (s.modifyItem r f).listening = s.listening := rfl
@[simp] theorem Station.modifyItem_entry (r : ItemRef) (f : Item → Item) (j : Key) :
    (s.modifyItem r f).entry j = s.entry j := rfl

/-! ### withReceiver -/

@[simp] theorem Station.withReceiver_clock (h : Head) (r : Receiver) : (s.withReceiver h r).clock = s.clock := rfl
@[simp] theorem Station.withReceiver_lane (h : Head) (r : Receiver) : (s.withReceiver h r).lane = s.lane := rfl
@[simp] theorem Station.withReceiver_receivers (h : Head) (r : Receiver) :
    (s.withReceiver h r).receivers = s.receivers.set h r := rfl
@[simp] theorem Station.withReceiver_headCounts (h : Head) (r : Receiver) :
    (s.withReceiver h r).headCounts = s.headCounts := rfl
@[simp] theorem Station.withReceiver_keyCounts (h : Head) (r : Receiver) :
    (s.withReceiver h r).keyCounts = s.keyCounts := rfl
@[simp] theorem Station.withReceiver_measurement (h : Head) (r : Receiver) :
    (s.withReceiver h r).measurement = s.measurement := rfl
@[simp] theorem Station.withReceiver_tracker (h : Head) (r : Receiver) : (s.withReceiver h r).tracker = s.tracker := rfl
@[simp] theorem Station.withReceiver_table (h : Head) (r : Receiver) : (s.withReceiver h r).table = s.table := rfl
@[simp] theorem Station.withReceiver_claims (h : Head) (r : Receiver) : (s.withReceiver h r).claims = s.claims := rfl
@[simp] theorem Station.withReceiver_link (h : Head) (r : Receiver) : (s.withReceiver h r).link = s.link := rfl
@[simp] theorem Station.withReceiver_records (h : Head) (r : Receiver) : (s.withReceiver h r).records = s.records := rfl
@[simp] theorem Station.withReceiver_startup (h : Head) (r : Receiver) : (s.withReceiver h r).startup = s.startup := rfl
@[simp] theorem Station.withReceiver_cfg (h : Head) (r : Receiver) : (s.withReceiver h r).cfg = s.cfg := rfl
@[simp] theorem Station.withReceiver_ownId (h : Head) (r : Receiver) : (s.withReceiver h r).ownId = s.ownId := rfl
@[simp] theorem Station.withReceiver_ready (h : Head) (r : Receiver) : (s.withReceiver h r).ready = s.ready := rfl
@[simp] theorem Station.withReceiver_listening (h : Head) (r : Receiver) :
    (s.withReceiver h r).listening = s.listening := rfl
@[simp] theorem Station.withReceiver_findItem (h : Head) (r : Receiver) (q : ItemRef) :
    (s.withReceiver h r).findItem q = s.findItem q := rfl
@[simp] theorem Station.withReceiver_entry (h : Head) (r : Receiver) (j : Key) :
    (s.withReceiver h r).entry j = s.entry j := rfl

/-! ### txPush -/

@[simp] theorem Station.txPush_clock (b : Body) : (s.txPush b).clock = s.clock := rfl
@[simp] theorem Station.txPush_lane (b : Body) : (s.txPush b).lane = s.lane := rfl
@[simp] theorem Station.txPush_receivers (b : Body) : (s.txPush b).receivers = s.receivers := rfl
@[simp] theorem Station.txPush_headCounts (b : Body) : (s.txPush b).headCounts = s.headCounts := rfl
@[simp] theorem Station.txPush_keyCounts (b : Body) : (s.txPush b).keyCounts = s.keyCounts := rfl
@[simp] theorem Station.txPush_measurement (b : Body) : (s.txPush b).measurement = s.measurement := rfl
@[simp] theorem Station.txPush_tracker (b : Body) : (s.txPush b).tracker = s.tracker := rfl
@[simp] theorem Station.txPush_table (b : Body) : (s.txPush b).table = s.table := rfl
@[simp] theorem Station.txPush_claims (b : Body) : (s.txPush b).claims = s.claims := rfl
@[simp] theorem Station.txPush_link_txQueue (b : Body) :
    (s.txPush b).link.txQueue = s.link.txQueue ++ [{ body := b, attempts := 0, standing := .ready, takenBack := false }] := rfl
@[simp] theorem Station.txPush_link_rxQueue (b : Body) : (s.txPush b).link.rxQueue = s.link.rxQueue := rfl
@[simp] theorem Station.txPush_link_sending (b : Body) : (s.txPush b).link.sending = s.link.sending := rfl
@[simp] theorem Station.txPush_link_holding (b : Body) : (s.txPush b).link.holding = s.link.holding := rfl
@[simp] theorem Station.txPush_link_chain (b : Body) : (s.txPush b).link.chain = s.link.chain := rfl
@[simp] theorem Station.txPush_link_lineIdle (b : Body) : (s.txPush b).link.lineIdle = s.link.lineIdle := rfl
@[simp] theorem Station.txPush_link_reception (b : Body) : (s.txPush b).link.reception = s.link.reception := rfl
@[simp] theorem Station.txPush_link_generator (b : Body) : (s.txPush b).link.generator = s.link.generator := rfl
@[simp] theorem Station.txPush_link_gateOpen (b : Body) : (s.txPush b).link.gateOpen = s.link.gateOpen := rfl
@[simp] theorem Station.txPush_link_counts (b : Body) : (s.txPush b).link.counts = s.link.counts := rfl
@[simp] theorem Station.txPush_records (b : Body) : (s.txPush b).records = s.records := rfl
@[simp] theorem Station.txPush_startup (b : Body) : (s.txPush b).startup = s.startup := rfl
@[simp] theorem Station.txPush_cfg (b : Body) : (s.txPush b).cfg = s.cfg := rfl
@[simp] theorem Station.txPush_ownId (b : Body) : (s.txPush b).ownId = s.ownId := rfl
@[simp] theorem Station.txPush_ready (b : Body) : (s.txPush b).ready = s.ready := rfl
@[simp] theorem Station.txPush_listening (b : Body) : (s.txPush b).listening = s.listening := rfl
@[simp] theorem Station.txPush_findItem (b : Body) (q : ItemRef) : (s.txPush b).findItem q = s.findItem q := rfl
@[simp] theorem Station.txPush_entry (b : Body) (j : Key) : (s.txPush b).entry j = s.entry j := rfl

/-! ### countAbandon -/

@[simp] theorem Station.countAbandon_clock : (s.countAbandon).clock = s.clock := rfl
@[simp] theorem Station.countAbandon_lane : (s.countAbandon).lane = s.lane := rfl
@[simp] theorem Station.countAbandon_receivers : (s.countAbandon).receivers = s.receivers := rfl
@[simp] theorem Station.countAbandon_headCounts : (s.countAbandon).headCounts = s.headCounts := rfl
@[simp] theorem Station.countAbandon_keyCounts : (s.countAbandon).keyCounts = s.keyCounts := rfl
@[simp] theorem Station.countAbandon_measurement : (s.countAbandon).measurement = s.measurement := rfl
@[simp] theorem Station.countAbandon_tracker : (s.countAbandon).tracker = s.tracker := rfl
@[simp] theorem Station.countAbandon_table : (s.countAbandon).table = s.table := rfl
@[simp] theorem Station.countAbandon_claims : (s.countAbandon).claims = s.claims := rfl
@[simp] theorem Station.countAbandon_link_txQueue : (s.countAbandon).link.txQueue = s.link.txQueue := rfl
@[simp] theorem Station.countAbandon_link_rxQueue : (s.countAbandon).link.rxQueue = s.link.rxQueue := rfl
@[simp] theorem Station.countAbandon_link_sending : (s.countAbandon).link.sending = s.link.sending := rfl
@[simp] theorem Station.countAbandon_link_holding : (s.countAbandon).link.holding = s.link.holding := rfl
@[simp] theorem Station.countAbandon_link_chain : (s.countAbandon).link.chain = s.link.chain := rfl
@[simp] theorem Station.countAbandon_link_lineIdle : (s.countAbandon).link.lineIdle = s.link.lineIdle := rfl
@[simp] theorem Station.countAbandon_link_reception : (s.countAbandon).link.reception = s.link.reception := rfl
@[simp] theorem Station.countAbandon_link_generator : (s.countAbandon).link.generator = s.link.generator := rfl
@[simp] theorem Station.countAbandon_link_gateOpen : (s.countAbandon).link.gateOpen = s.link.gateOpen := rfl
@[simp] theorem Station.countAbandon_records : (s.countAbandon).records = s.records := rfl
@[simp] theorem Station.countAbandon_startup : (s.countAbandon).startup = s.startup := rfl
@[simp] theorem Station.countAbandon_cfg : (s.countAbandon).cfg = s.cfg := rfl
@[simp] theorem Station.countAbandon_ownId : (s.countAbandon).ownId = s.ownId := rfl
@[simp] theorem Station.countAbandon_ready : (s.countAbandon).ready = s.ready := rfl
@[simp] theorem Station.countAbandon_listening : (s.countAbandon).listening = s.listening := rfl
@[simp] theorem Station.countAbandon_findItem (q : ItemRef) : (s.countAbandon).findItem q = s.findItem q := rfl
@[simp] theorem Station.countAbandon_entry (j : Key) : (s.countAbandon).entry j = s.entry j := rfl

/-! ### modifyEntry -/

@[simp] theorem Station.modifyEntry_clock (k : Key) (f : Entry → Entry) : (s.modifyEntry k f).clock = s.clock := rfl
@[simp] theorem Station.modifyEntry_lane (k : Key) (f : Entry → Entry) : (s.modifyEntry k f).lane = s.lane := rfl
@[simp] theorem Station.modifyEntry_receivers (k : Key) (f : Entry → Entry) :
    (s.modifyEntry k f).receivers = s.receivers := rfl
@[simp] theorem Station.modifyEntry_headCounts (k : Key) (f : Entry → Entry) :
    (s.modifyEntry k f).headCounts = s.headCounts := rfl
@[simp] theorem Station.modifyEntry_keyCounts (k : Key) (f : Entry → Entry) :
    (s.modifyEntry k f).keyCounts = s.keyCounts := rfl
@[simp] theorem Station.modifyEntry_measurement (k : Key) (f : Entry → Entry) :
    (s.modifyEntry k f).measurement = s.measurement := rfl
@[simp] theorem Station.modifyEntry_tracker (k : Key) (f : Entry → Entry) :
    (s.modifyEntry k f).tracker = s.tracker := rfl
@[simp] theorem Station.modifyEntry_table_entries (k : Key) (f : Entry → Entry) :
    (s.modifyEntry k f).table.entries = s.table.entries.map (fun e => if e.key = k then f e else e) := rfl
@[simp] theorem Station.modifyEntry_table_counts (k : Key) (f : Entry → Entry) :
    (s.modifyEntry k f).table.counts = s.table.counts := rfl
@[simp] theorem Station.modifyEntry_claims (k : Key) (f : Entry → Entry) : (s.modifyEntry k f).claims = s.claims := rfl
@[simp] theorem Station.modifyEntry_link (k : Key) (f : Entry → Entry) : (s.modifyEntry k f).link = s.link := rfl
@[simp] theorem Station.modifyEntry_records (k : Key) (f : Entry → Entry) :
    (s.modifyEntry k f).records = s.records := rfl
@[simp] theorem Station.modifyEntry_startup (k : Key) (f : Entry → Entry) :
    (s.modifyEntry k f).startup = s.startup := rfl
@[simp] theorem Station.modifyEntry_cfg (k : Key) (f : Entry → Entry) : (s.modifyEntry k f).cfg = s.cfg := rfl
@[simp] theorem Station.modifyEntry_ownId (k : Key) (f : Entry → Entry) : (s.modifyEntry k f).ownId = s.ownId := rfl
@[simp] theorem Station.modifyEntry_ready (k : Key) (f : Entry → Entry) : (s.modifyEntry k f).ready = s.ready := rfl
@[simp] theorem Station.modifyEntry_listening (k : Key) (f : Entry → Entry) :
    (s.modifyEntry k f).listening = s.listening := rfl
@[simp] theorem Station.modifyEntry_findItem (k : Key) (f : Entry → Entry) (q : ItemRef) :
    (s.modifyEntry k f).findItem q = s.findItem q := rfl

/-! ### addEntry -/

@[simp] theorem Station.addEntry_clock (e : Entry) : (s.addEntry e).clock = s.clock := rfl
@[simp] theorem Station.addEntry_lane (e : Entry) : (s.addEntry e).lane = s.lane := rfl
@[simp] theorem Station.addEntry_receivers (e : Entry) : (s.addEntry e).receivers = s.receivers := rfl
@[simp] theorem Station.addEntry_headCounts (e : Entry) : (s.addEntry e).headCounts = s.headCounts := rfl
@[simp] theorem Station.addEntry_keyCounts (e : Entry) : (s.addEntry e).keyCounts = s.keyCounts := rfl
@[simp] theorem Station.addEntry_measurement (e : Entry) : (s.addEntry e).measurement = s.measurement := rfl
@[simp] theorem Station.addEntry_tracker (e : Entry) : (s.addEntry e).tracker = s.tracker := rfl
@[simp] theorem Station.addEntry_table_entries (e : Entry) :
    (s.addEntry e).table.entries = s.table.entries ++ [e] := rfl
@[simp] theorem Station.addEntry_table_counts (e : Entry) : (s.addEntry e).table.counts = s.table.counts := rfl
@[simp] theorem Station.addEntry_claims (e : Entry) : (s.addEntry e).claims = s.claims := rfl
@[simp] theorem Station.addEntry_link (e : Entry) : (s.addEntry e).link = s.link := rfl
@[simp] theorem Station.addEntry_records (e : Entry) : (s.addEntry e).records = s.records := rfl
@[simp] theorem Station.addEntry_startup (e : Entry) : (s.addEntry e).startup = s.startup := rfl
@[simp] theorem Station.addEntry_cfg (e : Entry) : (s.addEntry e).cfg = s.cfg := rfl
@[simp] theorem Station.addEntry_ownId (e : Entry) : (s.addEntry e).ownId = s.ownId := rfl
@[simp] theorem Station.addEntry_ready (e : Entry) : (s.addEntry e).ready = s.ready := rfl
@[simp] theorem Station.addEntry_listening (e : Entry) : (s.addEntry e).listening = s.listening := rfl
@[simp] theorem Station.addEntry_findItem (e : Entry) (q : ItemRef) : (s.addEntry e).findItem q = s.findItem q := rfl

/-! ### evict -/

@[simp] theorem Station.evict_clock (e : Entry) : (s.evict e).clock = s.clock := rfl
@[simp] theorem Station.evict_lane (e : Entry) : (s.evict e).lane = s.lane := rfl
@[simp] theorem Station.evict_receivers (e : Entry) : (s.evict e).receivers = s.receivers := rfl
@[simp] theorem Station.evict_headCounts (e : Entry) : (s.evict e).headCounts = s.headCounts := rfl
@[simp] theorem Station.evict_keyCounts (e : Entry) : (s.evict e).keyCounts = s.keyCounts := rfl
@[simp] theorem Station.evict_measurement (e : Entry) : (s.evict e).measurement = s.measurement := rfl
@[simp] theorem Station.evict_tracker_matches (e : Entry) : (s.evict e).tracker.matches_ = s.tracker.matches_ := rfl
@[simp] theorem Station.evict_tracker_issued (e : Entry) : (s.evict e).tracker.issued = s.tracker.issued := rfl
@[simp] theorem Station.evict_table_entries (e : Entry) :
    (s.evict e).table.entries = s.table.entries.eraseP (fun x => x.key = e.key) := rfl
@[simp] theorem Station.evict_claims (e : Entry) : (s.evict e).claims = s.claims := rfl
@[simp] theorem Station.evict_link (e : Entry) : (s.evict e).link = s.link := rfl
@[simp] theorem Station.evict_records (e : Entry) : (s.evict e).records = s.records := rfl
@[simp] theorem Station.evict_startup (e : Entry) : (s.evict e).startup = s.startup := rfl
@[simp] theorem Station.evict_cfg (e : Entry) : (s.evict e).cfg = s.cfg := rfl
@[simp] theorem Station.evict_ownId (e : Entry) : (s.evict e).ownId = s.ownId := rfl
@[simp] theorem Station.evict_ready (e : Entry) : (s.evict e).ready = s.ready := rfl
@[simp] theorem Station.evict_listening (e : Entry) : (s.evict e).listening = s.listening := rfl
@[simp] theorem Station.evict_findItem (e : Entry) (q : ItemRef) : (s.evict e).findItem q = s.findItem q := rfl

/-! ### countUnusable -/

@[simp] theorem Station.countUnusable_clock : (s.countUnusable).clock = s.clock := rfl
@[simp] theorem Station.countUnusable_lane : (s.countUnusable).lane = s.lane := rfl
@[simp] theorem Station.countUnusable_receivers : (s.countUnusable).receivers = s.receivers := rfl
@[simp] theorem Station.countUnusable_headCounts : (s.countUnusable).headCounts = s.headCounts := rfl
@[simp] theorem Station.countUnusable_keyCounts : (s.countUnusable).keyCounts = s.keyCounts := rfl
@[simp] theorem Station.countUnusable_measurement : (s.countUnusable).measurement = s.measurement := rfl
@[simp] theorem Station.countUnusable_tracker : (s.countUnusable).tracker = s.tracker := rfl
@[simp] theorem Station.countUnusable_table_entries : (s.countUnusable).table.entries = s.table.entries := rfl
@[simp] theorem Station.countUnusable_claims : (s.countUnusable).claims = s.claims := rfl
@[simp] theorem Station.countUnusable_link : (s.countUnusable).link = s.link := rfl
@[simp] theorem Station.countUnusable_records : (s.countUnusable).records = s.records := rfl
@[simp] theorem Station.countUnusable_startup : (s.countUnusable).startup = s.startup := rfl
@[simp] theorem Station.countUnusable_cfg : (s.countUnusable).cfg = s.cfg := rfl
@[simp] theorem Station.countUnusable_ownId : (s.countUnusable).ownId = s.ownId := rfl
@[simp] theorem Station.countUnusable_ready : (s.countUnusable).ready = s.ready := rfl
@[simp] theorem Station.countUnusable_listening : (s.countUnusable).listening = s.listening := rfl
@[simp] theorem Station.countUnusable_findItem (q : ItemRef) : (s.countUnusable).findItem q = s.findItem q := rfl
@[simp] theorem Station.countUnusable_entry (j : Key) : (s.countUnusable).entry j = s.entry j := rfl

/-! ### countMerge -/

@[simp] theorem Station.countMerge_clock : (s.countMerge).clock = s.clock := rfl
@[simp] theorem Station.countMerge_lane : (s.countMerge).lane = s.lane := rfl
@[simp] theorem Station.countMerge_receivers : (s.countMerge).receivers = s.receivers := rfl
@[simp] theorem Station.countMerge_headCounts : (s.countMerge).headCounts = s.headCounts := rfl
@[simp] theorem Station.countMerge_keyCounts : (s.countMerge).keyCounts = s.keyCounts := rfl
@[simp] theorem Station.countMerge_measurement : (s.countMerge).measurement = s.measurement := rfl
@[simp] theorem Station.countMerge_tracker : (s.countMerge).tracker = s.tracker := rfl
@[simp] theorem Station.countMerge_table_entries : (s.countMerge).table.entries = s.table.entries := rfl
@[simp] theorem Station.countMerge_claims : (s.countMerge).claims = s.claims := rfl
@[simp] theorem Station.countMerge_link : (s.countMerge).link = s.link := rfl
@[simp] theorem Station.countMerge_records : (s.countMerge).records = s.records := rfl
@[simp] theorem Station.countMerge_startup : (s.countMerge).startup = s.startup := rfl
@[simp] theorem Station.countMerge_cfg : (s.countMerge).cfg = s.cfg := rfl
@[simp] theorem Station.countMerge_ownId : (s.countMerge).ownId = s.ownId := rfl
@[simp] theorem Station.countMerge_ready : (s.countMerge).ready = s.ready := rfl
@[simp] theorem Station.countMerge_listening : (s.countMerge).listening = s.listening := rfl
@[simp] theorem Station.countMerge_findItem (q : ItemRef) : (s.countMerge).findItem q = s.findItem q := rfl
@[simp] theorem Station.countMerge_entry (j : Key) : (s.countMerge).entry j = s.entry j := rfl

/-! ### takeTally -/

@[simp] theorem Station.takeTally_clock : (s.takeTally).clock = s.clock := rfl
@[simp] theorem Station.takeTally_lane : (s.takeTally).lane = s.lane := rfl
@[simp] theorem Station.takeTally_receivers : (s.takeTally).receivers = s.receivers := rfl
@[simp] theorem Station.takeTally_headCounts : (s.takeTally).headCounts = s.headCounts := rfl
@[simp] theorem Station.takeTally_keyCounts : (s.takeTally).keyCounts = s.keyCounts := rfl
@[simp] theorem Station.takeTally_measurement : (s.takeTally).measurement = s.measurement := rfl
@[simp] theorem Station.takeTally_tracker : (s.takeTally).tracker = s.tracker := rfl
@[simp] theorem Station.takeTally_table : (s.takeTally).table = s.table := rfl
@[simp] theorem Station.takeTally_claims_tally : (s.takeTally).claims.tally = s.claims.tally + 1 := rfl
@[simp] theorem Station.takeTally_link : (s.takeTally).link = s.link := rfl
@[simp] theorem Station.takeTally_records : (s.takeTally).records = s.records := rfl
@[simp] theorem Station.takeTally_startup : (s.takeTally).startup = s.startup := rfl
@[simp] theorem Station.takeTally_cfg : (s.takeTally).cfg = s.cfg := rfl
@[simp] theorem Station.takeTally_ownId : (s.takeTally).ownId = s.ownId := rfl
@[simp] theorem Station.takeTally_ready : (s.takeTally).ready = s.ready := rfl
@[simp] theorem Station.takeTally_listening : (s.takeTally).listening = s.listening := rfl
@[simp] theorem Station.takeTally_findItem (q : ItemRef) : (s.takeTally).findItem q = s.findItem q := rfl
@[simp] theorem Station.takeTally_entry (j : Key) : (s.takeTally).entry j = s.entry j := rfl

/-! ### removeOwnClaims -/

@[simp] theorem Station.removeOwnClaims_clock : (s.removeOwnClaims).clock = s.clock := rfl
@[simp] theorem Station.removeOwnClaims_lane : (s.removeOwnClaims).lane = s.lane := rfl
@[simp] theorem Station.removeOwnClaims_receivers : (s.removeOwnClaims).receivers = s.receivers := rfl
@[simp] theorem Station.removeOwnClaims_headCounts : (s.removeOwnClaims).headCounts = s.headCounts := rfl
@[simp] theorem Station.removeOwnClaims_keyCounts : (s.removeOwnClaims).keyCounts = s.keyCounts := rfl
@[simp] theorem Station.removeOwnClaims_measurement : (s.removeOwnClaims).measurement = s.measurement := rfl
@[simp] theorem Station.removeOwnClaims_tracker : (s.removeOwnClaims).tracker = s.tracker := rfl
@[simp] theorem Station.removeOwnClaims_table_entries :
    (s.removeOwnClaims).table.entries = s.table.entries.map (Entry.removeClaims (fun c => c.own)) := rfl
@[simp] theorem Station.removeOwnClaims_table_counts : (s.removeOwnClaims).table.counts = s.table.counts := rfl
@[simp] theorem Station.removeOwnClaims_claims : (s.removeOwnClaims).claims = s.claims := rfl
@[simp] theorem Station.removeOwnClaims_link : (s.removeOwnClaims).link = s.link := rfl
@[simp] theorem Station.removeOwnClaims_records : (s.removeOwnClaims).records = s.records := rfl
@[simp] theorem Station.removeOwnClaims_startup : (s.removeOwnClaims).startup = s.startup := rfl
@[simp] theorem Station.removeOwnClaims_cfg : (s.removeOwnClaims).cfg = s.cfg := rfl
@[simp] theorem Station.removeOwnClaims_ownId : (s.removeOwnClaims).ownId = s.ownId := rfl
@[simp] theorem Station.removeOwnClaims_ready : (s.removeOwnClaims).ready = s.ready := rfl
@[simp] theorem Station.removeOwnClaims_listening : (s.removeOwnClaims).listening = s.listening := rfl
@[simp] theorem Station.removeOwnClaims_findItem (q : ItemRef) : (s.removeOwnClaims).findItem q = s.findItem q := rfl

/-! ### markAllUnconfirmed -/

@[simp] theorem Station.markAllUnconfirmed_clock : (s.markAllUnconfirmed).clock = s.clock := rfl
@[simp] theorem Station.markAllUnconfirmed_lane_pos : (s.markAllUnconfirmed).lane.pos = s.lane.pos := rfl
@[simp] theorem Station.markAllUnconfirmed_lane_nextRef : (s.markAllUnconfirmed).lane.nextRef = s.lane.nextRef := rfl
@[simp] theorem Station.markAllUnconfirmed_lane_sensorOwner :
    (s.markAllUnconfirmed).lane.sensorOwner = s.lane.sensorOwner := rfl
@[simp] theorem Station.markAllUnconfirmed_lane_diverterChute :
    (s.markAllUnconfirmed).lane.diverterChute = s.lane.diverterChute := rfl
@[simp] theorem Station.markAllUnconfirmed_lane_diverterHolder :
    (s.markAllUnconfirmed).lane.diverterHolder = s.lane.diverterHolder := rfl
@[simp] theorem Station.markAllUnconfirmed_lane_counts : (s.markAllUnconfirmed).lane.counts = s.lane.counts := rfl
@[simp] theorem Station.markAllUnconfirmed_receivers : (s.markAllUnconfirmed).receivers = s.receivers := rfl
@[simp] theorem Station.markAllUnconfirmed_headCounts : (s.markAllUnconfirmed).headCounts = s.headCounts := rfl
@[simp] theorem Station.markAllUnconfirmed_keyCounts : (s.markAllUnconfirmed).keyCounts = s.keyCounts := rfl
@[simp] theorem Station.markAllUnconfirmed_measurement : (s.markAllUnconfirmed).measurement = s.measurement := rfl
@[simp] theorem Station.markAllUnconfirmed_tracker : (s.markAllUnconfirmed).tracker = s.tracker := rfl
@[simp] theorem Station.markAllUnconfirmed_table : (s.markAllUnconfirmed).table = s.table := rfl
@[simp] theorem Station.markAllUnconfirmed_claims : (s.markAllUnconfirmed).claims = s.claims := rfl
@[simp] theorem Station.markAllUnconfirmed_link : (s.markAllUnconfirmed).link = s.link := rfl
@[simp] theorem Station.markAllUnconfirmed_records : (s.markAllUnconfirmed).records = s.records := rfl
@[simp] theorem Station.markAllUnconfirmed_startup : (s.markAllUnconfirmed).startup = s.startup := rfl
@[simp] theorem Station.markAllUnconfirmed_cfg : (s.markAllUnconfirmed).cfg = s.cfg := rfl
@[simp] theorem Station.markAllUnconfirmed_ownId : (s.markAllUnconfirmed).ownId = s.ownId := rfl
@[simp] theorem Station.markAllUnconfirmed_ready : (s.markAllUnconfirmed).ready = s.ready := rfl
@[simp] theorem Station.markAllUnconfirmed_listening : (s.markAllUnconfirmed).listening = s.listening := rfl
@[simp] theorem Station.markAllUnconfirmed_entry (j : Key) : (s.markAllUnconfirmed).entry j = s.entry j := rfl

/-! ### modifyContext -/

@[simp] theorem Station.modifyContext_clock (f : Consignment → Consignment) : (s.modifyContext f).clock = s.clock := rfl
@[simp] theorem Station.modifyContext_lane (f : Consignment → Consignment) : (s.modifyContext f).lane = s.lane := rfl
@[simp] theorem Station.modifyContext_receivers (f : Consignment → Consignment) :
    (s.modifyContext f).receivers = s.receivers := rfl
@[simp] theorem Station.modifyContext_headCounts (f : Consignment → Consignment) :
    (s.modifyContext f).headCounts = s.headCounts := rfl
@[simp] theorem Station.modifyContext_keyCounts (f : Consignment → Consignment) :
    (s.modifyContext f).keyCounts = s.keyCounts := rfl
@[simp] theorem Station.modifyContext_measurement (f : Consignment → Consignment) :
    (s.modifyContext f).measurement = s.measurement := rfl
@[simp] theorem Station.modifyContext_tracker_context (f : Consignment → Consignment) :
    (s.modifyContext f).tracker.context = s.tracker.context.map f := rfl
@[simp] theorem Station.modifyContext_tracker_matches (f : Consignment → Consignment) :
    (s.modifyContext f).tracker.matches_ = s.tracker.matches_ := rfl
@[simp] theorem Station.modifyContext_tracker_issued (f : Consignment → Consignment) :
    (s.modifyContext f).tracker.issued = s.tracker.issued := rfl
@[simp] theorem Station.modifyContext_table (f : Consignment → Consignment) : (s.modifyContext f).table = s.table := rfl
@[simp] theorem Station.modifyContext_claims (f : Consignment → Consignment) :
    (s.modifyContext f).claims = s.claims := rfl
@[simp] theorem Station.modifyContext_link (f : Consignment → Consignment) : (s.modifyContext f).link = s.link := rfl
@[simp] theorem Station.modifyContext_records (f : Consignment → Consignment) :
    (s.modifyContext f).records = s.records := rfl
@[simp] theorem Station.modifyContext_startup (f : Consignment → Consignment) :
    (s.modifyContext f).startup = s.startup := rfl
@[simp] theorem Station.modifyContext_cfg (f : Consignment → Consignment) : (s.modifyContext f).cfg = s.cfg := rfl
@[simp] theorem Station.modifyContext_ownId (f : Consignment → Consignment) : (s.modifyContext f).ownId = s.ownId := rfl
@[simp] theorem Station.modifyContext_ready (f : Consignment → Consignment) : (s.modifyContext f).ready = s.ready := rfl
@[simp] theorem Station.modifyContext_listening (f : Consignment → Consignment) :
    (s.modifyContext f).listening = s.listening := rfl
@[simp] theorem Station.modifyContext_findItem (f : Consignment → Consignment) (q : ItemRef) :
    (s.modifyContext f).findItem q = s.findItem q := rfl
@[simp] theorem Station.modifyContext_entry (f : Consignment → Consignment) (j : Key) :
    (s.modifyContext f).entry j = s.entry j := rfl

/-! ### openContext -/

@[simp] theorem Station.openContext_clock (x : Slip) : (s.openContext x).clock = s.clock := rfl
@[simp] theorem Station.openContext_lane (x : Slip) : (s.openContext x).lane = s.lane := rfl
@[simp] theorem Station.openContext_receivers (x : Slip) : (s.openContext x).receivers = s.receivers := rfl
@[simp] theorem Station.openContext_headCounts (x : Slip) : (s.openContext x).headCounts = s.headCounts := rfl
@[simp] theorem Station.openContext_keyCounts (x : Slip) : (s.openContext x).keyCounts = s.keyCounts := rfl
@[simp] theorem Station.openContext_measurement (x : Slip) : (s.openContext x).measurement = s.measurement := rfl
@[simp] theorem Station.openContext_tracker_context (x : Slip) :
    (s.openContext x).tracker.context = some (Consignment.ofSlip x) := rfl
@[simp] theorem Station.openContext_tracker_matches (x : Slip) :
    (s.openContext x).tracker.matches_ = s.tracker.matches_ := rfl
@[simp] theorem Station.openContext_tracker_issued (x : Slip) :
    (s.openContext x).tracker.issued = s.tracker.issued := rfl
@[simp] theorem Station.openContext_table (x : Slip) : (s.openContext x).table = s.table := rfl
@[simp] theorem Station.openContext_claims (x : Slip) : (s.openContext x).claims = s.claims := rfl
@[simp] theorem Station.openContext_link (x : Slip) : (s.openContext x).link = s.link := rfl
@[simp] theorem Station.openContext_records (x : Slip) : (s.openContext x).records = s.records := rfl
@[simp] theorem Station.openContext_startup (x : Slip) : (s.openContext x).startup = s.startup := rfl
@[simp] theorem Station.openContext_cfg (x : Slip) : (s.openContext x).cfg = s.cfg := rfl
@[simp] theorem Station.openContext_ownId (x : Slip) : (s.openContext x).ownId = s.ownId := rfl
@[simp] theorem Station.openContext_ready (x : Slip) : (s.openContext x).ready = s.ready := rfl
@[simp] theorem Station.openContext_listening (x : Slip) : (s.openContext x).listening = s.listening := rfl
@[simp] theorem Station.openContext_findItem (x : Slip) (q : ItemRef) :
    (s.openContext x).findItem q = s.findItem q := rfl
@[simp] theorem Station.openContext_entry (x : Slip) (j : Key) : (s.openContext x).entry j = s.entry j := rfl

/-! ### countMeasure -/

@[simp] theorem Station.countMeasure_clock (f : MeasureCounts → MeasureCounts) :
    (s.countMeasure f).clock = s.clock := rfl
@[simp] theorem Station.countMeasure_lane (f : MeasureCounts → MeasureCounts) : (s.countMeasure f).lane = s.lane := rfl
@[simp] theorem Station.countMeasure_receivers (f : MeasureCounts → MeasureCounts) :
    (s.countMeasure f).receivers = s.receivers := rfl
@[simp] theorem Station.countMeasure_headCounts (f : MeasureCounts → MeasureCounts) :
    (s.countMeasure f).headCounts = s.headCounts := rfl
@[simp] theorem Station.countMeasure_keyCounts (f : MeasureCounts → MeasureCounts) :
    (s.countMeasure f).keyCounts = s.keyCounts := rfl
@[simp] theorem Station.countMeasure_measurement_bufferA (f : MeasureCounts → MeasureCounts) :
    (s.countMeasure f).measurement.bufferA = s.measurement.bufferA := rfl
@[simp] theorem Station.countMeasure_measurement_bufferB (f : MeasureCounts → MeasureCounts) :
    (s.countMeasure f).measurement.bufferB = s.measurement.bufferB := rfl
@[simp] theorem Station.countMeasure_measurement_tare (f : MeasureCounts → MeasureCounts) :
    (s.countMeasure f).measurement.tare = s.measurement.tare := rfl
@[simp] theorem Station.countMeasure_measurement_rejectedRun (f : MeasureCounts → MeasureCounts) :
    (s.countMeasure f).measurement.rejectedRun = s.measurement.rejectedRun := rfl
@[simp] theorem Station.countMeasure_measurement_factor (f : MeasureCounts → MeasureCounts) :
    (s.countMeasure f).measurement.factor = s.measurement.factor := rfl
@[simp] theorem Station.countMeasure_measurement_calibration (f : MeasureCounts → MeasureCounts) :
    (s.countMeasure f).measurement.calibration = s.measurement.calibration := rfl
@[simp] theorem Station.countMeasure_measurement_counts (f : MeasureCounts → MeasureCounts) :
    (s.countMeasure f).measurement.counts = f s.measurement.counts := rfl
@[simp] theorem Station.countMeasure_tracker (f : MeasureCounts → MeasureCounts) :
    (s.countMeasure f).tracker = s.tracker := rfl
@[simp] theorem Station.countMeasure_table (f : MeasureCounts → MeasureCounts) :
    (s.countMeasure f).table = s.table := rfl
@[simp] theorem Station.countMeasure_claims (f : MeasureCounts → MeasureCounts) :
    (s.countMeasure f).claims = s.claims := rfl
@[simp] theorem Station.countMeasure_link (f : MeasureCounts → MeasureCounts) : (s.countMeasure f).link = s.link := rfl
@[simp] theorem Station.countMeasure_records (f : MeasureCounts → MeasureCounts) :
    (s.countMeasure f).records = s.records := rfl
@[simp] theorem Station.countMeasure_startup (f : MeasureCounts → MeasureCounts) :
    (s.countMeasure f).startup = s.startup := rfl
@[simp] theorem Station.countMeasure_cfg (f : MeasureCounts → MeasureCounts) : (s.countMeasure f).cfg = s.cfg := rfl
@[simp] theorem Station.countMeasure_ownId (f : MeasureCounts → MeasureCounts) :
    (s.countMeasure f).ownId = s.ownId := rfl
@[simp] theorem Station.countMeasure_ready (f : MeasureCounts → MeasureCounts) :
    (s.countMeasure f).ready = s.ready := rfl
@[simp] theorem Station.countMeasure_listening (f : MeasureCounts → MeasureCounts) :
    (s.countMeasure f).listening = s.listening := rfl
@[simp] theorem Station.countMeasure_findItem (f : MeasureCounts → MeasureCounts) (q : ItemRef) :
    (s.countMeasure f).findItem q = s.findItem q := rfl
@[simp] theorem Station.countMeasure_entry (f : MeasureCounts → MeasureCounts) (j : Key) :
    (s.countMeasure f).entry j = s.entry j := rfl

/-! ### countLane -/

@[simp] theorem Station.countLane_clock (f : LaneCounts → LaneCounts) : (s.countLane f).clock = s.clock := rfl
@[simp] theorem Station.countLane_lane_pos (f : LaneCounts → LaneCounts) : (s.countLane f).lane.pos = s.lane.pos := rfl
@[simp] theorem Station.countLane_lane_queue (f : LaneCounts → LaneCounts) :
    (s.countLane f).lane.queue = s.lane.queue := rfl
@[simp] theorem Station.countLane_lane_nextRef (f : LaneCounts → LaneCounts) :
    (s.countLane f).lane.nextRef = s.lane.nextRef := rfl
@[simp] theorem Station.countLane_lane_sensorOwner (f : LaneCounts → LaneCounts) :
    (s.countLane f).lane.sensorOwner = s.lane.sensorOwner := rfl
@[simp] theorem Station.countLane_lane_diverterChute (f : LaneCounts → LaneCounts) :
    (s.countLane f).lane.diverterChute = s.lane.diverterChute := rfl
@[simp] theorem Station.countLane_lane_diverterHolder (f : LaneCounts → LaneCounts) :
    (s.countLane f).lane.diverterHolder = s.lane.diverterHolder := rfl
@[simp] theorem Station.countLane_lane_counts (f : LaneCounts → LaneCounts) :
    (s.countLane f).lane.counts = f s.lane.counts := rfl
@[simp] theorem Station.countLane_receivers (f : LaneCounts → LaneCounts) :
    (s.countLane f).receivers = s.receivers := rfl
@[simp] theorem Station.countLane_headCounts (f : LaneCounts → LaneCounts) :
    (s.countLane f).headCounts = s.headCounts := rfl
@[simp] theorem Station.countLane_keyCounts (f : LaneCounts → LaneCounts) :
    (s.countLane f).keyCounts = s.keyCounts := rfl
@[simp] theorem Station.countLane_measurement (f : LaneCounts → LaneCounts) :
    (s.countLane f).measurement = s.measurement := rfl
@[simp] theorem Station.countLane_tracker (f : LaneCounts → LaneCounts) : (s.countLane f).tracker = s.tracker := rfl
@[simp] theorem Station.countLane_table (f : LaneCounts → LaneCounts) : (s.countLane f).table = s.table := rfl
@[simp] theorem Station.countLane_claims (f : LaneCounts → LaneCounts) : (s.countLane f).claims = s.claims := rfl
@[simp] theorem Station.countLane_link (f : LaneCounts → LaneCounts) : (s.countLane f).link = s.link := rfl
@[simp] theorem Station.countLane_records (f : LaneCounts → LaneCounts) : (s.countLane f).records = s.records := rfl
@[simp] theorem Station.countLane_startup (f : LaneCounts → LaneCounts) : (s.countLane f).startup = s.startup := rfl
@[simp] theorem Station.countLane_cfg (f : LaneCounts → LaneCounts) : (s.countLane f).cfg = s.cfg := rfl
@[simp] theorem Station.countLane_ownId (f : LaneCounts → LaneCounts) : (s.countLane f).ownId = s.ownId := rfl
@[simp] theorem Station.countLane_ready (f : LaneCounts → LaneCounts) : (s.countLane f).ready = s.ready := rfl
@[simp] theorem Station.countLane_listening (f : LaneCounts → LaneCounts) :
    (s.countLane f).listening = s.listening := rfl
@[simp] theorem Station.countLane_findItem (f : LaneCounts → LaneCounts) (q : ItemRef) :
    (s.countLane f).findItem q = s.findItem q := rfl
@[simp] theorem Station.countLane_entry (f : LaneCounts → LaneCounts) (j : Key) :
    (s.countLane f).entry j = s.entry j := rfl

/-! ### countDisposed -/

@[simp] theorem Station.countDisposed_clock (r : Bool) : (s.countDisposed r).clock = s.clock := rfl
@[simp] theorem Station.countDisposed_lane (r : Bool) : (s.countDisposed r).lane = s.lane := rfl
@[simp] theorem Station.countDisposed_receivers (r : Bool) : (s.countDisposed r).receivers = s.receivers := rfl
@[simp] theorem Station.countDisposed_headCounts (r : Bool) : (s.countDisposed r).headCounts = s.headCounts := rfl
@[simp] theorem Station.countDisposed_keyCounts (r : Bool) : (s.countDisposed r).keyCounts = s.keyCounts := rfl
@[simp] theorem Station.countDisposed_measurement (r : Bool) : (s.countDisposed r).measurement = s.measurement := rfl
@[simp] theorem Station.countDisposed_tracker (r : Bool) : (s.countDisposed r).tracker = s.tracker := rfl
@[simp] theorem Station.countDisposed_table (r : Bool) : (s.countDisposed r).table = s.table := rfl
@[simp] theorem Station.countDisposed_claims (r : Bool) : (s.countDisposed r).claims = s.claims := rfl
@[simp] theorem Station.countDisposed_link (r : Bool) : (s.countDisposed r).link = s.link := rfl
@[simp] theorem Station.countDisposed_records_overflow (r : Bool) :
    (s.countDisposed r).records.overflow = s.records.overflow := rfl
@[simp] theorem Station.countDisposed_records_pending (r : Bool) :
    (s.countDisposed r).records.pending = s.records.pending := rfl
@[simp] theorem Station.countDisposed_records_flags (r : Bool) :
    (s.countDisposed r).records.flags = s.records.flags := rfl
@[simp] theorem Station.countDisposed_startup (r : Bool) : (s.countDisposed r).startup = s.startup := rfl
@[simp] theorem Station.countDisposed_cfg (r : Bool) : (s.countDisposed r).cfg = s.cfg := rfl
@[simp] theorem Station.countDisposed_ownId (r : Bool) : (s.countDisposed r).ownId = s.ownId := rfl
@[simp] theorem Station.countDisposed_ready (r : Bool) : (s.countDisposed r).ready = s.ready := rfl
@[simp] theorem Station.countDisposed_listening (r : Bool) : (s.countDisposed r).listening = s.listening := rfl
@[simp] theorem Station.countDisposed_findItem (r : Bool) (q : ItemRef) :
    (s.countDisposed r).findItem q = s.findItem q := rfl
@[simp] theorem Station.countDisposed_entry (r : Bool) (j : Key) : (s.countDisposed r).entry j = s.entry j := rfl

/-! ### countLink -/

@[simp] theorem Station.countLink_clock (f : LinkCounts → LinkCounts) : (s.countLink f).clock = s.clock := rfl
@[simp] theorem Station.countLink_lane (f : LinkCounts → LinkCounts) : (s.countLink f).lane = s.lane := rfl
@[simp] theorem Station.countLink_receivers (f : LinkCounts → LinkCounts) :
    (s.countLink f).receivers = s.receivers := rfl
@[simp] theorem Station.countLink_headCounts (f : LinkCounts → LinkCounts) :
    (s.countLink f).headCounts = s.headCounts := rfl
@[simp] theorem Station.countLink_keyCounts (f : LinkCounts → LinkCounts) :
    (s.countLink f).keyCounts = s.keyCounts := rfl
@[simp] theorem Station.countLink_measurement (f : LinkCounts → LinkCounts) :
    (s.countLink f).measurement = s.measurement := rfl
@[simp] theorem Station.countLink_tracker (f : LinkCounts → LinkCounts) : (s.countLink f).tracker = s.tracker := rfl
@[simp] theorem Station.countLink_table (f : LinkCounts → LinkCounts) : (s.countLink f).table = s.table := rfl
@[simp] theorem Station.countLink_claims (f : LinkCounts → LinkCounts) : (s.countLink f).claims = s.claims := rfl
@[simp] theorem Station.countLink_link_txQueue (f : LinkCounts → LinkCounts) :
    (s.countLink f).link.txQueue = s.link.txQueue := rfl
@[simp] theorem Station.countLink_link_rxQueue (f : LinkCounts → LinkCounts) :
    (s.countLink f).link.rxQueue = s.link.rxQueue := rfl
@[simp] theorem Station.countLink_link_sending (f : LinkCounts → LinkCounts) :
    (s.countLink f).link.sending = s.link.sending := rfl
@[simp] theorem Station.countLink_link_holding (f : LinkCounts → LinkCounts) :
    (s.countLink f).link.holding = s.link.holding := rfl
@[simp] theorem Station.countLink_link_chain (f : LinkCounts → LinkCounts) :
    (s.countLink f).link.chain = s.link.chain := rfl
@[simp] theorem Station.countLink_link_lineIdle (f : LinkCounts → LinkCounts) :
    (s.countLink f).link.lineIdle = s.link.lineIdle := rfl
@[simp] theorem Station.countLink_link_reception (f : LinkCounts → LinkCounts) :
    (s.countLink f).link.reception = s.link.reception := rfl
@[simp] theorem Station.countLink_link_generator (f : LinkCounts → LinkCounts) :
    (s.countLink f).link.generator = s.link.generator := rfl
@[simp] theorem Station.countLink_link_gateOpen (f : LinkCounts → LinkCounts) :
    (s.countLink f).link.gateOpen = s.link.gateOpen := rfl
@[simp] theorem Station.countLink_link_counts (f : LinkCounts → LinkCounts) :
    (s.countLink f).link.counts = f s.link.counts := rfl
@[simp] theorem Station.countLink_records (f : LinkCounts → LinkCounts) : (s.countLink f).records = s.records := rfl
@[simp] theorem Station.countLink_startup (f : LinkCounts → LinkCounts) : (s.countLink f).startup = s.startup := rfl
@[simp] theorem Station.countLink_cfg (f : LinkCounts → LinkCounts) : (s.countLink f).cfg = s.cfg := rfl
@[simp] theorem Station.countLink_ownId (f : LinkCounts → LinkCounts) : (s.countLink f).ownId = s.ownId := rfl
@[simp] theorem Station.countLink_ready (f : LinkCounts → LinkCounts) : (s.countLink f).ready = s.ready := rfl
@[simp] theorem Station.countLink_listening (f : LinkCounts → LinkCounts) :
    (s.countLink f).listening = s.listening := rfl
@[simp] theorem Station.countLink_findItem (f : LinkCounts → LinkCounts) (q : ItemRef) :
    (s.countLink f).findItem q = s.findItem q := rfl
@[simp] theorem Station.countLink_entry (f : LinkCounts → LinkCounts) (j : Key) :
    (s.countLink f).entry j = s.entry j := rfl

/-! ### releaseLine -/

@[simp] theorem Station.releaseLine_clock : (s.releaseLine).clock = s.clock := rfl
@[simp] theorem Station.releaseLine_lane : (s.releaseLine).lane = s.lane := rfl
@[simp] theorem Station.releaseLine_receivers : (s.releaseLine).receivers = s.receivers := rfl
@[simp] theorem Station.releaseLine_headCounts : (s.releaseLine).headCounts = s.headCounts := rfl
@[simp] theorem Station.releaseLine_keyCounts : (s.releaseLine).keyCounts = s.keyCounts := rfl
@[simp] theorem Station.releaseLine_measurement : (s.releaseLine).measurement = s.measurement := rfl
@[simp] theorem Station.releaseLine_tracker : (s.releaseLine).tracker = s.tracker := rfl
@[simp] theorem Station.releaseLine_table : (s.releaseLine).table = s.table := rfl
@[simp] theorem Station.releaseLine_claims : (s.releaseLine).claims = s.claims := rfl
@[simp] theorem Station.releaseLine_link_txQueue : (s.releaseLine).link.txQueue = s.link.txQueue := rfl
@[simp] theorem Station.releaseLine_link_rxQueue : (s.releaseLine).link.rxQueue = s.link.rxQueue := rfl
@[simp] theorem Station.releaseLine_link_sending : (s.releaseLine).link.sending = s.link.sending := rfl
@[simp] theorem Station.releaseLine_link_holding : (s.releaseLine).link.holding = false := rfl
@[simp] theorem Station.releaseLine_link_chain : (s.releaseLine).link.chain = 0 := rfl
@[simp] theorem Station.releaseLine_link_lineIdle : (s.releaseLine).link.lineIdle = s.link.lineIdle := rfl
@[simp] theorem Station.releaseLine_link_reception : (s.releaseLine).link.reception = s.link.reception := rfl
@[simp] theorem Station.releaseLine_link_generator : (s.releaseLine).link.generator = s.link.generator := rfl
@[simp] theorem Station.releaseLine_link_gateOpen : (s.releaseLine).link.gateOpen = s.link.gateOpen := rfl
@[simp] theorem Station.releaseLine_link_counts : (s.releaseLine).link.counts = s.link.counts := rfl
@[simp] theorem Station.releaseLine_records : (s.releaseLine).records = s.records := rfl
@[simp] theorem Station.releaseLine_startup : (s.releaseLine).startup = s.startup := rfl
@[simp] theorem Station.releaseLine_cfg : (s.releaseLine).cfg = s.cfg := rfl
@[simp] theorem Station.releaseLine_ownId : (s.releaseLine).ownId = s.ownId := rfl
@[simp] theorem Station.releaseLine_ready : (s.releaseLine).ready = s.ready := rfl
@[simp] theorem Station.releaseLine_listening : (s.releaseLine).listening = s.listening := rfl
@[simp] theorem Station.releaseLine_findItem (q : ItemRef) : (s.releaseLine).findItem q = s.findItem q := rfl
@[simp] theorem Station.releaseLine_entry (j : Key) : (s.releaseLine).entry j = s.entry j := rfl

/-! ### flushTransmit -/

@[simp] theorem Station.flushTransmit_clock : (s.flushTransmit).clock = s.clock := rfl
@[simp] theorem Station.flushTransmit_lane : (s.flushTransmit).lane = s.lane := rfl
@[simp] theorem Station.flushTransmit_receivers : (s.flushTransmit).receivers = s.receivers := rfl
@[simp] theorem Station.flushTransmit_headCounts : (s.flushTransmit).headCounts = s.headCounts := rfl
@[simp] theorem Station.flushTransmit_keyCounts : (s.flushTransmit).keyCounts = s.keyCounts := rfl
@[simp] theorem Station.flushTransmit_measurement : (s.flushTransmit).measurement = s.measurement := rfl
@[simp] theorem Station.flushTransmit_tracker : (s.flushTransmit).tracker = s.tracker := rfl
@[simp] theorem Station.flushTransmit_table : (s.flushTransmit).table = s.table := rfl
@[simp] theorem Station.flushTransmit_claims : (s.flushTransmit).claims = s.claims := rfl
@[simp] theorem Station.flushTransmit_link_txQueue : (s.flushTransmit).link.txQueue = [] := rfl
@[simp] theorem Station.flushTransmit_link_rxQueue : (s.flushTransmit).link.rxQueue = s.link.rxQueue := rfl
@[simp] theorem Station.flushTransmit_link_sending : (s.flushTransmit).link.sending = s.link.sending := rfl
@[simp] theorem Station.flushTransmit_link_holding : (s.flushTransmit).link.holding = s.link.holding := rfl
@[simp] theorem Station.flushTransmit_link_chain : (s.flushTransmit).link.chain = s.link.chain := rfl
@[simp] theorem Station.flushTransmit_link_lineIdle : (s.flushTransmit).link.lineIdle = s.link.lineIdle := rfl
@[simp] theorem Station.flushTransmit_link_reception : (s.flushTransmit).link.reception = s.link.reception := rfl
@[simp] theorem Station.flushTransmit_link_generator : (s.flushTransmit).link.generator = s.link.generator := rfl
@[simp] theorem Station.flushTransmit_link_gateOpen : (s.flushTransmit).link.gateOpen = false := rfl
@[simp] theorem Station.flushTransmit_link_counts : (s.flushTransmit).link.counts = s.link.counts := rfl
@[simp] theorem Station.flushTransmit_records : (s.flushTransmit).records = s.records := rfl
@[simp] theorem Station.flushTransmit_startup : (s.flushTransmit).startup = s.startup := rfl
@[simp] theorem Station.flushTransmit_cfg : (s.flushTransmit).cfg = s.cfg := rfl
@[simp] theorem Station.flushTransmit_ownId : (s.flushTransmit).ownId = s.ownId := rfl
@[simp] theorem Station.flushTransmit_ready : (s.flushTransmit).ready = s.ready := rfl
@[simp] theorem Station.flushTransmit_listening : (s.flushTransmit).listening = s.listening := rfl
@[simp] theorem Station.flushTransmit_findItem (q : ItemRef) : (s.flushTransmit).findItem q = s.findItem q := rfl
@[simp] theorem Station.flushTransmit_entry (j : Key) : (s.flushTransmit).entry j = s.entry j := rfl

/-! ### clearLane -/

@[simp] theorem Station.clearLane_clock : (s.clearLane).clock = s.clock := rfl
@[simp] theorem Station.clearLane_lane_pos : (s.clearLane).lane.pos = s.lane.pos := rfl
@[simp] theorem Station.clearLane_lane_queue : (s.clearLane).lane.queue = [] := rfl
@[simp] theorem Station.clearLane_lane_nextRef : (s.clearLane).lane.nextRef = s.lane.nextRef := rfl
@[simp] theorem Station.clearLane_lane_sensorOwner : (s.clearLane).lane.sensorOwner = none := rfl
@[simp] theorem Station.clearLane_lane_diverterChute : (s.clearLane).lane.diverterChute = 0 := rfl
@[simp] theorem Station.clearLane_lane_diverterHolder : (s.clearLane).lane.diverterHolder = none := rfl
@[simp] theorem Station.clearLane_lane_counts : (s.clearLane).lane.counts = s.lane.counts := rfl
@[simp] theorem Station.clearLane_receivers : (s.clearLane).receivers = s.receivers := rfl
@[simp] theorem Station.clearLane_headCounts : (s.clearLane).headCounts = s.headCounts := rfl
@[simp] theorem Station.clearLane_keyCounts : (s.clearLane).keyCounts = s.keyCounts := rfl
@[simp] theorem Station.clearLane_measurement : (s.clearLane).measurement = s.measurement := rfl
@[simp] theorem Station.clearLane_tracker : (s.clearLane).tracker = s.tracker := rfl
@[simp] theorem Station.clearLane_table : (s.clearLane).table = s.table := rfl
@[simp] theorem Station.clearLane_claims : (s.clearLane).claims = s.claims := rfl
@[simp] theorem Station.clearLane_link : (s.clearLane).link = s.link := rfl
@[simp] theorem Station.clearLane_records : (s.clearLane).records = s.records := rfl
@[simp] theorem Station.clearLane_startup : (s.clearLane).startup = s.startup := rfl
@[simp] theorem Station.clearLane_cfg : (s.clearLane).cfg = s.cfg := rfl
@[simp] theorem Station.clearLane_ownId : (s.clearLane).ownId = s.ownId := rfl
@[simp] theorem Station.clearLane_ready : (s.clearLane).ready = s.ready := rfl
@[simp] theorem Station.clearLane_listening : (s.clearLane).listening = s.listening := rfl
@[simp] theorem Station.clearLane_entry (j : Key) : (s.clearLane).entry j = s.entry j := rfl

/-! ### enterListenOnly -/

@[simp] theorem Station.enterListenOnly_clock : (s.enterListenOnly).clock = s.clock := rfl
@[simp] theorem Station.enterListenOnly_lane : (s.enterListenOnly).lane = s.lane := rfl
@[simp] theorem Station.enterListenOnly_receivers : (s.enterListenOnly).receivers = s.receivers := rfl
@[simp] theorem Station.enterListenOnly_headCounts : (s.enterListenOnly).headCounts = s.headCounts := rfl
@[simp] theorem Station.enterListenOnly_keyCounts : (s.enterListenOnly).keyCounts = s.keyCounts := rfl
@[simp] theorem Station.enterListenOnly_measurement : (s.enterListenOnly).measurement = s.measurement := rfl
@[simp] theorem Station.enterListenOnly_tracker : (s.enterListenOnly).tracker = s.tracker := rfl
@[simp] theorem Station.enterListenOnly_table : (s.enterListenOnly).table = s.table := rfl
@[simp] theorem Station.enterListenOnly_claims : (s.enterListenOnly).claims = s.claims := rfl
@[simp] theorem Station.enterListenOnly_link : (s.enterListenOnly).link = s.link := rfl
@[simp] theorem Station.enterListenOnly_records : (s.enterListenOnly).records = s.records := rfl
@[simp] theorem Station.enterListenOnly_startup_state : (s.enterListenOnly).startup.state = .listenOnly := rfl
@[simp] theorem Station.enterListenOnly_startup_settings :
    (s.enterListenOnly).startup.settings = s.startup.settings := rfl
@[simp] theorem Station.enterListenOnly_startup_stationId :
    (s.enterListenOnly).startup.stationId = s.startup.stationId := rfl
@[simp] theorem Station.enterListenOnly_startup_portSelect :
    (s.enterListenOnly).startup.portSelect = s.startup.portSelect := rfl
@[simp] theorem Station.enterListenOnly_startup_joinTimer :
    (s.enterListenOnly).startup.joinTimer = s.startup.joinTimer := rfl
@[simp] theorem Station.enterListenOnly_startup_announce :
    (s.enterListenOnly).startup.announce = s.startup.announce := rfl
@[simp] theorem Station.enterListenOnly_startup_restartInput :
    (s.enterListenOnly).startup.restartInput = s.startup.restartInput := rfl
@[simp] theorem Station.enterListenOnly_cfg : (s.enterListenOnly).cfg = s.cfg := rfl
@[simp] theorem Station.enterListenOnly_ownId : (s.enterListenOnly).ownId = s.ownId := rfl
@[simp] theorem Station.enterListenOnly_findItem (q : ItemRef) : (s.enterListenOnly).findItem q = s.findItem q := rfl
@[simp] theorem Station.enterListenOnly_entry (j : Key) : (s.enterListenOnly).entry j = s.entry j := rfl

/-! ### announced -/

@[simp] theorem Station.announced_clock : (s.announced).clock = s.clock := rfl
@[simp] theorem Station.announced_lane : (s.announced).lane = s.lane := rfl
@[simp] theorem Station.announced_receivers : (s.announced).receivers = s.receivers := rfl
@[simp] theorem Station.announced_headCounts : (s.announced).headCounts = s.headCounts := rfl
@[simp] theorem Station.announced_keyCounts : (s.announced).keyCounts = s.keyCounts := rfl
@[simp] theorem Station.announced_measurement : (s.announced).measurement = s.measurement := rfl
@[simp] theorem Station.announced_tracker : (s.announced).tracker = s.tracker := rfl
@[simp] theorem Station.announced_table : (s.announced).table = s.table := rfl
@[simp] theorem Station.announced_claims : (s.announced).claims = s.claims := rfl
@[simp] theorem Station.announced_link : (s.announced).link = s.link := rfl
@[simp] theorem Station.announced_records : (s.announced).records = s.records := rfl
@[simp] theorem Station.announced_startup_settings : (s.announced).startup.settings = s.startup.settings := rfl
@[simp] theorem Station.announced_startup_stationId : (s.announced).startup.stationId = s.startup.stationId := rfl
@[simp] theorem Station.announced_startup_portSelect : (s.announced).startup.portSelect = s.startup.portSelect := rfl
@[simp] theorem Station.announced_startup_joinTimer : (s.announced).startup.joinTimer = s.startup.joinTimer := rfl
@[simp] theorem Station.announced_startup_announce : (s.announced).startup.announce = .none := rfl
@[simp] theorem Station.announced_startup_restartInput :
    (s.announced).startup.restartInput = s.startup.restartInput := rfl
@[simp] theorem Station.announced_cfg : (s.announced).cfg = s.cfg := rfl
@[simp] theorem Station.announced_ownId : (s.announced).ownId = s.ownId := rfl
@[simp] theorem Station.announced_findItem (q : ItemRef) : (s.announced).findItem q = s.findItem q := rfl
@[simp] theorem Station.announced_entry (j : Key) : (s.announced).entry j = s.entry j := rfl

/-! ### checkFails -/

@[simp] theorem Station.checkFails_clock : (s.checkFails).clock = s.clock := rfl
@[simp] theorem Station.checkFails_lane : (s.checkFails).lane = s.lane := rfl
@[simp] theorem Station.checkFails_receivers : (s.checkFails).receivers = s.receivers := rfl
@[simp] theorem Station.checkFails_headCounts : (s.checkFails).headCounts = s.headCounts := rfl
@[simp] theorem Station.checkFails_keyCounts : (s.checkFails).keyCounts = s.keyCounts := rfl
@[simp] theorem Station.checkFails_measurement : (s.checkFails).measurement = s.measurement := rfl
@[simp] theorem Station.checkFails_tracker : (s.checkFails).tracker = s.tracker := rfl
@[simp] theorem Station.checkFails_table : (s.checkFails).table = s.table := rfl
@[simp] theorem Station.checkFails_claims : (s.checkFails).claims = s.claims := rfl
@[simp] theorem Station.checkFails_link_txQueue : (s.checkFails).link.txQueue = s.link.txQueue := rfl
@[simp] theorem Station.checkFails_link_rxQueue : (s.checkFails).link.rxQueue = s.link.rxQueue := rfl
@[simp] theorem Station.checkFails_link_sending : (s.checkFails).link.sending = s.link.sending := rfl
@[simp] theorem Station.checkFails_link_holding : (s.checkFails).link.holding = s.link.holding := rfl
@[simp] theorem Station.checkFails_link_chain : (s.checkFails).link.chain = s.link.chain := rfl
@[simp] theorem Station.checkFails_link_lineIdle : (s.checkFails).link.lineIdle = s.link.lineIdle := rfl
@[simp] theorem Station.checkFails_link_reception : (s.checkFails).link.reception = .seeking := rfl
@[simp] theorem Station.checkFails_link_generator : (s.checkFails).link.generator = s.link.generator := rfl
@[simp] theorem Station.checkFails_link_gateOpen : (s.checkFails).link.gateOpen = s.link.gateOpen := rfl
@[simp] theorem Station.checkFails_records : (s.checkFails).records = s.records := rfl
@[simp] theorem Station.checkFails_startup : (s.checkFails).startup = s.startup := rfl
@[simp] theorem Station.checkFails_cfg : (s.checkFails).cfg = s.cfg := rfl
@[simp] theorem Station.checkFails_ownId : (s.checkFails).ownId = s.ownId := rfl
@[simp] theorem Station.checkFails_ready : (s.checkFails).ready = s.ready := rfl
@[simp] theorem Station.checkFails_listening : (s.checkFails).listening = s.listening := rfl
@[simp] theorem Station.checkFails_findItem (q : ItemRef) : (s.checkFails).findItem q = s.findItem q := rfl
@[simp] theorem Station.checkFails_entry (j : Key) : (s.checkFails).entry j = s.entry j := rfl

end Sys2Proof.Machine
end

