-- ==== Sys2Proof/Tests/Slice0.lean ====
section
/-! SUPPORT. Tests: ill-formed operands refused, the manual's own examples and tables, and for every statement with hypotheses a
witness that meets them. Expected values are the manual's, or worked by hand from its rules. -/

namespace Sys2Proof.Tests

open Sys2Proof.Machine

set_option Elab.async false

/-! ### Helpers -/

/-- A station in ACTIVE with id 5 and the defaults, its gate open. -/
def dock : Station := { Station.powerOn with
  link := { Station.powerOn.link with generator := 1286, gateOpen := true }
  startup := { Station.powerOn.startup with
    state := .active, settings := some Settings.defaults, stationId := some 5, portSelect := false } }

/-- The station after a command. -/
def after (c : Instr) (x : Station) : Station :=
  match exec c ⟨x, []⟩ with
  | .next t => t.station
  | .fault _ => x
  | .refused _ => x

/-- A station in another state. -/
def inState (st : StationState) (x : Station) : Station := { x with startup := { x.startup with state := st } }

/-- A station with these items at this position. -/
def lane (pos : Pos) (l : List Item) (x : Station) : Station := { x with lane := { x.lane with pos := pos, queue := l } }

/-- A station with these frames in its transmit queue. -/
def sends (l : List TxFrame) (x : Station) : Station := { x with link := { x.link with txQueue := l } }

/-- A station with these frames received. -/
def heard (l : List RxFrame) (x : Station) : Station := { x with link := { x.link with rxQueue := l } }

/-- A station with these table entries. -/
def holds (l : List Entry) (x : Station) : Station := { x with table := { x.table with entries := l } }

/-- An item with this ref and L = 1000. -/
def fresh (ref : ItemRef) : Item := newItem Settings.defaults ref 1000

/-- An item whose trailing edge came at 1250, all windows closed. -/
def whole (ref : ItemRef) : Item :=
  { fresh ref with trail := some 1250, lane := .read, windows := PerHead.same .closed }

/-- A READY frame before its first attempt. -/
def ready (b : Body) : TxFrame := ⟨b, 0, .ready, false⟩

/-- n frames of no item. -/
def filler (n : Nat) : List TxFrame := List.replicate n (ready (.status .link none))

/-- A good frame of a kind from a source, with this payload. -/
def frame (kind source dest : Byte) (payload : List Byte) : RxFrame :=
  { kind := kind, source := source, dest := dest, payload := payload
    check := frameCheck (coveredBytes ⟨kind, source, dest, payload, 0⟩) }

/-- A frame as the line carries it after 4 recessive bit times, from its lead on: what a receiver has heard of it. -/
def coded (f : RxFrame) : List Bool :=
  List.replicate 4 true ++ stuff (([0x55, 0x5D, f.kind, f.source, f.dest, BitVec.ofNat 8 f.payload.length] ++ f.payload ++
    beBytes 2 f.check.toNat).flatMap byteBits)

/-- A 64-byte block as the levels its bits are clocked in as. -/
def levels (b : Vector Byte 64) : Vector Bool 512 := ⟨(b.toList.flatMap byteBits).toArray, by
  simp [List.length_flatMap, byteBits]⟩

/-- Characters as data symbols. -/
def chars (l : List Nat) : List Symbol := l.map (fun c => BitVec.ofNat 10 c)

/-- Digits as data symbols. -/
def digits (l : List Nat) : List Symbol := l.map (fun d => BitVec.ofNat 10 (48 + d))

/-- ARTICLE 9780000000019 (section 7.14). -/
def title : Key := ⟨.article, 9780000000019⟩

/-- The claim, commit and withdraw payloads of a key, tally 11 and item ref 3. -/
def claimBytes (count flags : Byte) : List Byte := keyBytes title ++ [0, 0, 11, 0, 3, count, flags]

/-! ### Well-formedness: each check refuses (R103, R108, R141, R153) -/

theorem test_521_bits_of_a_frame_are_ill_formed :
    (Instr.frameReceived (List.replicate 4 true ++ List.replicate 521 false)).wellFormed = false := by decide +kernel

theorem test_place_16_is_ill_formed : (Instr.backoffExpiry 16).wellFormed = false := by decide

theorem test_article_of_14_digits_is_ill_formed :
    (Instr.claimExpiry ⟨.article, 10000000000000⟩ 3 7).wellFormed = false := by decide

theorem test_provisional_claim_is_ill_formed : (Instr.claimExpiry ⟨.provisional, 1⟩ 3 7).wellFormed = false := by decide

theorem test_claim_of_station_0_is_ill_formed : (Instr.claimExpiry title 0 7).wellFormed = false := by decide

theorem test_claim_of_station_32_is_ill_formed : (Instr.claimExpiry title 32 7).wellFormed = false := by decide

theorem test_lapse_of_a_serial_past_its_range_is_ill_formed :
    (Instr.requestedLapse ⟨.serial, 1279999973⟩).wellFormed = false := by decide

theorem test_lapse_of_a_provisional_key_is_ill_formed :
    (Instr.requestedLapse ⟨.provisional, 1⟩).wellFormed = false := by decide

theorem test_operands_at_their_limits_are_well_formed :
    (Instr.frameReceived (List.replicate 600 true ++ List.replicate 520 false)).wellFormed = true ∧
    (Instr.backoffExpiry 15).wellFormed = true ∧ (Instr.claimExpiry title 31 7).wellFormed = true ∧
    (Instr.requestedLapse ⟨.serial, 1279999972⟩).wellFormed = true := by decide +kernel

/-! ### The manual's examples -/

/-- R190's test value. -/
theorem test_frame_check_of_nine_digits :
    frameCheck [0x31, 0x32, 0x33, 0x34, 0x35, 0x36, 0x37, 0x38, 0x39] = 0x29B1 := by decide +kernel

/-- Section 3.10: ARTICLE 1234567890128. -/
theorem test_article_reading :
    verdictOf 1 (digits [1, 2, 3, 4, 5, 6, 7, 8, 9, 0, 1, 2, 8]) = .valid ⟨.article, 1234567890128⟩ := by decide +kernel

/-- Section 3.9: 977123456700314 and 1234567914 are one SERIAL key; check character 8 is a misread. -/
theorem test_two_printings_of_one_serial :
    verdictOf 2 (digits [9, 7, 7, 1, 2, 3, 4, 5, 6, 7, 0, 0, 3, 1, 4]) = .valid ⟨.serial, 158024590⟩ ∧
    verdictOf 5 (digits [1, 2, 3, 4, 5, 6, 7, 9, 1, 4]) = .valid ⟨.serial, 158024590⟩ ∧
    verdictOf 5 (digits [1, 2, 3, 4, 5, 6, 7, 8, 1, 4]) = .misread := by decide +kernel

/-- Section 3.10: the slip DS00412877002430518. -/
theorem test_slip_reading :
    verdictOf 6 (chars [0x44, 0x53] ++ digits [0, 0, 4, 1, 2, 8, 7, 7, 0, 0, 2, 4, 3, 0, 5, 1, 8]) =
      .slip ⟨412877, 24, 30518⟩ := by decide +kernel

/-- Section 3.10: a slip beside a label is refused; alone it is a slip. -/
theorem test_slip_with_a_label :
    reconcile (some (.slip ⟨412877, 24, 30518⟩)) (some (.valid ⟨.article, 1234567890128⟩)) = .ambiguous ∧
    reconcile (some (.slip ⟨412877, 24, 30518⟩)) none = .slip ⟨412877, 24, 30518⟩ ∧
    reconcile (some (.slip ⟨412877, 24, 30518⟩)) (some (.slip ⟨412877, 24, 30513⟩)) = .ambiguous := by decide

/-- Section 4.2's worked case: 1000 g, steady; the last filtered value 4008. -/
theorem test_worked_weight :
    computeWeight 8 24 ⟨1512, 410⟩ [4000, 4010, 4006, 4012, 4008, 4010, 4004, 4008, 4010, 4006] =
      (.present 1000 false false, 2497) ∧
    filtered [4000, 4010, 4006, 4012, 4008, 4010, 4004, 4008, 4010, 4006] =
      [4005, 4007, 4009, 4010, 4010, 4008, 4007, 4008, 4009, 4008] := by decide +kernel

/-- Section 4.4: tare drift and re-zero. -/
theorem test_tare_drift :
    tareStep 200 (some 1512) 0 1520 = ⟨1513, 0, false, false⟩ ∧ tareStep 200 (some 1513) 0 1507 = ⟨1513, 0, false, false⟩ ∧
    tareStep 200 (some 1513) 1 1799 = ⟨1513, 2, true, false⟩ ∧ tareStep 200 (some 1513) 3 1799 = ⟨1799, 0, true, true⟩ := by
  decide +kernel

/-- Section 4.5: the worked scale calibrates to 410. -/
theorem test_worked_calibration : calibratedFactor 1000 2497 = some 410 := by decide +kernel

/-- R92's four examples. -/
theorem test_claim_order_examples :
    claimBefore 1207 4 0 1207 9 0 = true ∧ claimBefore 16777210 12 0 5 3 0 = true ∧
    claimBefore 8388624 2 0 16 7 0 = true ∧ claimBefore 8388625 2 0 16 7 0 = true ∧
    claimBefore 16 7 0 8388624 2 0 = false ∧ claimBefore 16 7 0 8388625 2 0 = false := by decide +kernel

/-- Section 8.7: seeds, draws and slots of stations 4 and 9. -/
theorem test_backoff_draws :
    backoffSeed 4 = 0x0405 ∧ backoffStep 0x0405 = 0xB602 ∧ backoffSlots 0xB602 1 = 1 ∧
    backoffSeed 9 = 0x090A ∧ backoffStep 0x090A = 0x0485 ∧ backoffSlots 0x0485 1 = 2 ∧
    backoffStep 0xB602 = 0x5B01 ∧ backoffSlots 0x5B01 2 = 2 ∧ backoffSeed 1 = 258 ∧ backoffSeed 31 = 7968 := by decide +kernel

/-- The gauge symbols of section 2.7. -/
def gaugeSymbols : List Symbol :=
  [0x3FF, 0x3FF, 0x000, 0x3FF, 0x222, 0x3FF, 0x000, 0x3FF, 0x323, 17, 2, 48, 152, 1022]

/-- Section 2.7 from its first symbol to its last: one packet with the pair 48 and 152, and last sequence number 17. -/
theorem test_gauge_line_is_framed :
    let x : Station := { dock with receivers := { dock.receivers with
      gauge := ⟨gaugeSymbols.map (fun s => ⟨s, false⟩), false, .hunt .zero, some 16⟩ } }
    let y := (List.range 14).foldl (fun z _ => after (.framerTakeSymbol .gauge) z) x
    y.receivers.gauge = ⟨[], false, .handOver ⟨0x23, 17, 2, [48, 152], 0, false⟩, some 17⟩ ∧
    pairsOf [48, 152] = [(48, 152)] := by decide +kernel

/-- Section 1.12: the windows of A (L = 10000, T = 10250) at heads 0 and 2. -/
theorem test_window_spans :
    let a : Item := { fresh 41 with lead := 10000, trail := some 10250 }
    a.windowHolds Settings.defaults .reader0 10279 = false ∧ a.windowHolds Settings.defaults .reader0 10280 = true ∧
    a.windowHolds Settings.defaults .reader0 10570 = true ∧ a.windowHolds Settings.defaults .reader0 10571 = false ∧
    a.windowHolds Settings.defaults .scale 10570 = true ∧ a.windowHolds Settings.defaults .scale 10881 = false := by
  decide +kernel

/-- Section 9.9: items 600, 601, 603 and 605. -/
theorem test_review_reasons :
    let m := ChuteMap.defaults
    let a : Item := { whole 600 with corr := .committed, key := some title, ordinal := some 2 }
    let b : Item := { whole 601 with corr := .committed, key := some ⟨.serial, 5⟩, ordinal := some 1, overlong := true }
    let c : Item := { whole 603 with
      corr := .rejected .unsettled, key := some title, crowded := true, crowdMarks := ⟨false, false, true, false⟩ }
    let d : Item := { whole 605 with
      corr := .committed, key := some title, ordinal := some 3, calMark := true, lateReadings := true }
    (a.fixedChute m = 2 ∧ a.reviewReason = none) ∧ (b.fixedChute m = 0 ∧ b.reviewReason = some .overlong) ∧
    (c.fixedChute m = 0 ∧ c.reviewReason = some .unsettled) ∧ (d.fixedChute m = 0 ∧ d.reviewReason = some .lateReadings) := by
  decide +kernel

/-- R192's block of the defaults for station 7, version 1. -/
def defaultBlock : Vector Byte 64 :=
  #v[0x22, 0x60, 0x00, 0x01, 0x07, 0x03, 1, 44, 1, 64, 2, 88, 3, 32, 20, 20, 30, 10, 5, 220, 9, 96, 0, 40, 2, 88, 6, 12,
     0x91, 0xFF, 0x91, 0xFF, 0x22, 0xFF, 0x23, 0xFF, 8, 0, 24, 0, 200, 4, 0, 6, 5, 16, 15, 160, 20, 2, 8, 2,
     0x12, 0x33, 0x12, 0x33, 0x00, 0x00, 1, 244, 0, 0, 0, 0]

/-- R192: that block gives the defaults with version 1 and id 7, and adjusts nothing. -/
theorem test_default_block :
    configuredSettings (levels defaultBlock) = { Settings.defaults with version := 1 } ∧
    configuredId (levels defaultBlock) = some 7 ∧ configAdjusted (levels defaultBlock) = false := by decide +kernel

/-- R192: a D_h of 9000 becomes 8191, a scale factor of 0 becomes 1, a chute place of 9 becomes 0. -/
theorem test_clamped_fields :
    let b := levels (((((defaultBlock.set 6 0x23).set 7 0x28).set 41 0).set 42 0).set 52 0x92)
    (clampedSettings b).distance.reader0 = 8191 ∧ (clampedSettings b).scaleFactor = 1 ∧
    (clampedSettings b).chuteMap.article.first = 0 ∧ configAdjusted b = true := by decide +kernel

/-- Section 8.8: DEPOSIT 298 is selected while COMMIT 301 backs off and fences CORRECTION 301. -/
theorem test_fence_of_section_8_8 :
    let commit : TxFrame := ⟨.commit title 1 301 1, 1, .backoff 1, false⟩
    let deposit (ref : ItemRef) : TxFrame := ready (.deposit (whole ref).deposit)
    let correction := ready (.correction ⟨301, title, 1, .clash, some 6⟩)
    selectFrame [commit, deposit 298, correction, ready (.status .link none), deposit 299] = some 1 ∧
    selectFrame [{ commit with standing := .ready }, correction, deposit 299] = some 0 ∧
    selectFrame [commit, correction, ready (.status .link none), deposit 299] = some 2 ∧
    selectFrame [correction, ready (.status .link none), deposit 299] = some 0 := by decide +kernel

/-- Section 8.1: a stuff bit after seven equal bits; eight equal bits are a line error. -/
theorem test_stuff_bits :
    stuff [true, true, true, true, true, true, true, true] =
      [true, true, true, true, true, true, true, false, true] ∧
    unstuff (List.replicate 8 false) = none := by decide

/-- No word of the table spells a command, and placing one changes nothing. -/
theorem test_no_word_spells_a_command :
    decodeTableWord 32 0 = none ∧ State.reset.withFetchWord 32 0 = State.reset := ⟨rfl, rfl⟩

/-! ### Witnesses: states that meet the premises of the statements, with the clause each meets

Station-to-station statements, whose premise is that a command answers a next state. -/

/-- Every command answers, so these premises are met; here with the pieces of state that move. -/
theorem witness_frames :
    (family .leadingEdge = .lane ∧ ∃ t, exec .leadingEdge ⟨dock, []⟩ = .next t) ∧
    (family (.handOver .scale) = .sensing ∧ ∃ t, exec (.handOver .scale) ⟨dock, []⟩ = .next t) ∧
    (family (.settleExpiry 3) = .correlation ∧ ∃ t, exec (.settleExpiry 3) ⟨dock, []⟩ = .next t) ∧
    (family .joinQuietExpiry = .startup ∧ ∃ t, exec .joinQuietExpiry ⟨dock, []⟩ = .next t) ∧
    (family .collision = .link ∧ ∃ t, exec .collision ⟨dock, []⟩ = .next t) ∧
    (family .heardClaim = .delivery ∧ ∃ t, exec .heardClaim ⟨dock, []⟩ = .next t) :=
  ⟨⟨rfl, _, rfl⟩, ⟨rfl, _, rfl⟩, ⟨rfl, _, rfl⟩, ⟨rfl, _, rfl⟩, ⟨rfl, _, rfl⟩, ⟨rfl, _, rfl⟩⟩

/-- The position moves at its top value. -/
theorem witness_ClockAndEncoder :
    let x := lane 16777215 [] dock
    (∃ t, exec .encoderForwardCount ⟨x, []⟩ = .next t ∧ t.station.lane.pos ≠ x.lane.pos) ∧
    (after .encoderForwardCount x).lane.pos = 0 := ⟨⟨_, rfl, by decide⟩, by decide⟩

/-- The clock's wrap, and an entry that notes its lapse at 4000 ms. -/
theorem test_tick_wraps_and_notes_a_lapse :
    let x : Station := { holds [newEntry title 0 (.requested 4294963296 false)] dock with clock := 4294967295 }
    (after .millisecondTick x).clock = 0 ∧
    (after .millisecondTick x).table.entries = [newEntry title 0 (.requested 4294963296 true)] := by decide +kernel

/-! ### Start-up -/

/-- The port's two directions, most significant bit first; a block with a wrong signature, and right ones with ids 0, 1, 31 and 32. -/
theorem witness_ConfigReadComplete :
    let byte (b : Vector Bool 512) (i : Nat) : Nat := ((b.toList.drop (8 * i)).take 8).foldl (fun v l => 2 * v + l.toNat) 0
    let bad := levels (defaultBlock.set 1 0x61)
    let withId (n : Byte) := levels (defaultBlock.set 4 n)
    State.reset.station.startup.state = .configLoad ∧ State.reset.station.startup.portSelect = true ∧
    Station.powerOn.configDataOut.length = 24 ∧ dock.configDataOut = [] ∧
    ¬ (byte bad 0 = 0x22 ∧ byte bad 1 = 0x60) ∧ (byte (withId 31) 0 = 0x22 ∧ byte (withId 31) 1 = 0x60 ∧ byte (withId 31) 4 = 31) ∧
    (after (.configReadComplete bad) Station.powerOn).startup.state = .listenOnly ∧
    (after (.configReadComplete (withId 0)) Station.powerOn).startup.state = .listenOnly ∧
    (after (.configReadComplete (withId 1)) Station.powerOn).startup.state = .joining ∧
    (after (.configReadComplete (withId 31)) Station.powerOn).link.generator = 7968 ∧
    (after (.configReadComplete (withId 32)) Station.powerOn).startup.state = .listenOnly := by decide +kernel

/-- Section 10.8: a maximum length of 30 and D_dec of 900; and a decision point at h_max = 810, which becomes 811. -/
theorem witness_AdjustmentsBetweenFields :
    let b := levels ((((defaultBlock.set 24 0).set 25 30).set 18 3).set 19 132)
    let near := levels ((defaultBlock.set 18 0).set 19 1)
    let c := { Settings.defaults with dDec := 810, dDiv := 811, minLength := 400, maxLength := 50 }
    (configuredSettings b).maxLength = 50 ∧ (configuredSettings b).dDec = 900 ∧ configAdjusted b = true ∧
    blockByte b 0 = 0x22 ∧ blockByte b 1 = 0x60 ∧
    c.adjust.dDec = 811 ∧ c.adjust.dDiv = 812 ∧ c.adjust.maxLength = 400 ∧
    (clampedSettings near).adjust ≠ clampedSettings near := by decide +kernel

/-- JOINING with the interval of 500 ms just over, the queue with one place left, and full. -/
def joins : Station := { inState .joining dock with
  clock := 501
  link := { dock.link with gateOpen := false }
  startup := { dock.startup with state := .joining, joinTimer := some 1 } }

theorem witness_JoinQuietExpiry :
    joins.startup.state = .joining ∧ joins.startup.joinTimer = some 1 ∧ (joins.clock - 1).toNat = joins.cfg.joinQuiet ∧
    (sends (filler 15) joins).link.txQueue.length < 16 ∧ 16 ≤ (sends (filler 16) joins).link.txQueue.length ∧
    (after .joinQuietExpiry (sends (filler 15) joins)).startup.announce = .queued ∧
    (after .joinQuietExpiry (sends (filler 16) joins)).startup.announce = .waiting := by decide +kernel

/-- The frame ON LINE at a place, the station sending it. -/
def onAir (front back : List TxFrame) (f : TxFrame) (x : Station) : Station := { x with link := { x.link with
  txQueue := front ++ { f with standing := .onLine } :: back, sending := .frame [false] } }

/-- A station whose receiver takes a frame. -/
def taking (x : Station) : Station := { x with link := { x.link with reception := .taking } }

/-- The three events of the station state, and power-on. -/
theorem witness_StationStateMoves :
    (after (.configReadComplete (levels defaultBlock)) Station.powerOn).startup.state = .joining ∧
    (after .attemptComplete (onAir [] [] (ready (.announce 3 0)) joins)).startup.state = .active ∧
    (after (.frameReceived (coded (frame 0x14 5 255 [0, 0, 1, 0, 0]))) (taking dock)).startup.state = .listenOnly ∧
    (after .powerOn dock).startup.state = .configLoad ∧ (after .localRestart dock).startup.state = .active := by
  decide +kernel

/-- A lane at work: a waiting item with its own claim, a queued one with its CLAIM, an open consignment. -/
def busy : Station := { holds [{ newEntry title 0 .known with pending := [⟨5, 11, 7, none, true⟩] }]
    (sends [ready (.claim title 12 8 0 false)]
      (lane 1400 [{ whole 7 with key := some title, corr := .waiting, claimTally := some 11 },
        { whole 8 with key := some title, corr := .queued, claimTally := some 12 }] dock)) with
  tracker := { dock.tracker with context := some ⟨412877, 30518, 24, 3, 1, 1, 1, 1, [], []⟩ } }

/-- A restart by the input and by a RESTART to id 5: WITHDRAW offered, CLAIM taken back, summary INTERRUPTED. -/
theorem witness_LaneRestart :
    let x := heard [frame 0x24 0 5 []] busy
    x.startup.state ≠ .configLoad ∧ x.startup.restartInput = false ∧
    (frame 0x24 0 5 []).source = 0 ∧ (frame 0x24 0 5 []).payload = [] ∧
    x.startup.stationId = some (frame 0x24 0 5 []).dest.toNat ∧
    x.records.overflow = none ∧ x.startup.announce ≠ .waiting ∧ x.link.txQueue.length + x.lane.queue.length < 16 ∧
    (after .localRestart x).lane.queue = [] ∧
    (after .restart x).link.txQueue =
      [ready (.withdraw title 11 7), ready (.summary ⟨412877, 30518, 24, 3, 1, 1, 1, .interrupted⟩)] := by decide +kernel

/-- A restart with records and notices queued, a slot and no item in flight: the queue, the slot and the flags stay. With a waiting
CLAIM of a QUEUED item in a full queue, the slot's record takes its room. -/
theorem witness_RestartKeepsTheQueue :
    let deposit : TxFrame := ⟨.deposit (whole 4).deposit, 3, .backoff 2, false⟩
    let commit : TxFrame := ⟨.commit title 1 3 1, 1, .backoff 1, false⟩
    let slot : Body := .correction ⟨4, title, 1, .clash, some 6⟩
    let x : Station := { sends (deposit :: commit :: filler 13) (lane 1400 [whole 7] dock) with
      records := { dock.records with overflow := some slot, flags := 24#13 } }
    let claim := ready (.claim title 12 8 0 false)
    let z := sends (claim :: filler 15) { x with lane := { x.lane with queue := [{ whole 8 with corr := .queued }] } }
    (∀ i ∈ x.lane.queue, i.corr ≠ .queued ∧ i.settlingOrWaiting = false) ∧ x.tracker.context = none ∧
    (after .localRestart x).link.txQueue = x.link.txQueue ∧ (after .localRestart x).records = x.records ∧
    z.claimWaits claim = true ∧ (after .localRestart z).link.txQueue = filler 15 ++ [ready slot] ∧
    (after .localRestart z).records.overflow = none := by decide +kernel

/-- The restart input held, pressed in CONFIG LOAD, and released. -/
theorem witness_RestartInputLevel :
    let pressed := after .localRestart busy
    pressed.startup.restartInput = true ∧ Station.powerOn.startup.restartInput = false ∧
    Station.powerOn.startup.state = .configLoad ∧
    (after .localRestart Station.powerOn).startup.restartInput = true ∧
    (after .localRestartRelease pressed).startup.restartInput = false := by decide +kernel

/-! ### The lane -/

/-- CONFIG LOAD; seven items, with a PENDING calibration; eight items. -/
theorem witness_LeadingEdge :
    let seven := { lane 50 ((List.range 7).map (fun n => fresh (BitVec.ofNat 16 (n + 1)))) dock with
      measurement := { dock.measurement with calibration := .pending 1000 } }
    let eight := lane 50 ((List.range 8).map (fun n => fresh (BitVec.ofNat 16 (n + 1)))) dock
    after .leadingEdge Station.powerOn = Station.powerOn ∧
    (seven.startup.state ≠ .configLoad ∧ seven.lane.queue.length < 8 ∧ ∀ i ∈ seven.lane.queue, i.ref ≠ seven.lane.nextRef) ∧
    ((after .leadingEdge seven).lane.queue.length = 8 ∧ (after .leadingEdge seven).lane.nextRef = 1) ∧
    8 ≤ eight.lane.queue.length ∧ (after .leadingEdge eight).flag .queueOverrun = true ∧
    (after .leadingEdge eight).lane.counts.untracked = 1 := by decide +kernel

/-- A station whose sensor owner is item 7. -/
def owned (pos : Pos) (i : Item) : Station :=
  { lane pos [i] dock with lane := { (lane pos [i] dock).lane with sensorOwner := some 7 } }

/-- A station whose calibration has chosen item 7. -/
def calibrating (x : Station) : Station := { x with measurement := { x.measurement with calibration := .chosen 1000 7 } }

/-- That calibration has ended in CAL FAILED. -/
def calFailed (x : Station) : Bool := decide (x.measurement.calibration = .none) && x.flag .calFailed

/-- No owner; 39 counts, a blip, its calibration failed; 40 counts, measured; a DECIDED item. -/
theorem witness_TrailingEdge :
    let b := owned 1039 (fresh 7)
    let m := owned 1040 (fresh 7)
    let d := owned 3000 { fresh 7 with lane := .decided, chute := some 1 }
    dock.lane.sensorOwner = none ∧
    (b.findItem 7 = some (fresh 7) ∧ dist (fresh 7).lead b.lane.pos < b.cfg.minLength) ∧
    ((after .trailingEdge b).lane.queue = [] ∧ (after .trailingEdge b).lane.counts.blips = 1) ∧
    calFailed (after .trailingEdge (calibrating b)) = true ∧ calFailed (after .trailingEdge (calibrating m)) = false ∧
    (m.findItem 7 = some (fresh 7) ∧ m.cfg.minLength ≤ dist (fresh 7).lead m.lane.pos) ∧
    (after .trailingEdge m).lane.queue = [{ fresh 7 with trail := some 1040, lane := .reading }] ∧
    (after .trailingEdge d).lane.queue = [{ fresh 7 with trail := some 3000, lane := .decided, chute := some 1 }] := by
  decide +kernel

/-- P − L = 601, from ENTERING and from DECIDED. -/
theorem witness_OverlongCloseOff :
    let x := owned 1601 (fresh 7)
    x.lane.sensorOwner = some 7 ∧ x.findItem 7 = some (fresh 7) ∧
    dist (fresh 7).lead x.lane.pos = x.cfg.maxLength + 1 ∧
    (after .overlongCloseOff x).lane.queue =
      [{ fresh 7 with trail := some 1600, lane := .reading, overlong := true }] := by decide +kernel

/-- The scale window at 600 − 30 = 570 with a PENDING calibration, and reader 0's at 280. -/
theorem witness_WindowOpen :
    let x := { lane 1570 [fresh 7] dock with measurement := { dock.measurement with calibration := .pending 1000 } }
    let y := lane 1280 [fresh 7] dock
    (x.findItem 7 = some (fresh 7) ∧ (fresh 7).windows.get .scale = .notYetOpen ∧
      dist (fresh 7).lead x.lane.pos = x.cfg.distance.get .scale - x.cfg.margin.get .scale) ∧
    (after (.windowOpen 7 .scale) x).measurement.calibration = .chosen 1000 7 ∧
    dist (fresh 7).lead y.lane.pos = y.cfg.distance.get .reader0 - y.cfg.margin.get .reader0 ∧
    (after (.windowOpen 7 .reader0) y).lane.queue = [{ fresh 7 with windows := ⟨.opened, .notYetOpen, .notYetOpen, .notYetOpen⟩ }] := by
  decide +kernel

/-- The gauge window, the last to close, at T + 800 + 10 + 1 = 2061. -/
theorem witness_GaugeClose :
    let i : Item := { whole 7 with
      lane := .reading, windows := ⟨.closed, .closed, .closed, .opened⟩, maxThickness := some 48, maxWidth := some 152 }
    let x := lane 2061 [i] dock
    x.findItem 7 = some i ∧ i.trail = some 1250 ∧ i.windows.gauge = .opened ∧
    dist 1250 x.lane.pos = x.cfg.distance.gauge + x.cfg.margin.gauge + 1 ∧
    (after (.windowClose 7 .gauge) x).lane.queue =
      [{ i with windows := PerHead.same .closed, lane := .read, thickness := some 48, width := some 152,
                maxThickness := none, maxWidth := none }] := by decide +kernel

/-- An item at its scale close, T + 600 + 30 + 1 = 1881, with n samples in buffer A. -/
def atScaleClose (n : Nat) (tare : Option Int) (i : Item) : Station :=
  { lane 1881 [i] dock with measurement := { dock.measurement with
    tare := tare, bufferA := ⟨some 7, List.replicate n 4000, none⟩ } }

/-- An item whose scale window is the last open. -/
def weighed : Item := { whole 7 with lane := .reading, windows := ⟨.closed, .closed, .opened, .closed⟩ }

/-- 10 samples with a tare start a computation; 9 samples, no tare, a crowding mark and no buffer leave the weight absent. -/
theorem witness_ScaleClose :
    let x := atScaleClose 10 (some 1512) weighed
    let cause (y : Station) : Option WeightRecord := ((after (.windowClose 7 .scale) y).findItem 7).bind (fun i => i.weight)
    (x.findItem 7 = some weighed ∧ weighed.trail = some 1250 ∧ weighed.windows.scale = .opened ∧
      dist 1250 x.lane.pos = x.cfg.distance.scale + x.cfg.margin.scale + 1) ∧
    (after (.windowClose 7 .scale) x).measurement.bufferA.computing = some ⟨1512, 1024⟩ ∧
    cause (atScaleClose 9 (some 1512) weighed) = some (.absent .tooFewSamples) ∧
    cause (atScaleClose 10 none weighed) = some (.absent .noTare) ∧
    cause (atScaleClose 10 none { weighed with crowdMarks := ⟨false, false, true, false⟩ }) = some (.absent .crowded) ∧
    cause (atScaleClose 10 none { weighed with bufferRefused := true }) = some (.absent .buffer) ∧
    cause (lane 1881 [weighed] dock) = some (.absent .noSamples) ∧
    calFailed (after (.windowClose 7 .scale) (calibrating (atScaleClose 10 none weighed))) = true ∧
    calFailed (after (.windowClose 7 .scale) (calibrating x)) = false := by decide +kernel

/-- An item at its identifier close, reader 0 closing second at T + 300 + 20 + 1 = 1571, with these verdicts. -/
def closing (a b : Option Verdict) : Item :=
  { whole 7 with
    lane := .reading, windows := ⟨.opened, .closed, .notYetOpen, .notYetOpen⟩
    slot0 := a.map (fun v => ⟨1, [], v⟩), slot1 := b.map (fun v => ⟨1, [], v⟩) }

/-- That item alone on the lane. -/
def atClose (i : Item) : Station := lane 1571 [i] dock

/-- The first reader's close, and the second's for each outcome. -/
theorem witness_ReaderClose :
    let i := closing (some (.valid title)) (some .misread)
    let first : Item := { i with windows := ⟨.opened, .opened, .notYetOpen, .notYetOpen⟩ }
    let outcome (i : Item) : Option IdOutcome :=
      ((after (.windowClose 7 .reader0) (atClose i)).findItem 7).bind (fun i => i.outcome)
    ((atClose i).findItem 7 = some i ∧ i.trail = some 1250 ∧ i.windows.get .reader0 = .opened ∧
      i.windows.get .reader1 = .closed ∧
      dist 1250 (atClose i).lane.pos = (atClose i).cfg.distance.get .reader0 + (atClose i).cfg.margin.get .reader0 + 1) ∧
    first.windows.get .reader1 ≠ .closed ∧ outcome first = none ∧
    outcome i = some .keyed ∧ outcome (closing (some (.slip ⟨1, 2, 3⟩)) none) = some .slip ∧
    outcome (closing none (some .misread)) = some .unidentified ∧
    outcome (closing (some (.valid title)) (some (.slip ⟨1, 2, 3⟩))) = some (.refused true) ∧
    outcome { i with crowdMarks := ⟨true, false, false, false⟩ } = some (.refused false) := by decide +kernel

/-- An item whose reader 1 closes second, at T + 320 + 20 + 1 = 1591, its last window, with these verdicts. -/
def closing1 (a b : Option Verdict) : Item := { closing a b with windows := ⟨.closed, .opened, .closed, .closed⟩ }

/-- Either reader closes second: the premise of the statements about the identifier close. -/
theorem witness_SecondReaderCloses :
    (atClose (closing none none)).SecondReaderCloses 7 .reader0 (closing none none) ∧
    (lane 1591 [closing1 none none] dock).SecondReaderCloses 7 .reader1 (closing1 none none) :=
  ⟨⟨rfl, ⟨1250, rfl, by decide +kernel⟩, rfl, .inl ⟨rfl, rfl⟩⟩, ⟨rfl, ⟨1250, rfl, by decide +kernel⟩, rfl, .inr ⟨rfl, rfl⟩⟩⟩

/-- Reader 1 closing second moves the item to READ, opens a consignment, and takes a key. -/
theorem test_reader_1_closes_second :
    let y (a b : Option Verdict) : Station := after (.windowClose 7 .reader1) (lane 1591 [closing1 a b] dock)
    ((y none none).findItem 7).map (fun j => (j.lane, j.trackerMark)) = some (.read, some .noKey) ∧
    (y none (some (.slip ⟨412877, 24, 30518⟩))).tracker.context = some ⟨412877, 30518, 24, 0, 0, 0, 0, 0, [], []⟩ ∧
    ((y (some (.valid title)) none).findItem 7).map (fun j => (j.lane, j.corr)) = some (.read, .queued) := by decide +kernel

/-- A slip with and without an open consignment short of its declared count. -/
theorem witness_SlipOpensAConsignment :
    let i := closing (some (.slip ⟨412877, 24, 30518⟩)) none
    let x := atClose i
    let y := { x with tracker := { x.tracker with context := some ⟨99, 1, 5, 4, 0, 0, 0, 0, [], []⟩ } }
    i.crowdMarks.reader0 = false ∧ i.crowdMarks.reader1 = false ∧
    reconcile (slotVerdict i.slot0) (slotVerdict i.slot1) = .slip ⟨412877, 24, 30518⟩ ∧
    (after (.windowClose 7 .reader0) x).tracker.context = some ⟨412877, 30518, 24, 0, 0, 0, 0, 0, [], []⟩ ∧
    y.startup.state ≠ .listenOnly ∧ y.link.txQueue.length < 16 ∧
    (after (.windowClose 7 .reader0) y).link.txQueue = [ready (.summary ⟨99, 1, 5, 4, 0, 0, 0, .short⟩)] := by
  decide +kernel

/-- An unidentified item with its weight in a consignment whose next index is 4094, the last that is issued. -/
theorem witness_UnidentifiedItemIsIssuedAKey :
    let i := { closing none none with weight := some (.present 1000 false false) }
    let c : Consignment := ⟨412877, 30518, 0, 3, 0, 0, 0, 4094, [], []⟩
    let x := { atClose i with tracker := { (atClose i).tracker with context := some c } }
    reconcile (slotVerdict i.slot0) (slotVerdict i.slot1) = .unidentified ∧ i.corr = .unkeyed ∧ i.calMark = false ∧
    x.startup.state ≠ .listenOnly ∧ c.roster = [] ∧ c.nextIndex < 4095 ∧ c.declared = 0 ∧
    x.entry ⟨.provisional, 412877 * 4096 + 4094⟩ = none ∧ x.table.entries.length < 4096 ∧
    ((after (.windowClose 7 .reader0) x).findItem 7).bind (fun j => j.key) =
      some ⟨.provisional, 412877 * 4096 + 4094⟩ := by decide +kernel

/-- Two stale keys at the indices 4092 and 4093 are passed over; with a third at 4094 the index comes to 4095, and no key is issued. -/
theorem witness_StaleKeys :
    let key (n : Nat) : Key := ⟨.provisional, 412877 * 4096 + n⟩
    let c : Consignment := ⟨412877, 30518, 0, 3, 0, 0, 0, 4092, [], []⟩
    let i := { closing none none with weight := some (.present 1000 false false) }
    let x (l : List Nat) : Station := { holds (l.map (fun n => newEntry (key n) 5 .known)) (atClose i) with
      tracker := { (atClose i).tracker with context := some c } }
    let y (l : List Nat) : Station := after (.windowClose 7 .reader0) (x l)
    (∀ m, 4092 ≤ m → m < 4094 → ((x [4092, 4093]).entry (key m)).isSome = true) ∧
    (x [4092, 4093]).entry (key 4094) = none ∧
    (((y [4092, 4093]).findItem 7).bind (fun j => j.key) = some (key 4094) ∧
      (y [4092, 4093]).tracker.context.map (fun d => d.nextIndex) = some 4095) ∧
    ((y [4092, 4093, 4094]).findItem 7).map (fun j => (j.key, j.trackerMark)) = some (none, some .noKey) ∧
    (y [4092, 4093, 4094]).table = (x [4092, 4093, 4094]).table := by
  refine ⟨fun m h h' => ?_, by decide +kernel, by decide +kernel, by decide +kernel, by decide +kernel⟩
  obtain rfl | rfl : m = 4092 ∨ m = 4093 := by omega
  all_goals decide +kernel

/-- A roster of 64 whose newest reference is 13 g off, and whose others, beyond the scan depth, would pass: none passes, a key is
issued, and the oldest reference leaves the roster for it. -/
theorem witness_NoReferencePasses :
    let key (n : Nat) : Key := ⟨.provisional, 412877 * 4096 + n⟩
    let stored (n grams : Nat) : Entry := { newEntry (key n) 1 .known with stored := some ⟨grams, false, some 50⟩ }
    let i := { closing none none with weight := some (.present 1000 true false) }
    let roster := (List.range 64).map key
    let c : Consignment := ⟨412877, 30518, 9, 3, 0, 0, 0, 64, [], roster⟩
    let x := { holds [stored 0 1000, stored 63 1013] (atClose i) with
      tracker := { (atClose i).tracker with context := some c }
      startup := { (atClose i).startup with settings := some { Settings.defaults with scanDepth := 1 } } }
    let y := after (.windowClose 7 .reader0) x
    (c.roster.reverse.take x.cfg.scanDepth = [key 63] ∧ ¬ x.Passes 1000 true none (key 63)) ∧
    c.roster.length = 64 ∧ x.entry (key 64) = none ∧ ((y.findItem 7).bind (fun j => j.key)) = some (key 64) ∧
    y.tracker.context.map (fun d => d.roster) = some (roster.drop 1 ++ [key 64]) := by
  refine ⟨⟨by decide +kernel, ?_⟩, by decide +kernel, by decide +kernel, by decide +kernel, by decide +kernel⟩
  rintro ⟨e, p, he, hp, hw, -⟩
  cases he
  cases hp
  revert hw
  decide +kernel

/-- Newest first: a reference 13 g off passes for an unsteady item, the one before it would have too, and the one behind does not
come to it. The match commits C + 1, and the stamp before leaves the consignment open. -/
theorem witness_RosterMatch :
    let key (n : Nat) : Key := ⟨.provisional, 412877 * 4096 + n⟩
    let stored (n grams : Nat) : Entry := { newEntry (key n) 1 .known with stored := some ⟨grams, false, some 50⟩ }
    let i := { closing none none with weight := some (.present 1000 true false), thickness := some 51 }
    let c : Consignment := ⟨412877, 30518, 9, 3, 0, 0, 0, 3, [], [key 0, key 1, key 2]⟩
    let x := { holds [stored 0 1000, stored 1 1012, stored 2 1013] (atClose i) with
      tracker := { (atClose i).tracker with context := some c } }
    let y := after (.windowClose 7 .reader0) x
    x.cfg.weightTolerance = 6 ∧ i.weight = some (.present 1000 true false) ∧ i.corr = .unkeyed ∧ i.calMark = false ∧
    (x.table.entries.map Entry.key).Nodup ∧ c.roster.reverse.take x.cfg.scanDepth = [key 2] ++ key 1 :: [key 0] ∧
    x.entry (key 1) = some (stored 1 1012) ∧ x.startup.state ≠ .listenOnly ∧ min 65535 (c.counted + 1) ≠ c.declared ∧
    (y.findItem 7).map (fun j => (j.key, j.corr, j.ordinal)) = some (some (key 1), .committed, some 2) ∧
    y.table.entries.map (fun e => (e.key, e.committed)) = [(key 0, 1), (key 2, 1), (key 1, 2)] ∧
    y.tracker.matches_ = 1 := by decide +kernel

/-- What R82's tests 1 to 5 leave of an unidentified item. -/
theorem witness_TestsBeforeTheScan :
    let c : Consignment := ⟨412877, 30518, 0, 3, 0, 0, 0, 0, [], []⟩
    let marked (st : StationState) (c : Option Consignment) (i : Item) : Option (Option TrackerMark × Bool) :=
      let x := inState st (atClose i)
      ((after (.windowClose 7 .reader0) { x with tracker := { x.tracker with context := c } }).findItem 7).map
        (fun j => (j.trackerMark, j.matching))
    let i := closing none none
    let w := some (.present 1000 false false)
    i.corr = .unkeyed ∧ c.declared = 0 ∧
    marked .active none i = some (some .noKey, false) ∧ marked .active (some c) i = some (none, true) ∧
    marked .listenOnly (some c) { i with weight := w } = some (some .notActive, false) ∧
    marked .active (some c) { i with weight := w, calMark := true } = some (none, false) ∧
    marked .active (some c) { i with weight := some (.absent .noTare) } = some (some .weightAbsent, false) := by decide +kernel

/-- The last item declared, its readings crowded, closes the consignment; declared 65535, the highest count. -/
theorem witness_CompleteClose :
    let i := { closing none none with crowdMarks := ⟨true, false, false, false⟩ }
    let c : Consignment := ⟨412877, 30518, 65535, 65534, 0, 0, 0, 0, [], []⟩
    let x := { sends (filler 15) (atClose i) with tracker := { (atClose i).tracker with context := some c } }
    let y := after (.windowClose 7 .reader0) x
    i.crowdMarks.reader0 = true ∧ c.declared ≠ 0 ∧ min 65535 (c.counted + 1) = c.declared ∧ x.startup.state ≠ .listenOnly ∧
    x.link.txQueue.length < 16 ∧ y.tracker.context = none ∧ (y.findItem 7).map (fun j => j.consignment) = some (some 412877) ∧
    y.link.txQueue = filler 15 ++ [ready (.summary ⟨412877, 30518, 65535, 65535, 0, 0, 0, .complete⟩)] := by decide +kernel

/-- The same close with a key taken in ACTIVE and one place left: the summary takes it, and the CLAIM is refused (the model's choice,
notes/assumptions/6.md). -/
theorem test_summary_before_claim :
    let i := closing (some (.valid title)) none
    let c : Consignment := ⟨412877, 30518, 4, 3, 0, 0, 0, 0, [], []⟩
    let x := { sends (filler 15) (atClose i) with tracker := { (atClose i).tracker with context := some c } }
    let y := after (.windowClose 7 .reader0) x
    y.link.txQueue = filler 15 ++ [ready (.summary ⟨412877, 30518, 4, 4, 0, 0, 0, .complete⟩)] ∧
    (y.findItem 7).map (fun j => j.corr) = some (.rejected .claimAbandoned) := by decide +kernel

/-- A key claimed with one place left and no consignment, and one with an open consignment and 14 frames. -/
theorem witness_TakingAKeyOffersAClaim :
    let i := closing (some (.valid title)) none
    let x := sends (filler 15) (atClose i)
    let y := holds [{ newEntry title 2 .unknown with pending := [⟨3, 9, 1, some 0, false⟩] }] (sends (filler 14) (atClose i))
    reconcile (slotVerdict i.slot0) (slotVerdict i.slot1) = .keyed title ∧ i.corr = .unkeyed ∧ i.calMark = false ∧
    x.startup.state = .active ∧ x.link.txQueue.length < 16 ∧ x.tracker.context = none ∧ x.table.entries.length < 4096 ∧
    (y.link.txQueue.length < 15 ∧ (y.entry title).isSome = true ∧ (y.table.entries.map Entry.key).Nodup) ∧
    (after (.windowClose 7 .reader0) x).claims.tally = 1 ∧
    (after (.windowClose 7 .reader0) y).link.txQueue = filler 14 ++ [ready (.claim title 1 7 2 true)] := by decide +kernel

/-- A key not claimed: in JOINING, with the calibration mark, with six own claims, at a full queue. -/
theorem witness_TakingAKeyRefused :
    let i := closing (some (.valid title)) none
    let corr (x : Station) : Option CorrState := ((after (.windowClose 7 .reader0) x).findItem 7).map (fun j => j.corr)
    let own (n : Nat) : Claim := ⟨5, BitVec.ofNat 24 n, BitVec.ofNat 16 n, none, true⟩
    let six := holds [{ newEntry title 0 .known with pending := (List.range 6).map own }] (atClose i)
    corr (inState .joining (atClose i)) = some (.rejected .notActive) ∧
    corr (atClose { i with calMark := true }) = some .unkeyed ∧
    corr six = some (.rejected .claimsFull) ∧
    corr (sends (filler 16) (atClose i)) = some (.rejected .claimAbandoned) ∧
    ∃ e, six.entry title = some e ∧ 6 ≤ (e.pending.filter (fun c => c.own)).length :=
  ⟨by decide +kernel, by decide +kernel, by decide +kernel, by decide +kernel, _, rfl, by decide +kernel⟩

/-- An item with its decision point reached. -/
def atDecision (i : Item) (x : Station) : Station := lane 2500 [i] x

/-- A committed item, and an UNKEYED one. -/
theorem witness_DecisionOfASettledItem :
    let i : Item := { whole 7 with key := some title, corr := .committed, ordinal := some 2, outcome := some .keyed }
    let x := atDecision i dock
    x.findItem 7 = some i ∧ i.lane = .read ∧ dist i.lead x.lane.pos = x.cfg.dDec ∧ i.matching = false ∧ i.corr.final = true ∧
    ((after (.decisionDue 7) x).findItem 7).map (fun j => (j.lane, j.chute, j.review)) = some (.decided, some 2, none) ∧
    ((after (.decisionDue 7) (atDecision (whole 7) dock)).findItem 7).map (fun j => (j.chute, j.review)) =
      some (some 0, some .noKey) := by decide +kernel

/-- An item at its decision, in the member list of the open consignment, or alone outside it. -/
def classified (i : Item) (l : List ItemRef) : Option Consignment :=
  let x := atDecision i dock
  (after (.decisionDue 7) { x with
    tracker := { x.tracker with context := some ⟨412877, 30518, 0, 3, 0, 0, 0, 0, l, []⟩ } }).tracker.context

/-- The class counts of a consignment that has the item, and of one that has not. -/
theorem witness_ClassCounts :
    let c (a b r : Nat) (l : List ItemRef) : Option Consignment := some ⟨412877, 30518, 0, 3, a, b, r, 0, l, []⟩
    let i : Item := { whole 7 with key := some title, corr := .committed, ordinal := some 1, outcome := some .keyed }
    classified i [6, 7] = c 1 0 0 [6] ∧ classified { i with key := some ⟨.provisional, 4096⟩ } [7] = c 0 1 0 [] ∧
    classified { i with overlong := true } [7] = c 0 0 1 [] ∧ classified i [6] = c 0 0 0 [6] ∧
    classified { whole 7 with outcome := some .slip } [7] = c 0 0 0 [7] := by decide +kernel

/-- The entry of an own claim of item 7 behind one of station 3. -/
def contested (h : Holdings) : Entry :=
  { newEntry title 1 h with pending := [⟨3, 9, 1, some 0, false⟩, ⟨5, 11, 7, none, true⟩] }

/-- Items QUEUED, SETTLING, WAITING, and late with a window open. -/
theorem witness_DecisionFinalizesTheItem :
    let i : Item := { whole 7 with key := some title, claimTally := some 11 }
    let at_ (c : CorrState) : Station := holds [contested .known] (atDecision { i with corr := c } dock)
    let late := atDecision { i with lane := .reading, windows := ⟨.closed, .closed, .closed, .opened⟩ } dock
    let corr (x : Station) : Option (CorrState × Option Nat) :=
      ((after (.decisionDue 7) x).findItem 7).map (fun j => (j.corr, j.ordinal))
    (at_ .waiting).findItem 7 = some { i with corr := .waiting } ∧ (i.lane.undecided = true) ∧
    dist i.lead (at_ .waiting).lane.pos = (at_ .waiting).cfg.dDec ∧ i.departed = false ∧ i.depositHeld = false ∧
    (at_ .waiting).entry title = some (contested .known) ∧
    (contested .known).ownClaim 7 = some ⟨5, 11, 7, none, true⟩ ∧
    corr (at_ .queued) = some (.rejected .unsettled, none) ∧ corr (at_ (.settling 40)) = some (.rejected .unsettled, none) ∧
    corr (at_ .waiting) = some (.committed, some 3) ∧
    ((after (.decisionDue 7) late).findItem 7).map (fun j => (j.lateReadings, j.chute)) = some (true, some 0) := by
  decide +kernel

/-- A claim ahead; and REQUESTED holdings with none ahead. -/
theorem witness_RankedCommit :
    let i : Item := { whole 7 with key := some title, corr := .waiting }
    let e := contested .known
    let x := holds [e] (atDecision i dock)
    let c : Claim := ⟨5, 11, 7, none, true⟩
    x.findItem 7 = some i ∧ i.lane = .read ∧ x.entry title = some e ∧
    e.pending.find? (fun c => c.own && decide (c.ref = 7)) = some c ∧
    0 < (e.pending.filter (fun a => a.before c)).length ∧
    (after (.decisionDue 7) x).link.txQueue = [ready (.commit title 11 7 3)] ∧
    ((after (.decisionDue 7) (holds [{ e with pending := [c], holdings := .requested 0 false }] x)).findItem 7).map
      (fun j => (j.ordinal, j.ranked, j.holdingsUnconfirmed)) = some (some 2, false, true) := by decide +kernel

/-- The ranked commit's entry, count and lost COMMIT; a QUEUED item's CLAIM taken out, and marked ON LINE; a SETTLING item's WITHDRAW,
and the WAITING item behind it let go. -/
theorem witness_DecisionEndsTheClaim :
    let i : Item := { whole 7 with key := some title, claimTally := some 11 }
    let o : Item := { whole 8 with key := some title, corr := .waiting }
    let own : Claim := ⟨5, 11, 7, none, true⟩
    let next : Claim := ⟨5, 12, 8, none, true⟩
    let claim := ready (.claim title 11 7 1 false)
    let at_ (c : CorrState) (l : List Claim) (tx : List TxFrame) : Station :=
      sends tx (holds [{ newEntry title 1 .known with pending := l }] (lane 2500 [{ i with corr := c }, o] dock))
    let y (c : CorrState) (l : List Claim) (tx : List TxFrame) : Station := after (.decisionDue 7) (at_ c l tx)
    let ranked := y .waiting (contested .known).pending (filler 16)
    let left (x : Station) : Option (Nat × List Claim) := (x.entry title).map (fun e => (e.committed, e.pending))
    ((i.lane.undecided = true ∧ i.windows.reader0 ≠ .opened) ∧ ((at_ .queued [own] [claim]).lane.queue.map Item.ref).Nodup ∧
      (at_ .queued [own] [claim]).link.txQueue.filter (fun g => g.isClaimOf 7) = [claim]) ∧
    (ranked.entry title).map (fun e => (e.committed, e.ownCommitted)) = some (3, [⟨7, 3, 11⟩]) ∧
    (ranked.claims.counts.ranked = 1 ∧ ranked.flag .txAbandon = true) ∧
    ((y .queued [own] [claim]).link.txQueue = [] ∧ left (y .queued [own] [claim]) = some (1, [])) ∧
    (y .queued [own] [{ claim with standing := .onLine }]).link.txQueue =
      [{ claim with standing := .onLine, takenBack := true }] ∧
    (y (.settling 40) [own, next] []).link.txQueue = [ready (.withdraw title 11 7), ready (.commit title 12 8 2)] ∧
    left (y (.settling 40) [own, next] []) = some (2, []) ∧
    (y (.settling 40) [own] (filler 16)).claims.counts.withdrawals = 1 ∧
    (y (.settling 40) [own] (filler 16)).flag .txAbandon = true := by decide +kernel

/-- P − L = 2400 with an older holder still there at another chute. -/
theorem witness_DivertPoint :
    let i : Item := { whole 7 with lane := .decided, chute := some 2 }
    let old : Item := { whole 6 with lane := .diverting, chute := some 1 }
    let x := { lane 3400 [old, i] dock with
      lane := { (lane 3400 [old, i] dock).lane with diverterChute := 1, diverterHolder := some 6 } }
    x.findItem 7 = some i ∧ i.lane = .decided ∧ i.chute = some 2 ∧ dist i.lead x.lane.pos = x.cfg.dDiv ∧
    (after (.divertPoint 7) x).lane.diverterChute = 2 ∧
    (after (.divertPoint 7) x).lane.queue = [{ old with misdiverted := true }, { i with lane := .diverting }] := by
  decide +kernel

/-- P − T = 2400: room, a calibration failed by the removal; a full queue with the slot empty, which leaves it, and occupied;
LISTEN-ONLY; and T absent. -/
theorem witness_Departure :
    let i : Item := { whole 7 with lane := .diverting, chute := some 1 }
    let x := lane 3650 [i] dock
    let full := sends (filler 16) x
    let held := { full with records := { full.records with overflow := some (.status .link none) } }
    (x.findItem 7 = some i ∧ i.departed = false ∧ i.trail = some 1250 ∧ dist 1250 x.lane.pos = x.cfg.dDiv) ∧
    (after (.departure 7) (sends (filler 15) x)).link.txQueue = filler 15 ++ [ready (.deposit i.deposit)] ∧
    (after (.departure 7) full).records.overflow = some (.deposit i.deposit) ∧
    (after (.departure 7) full).lane.queue = [{ i with departed := true, depositHeld := true }] ∧
    (after (.departure 7) held).lane.queue = [{ i with departed := true }] ∧
    (after (.departure 7) (inState .listenOnly x)).lane.queue = [] ∧
    calFailed (after (.departure 7) (calibrating x)) = true ∧ calFailed (after (.departure 7) (calibrating full)) = false ∧
    after (.departure 7) (lane 3650 [{ i with trail := none }] dock) = lane 3650 [{ i with trail := none }] dock := by
  decide +kernel

/-- Section 9.10: a record's room takes DEPOSIT 610, and 611 takes the slot. -/
theorem test_full_queue_of_section_9_10 :
    let d (ref : ItemRef) : Item := { whole ref with lane := .diverting, chute := some 1, departed := true }
    let first := { d 610 with depositHeld := true }
    let x := onAir (filler 15) [] (ready (.commit title 1 3 1)) (lane 3650 [first, d 611] dock)
    let y := after .attemptComplete { x with records := { x.records with overflow := some (.deposit first.deposit) } }
    y.lane.queue = [{ d 611 with depositHeld := true }] ∧ y.records.overflow = some (.deposit (d 611).deposit) ∧
    y.link.txQueue.length = 16 := by decide +kernel

/-- The item threshold of 6 at 5 and 6 items, the transmit threshold of 12, and a state that is not ACTIVE. -/
theorem witness_LaneHoldOutput :
    let items (n : Nat) := lane 50 ((List.range n).map (fun n => fresh (BitVec.ofNat 16 (n + 1)))) dock
    (items 5).laneHold = false ∧ (items 6).laneHold = true ∧ (items 6).startup.state ≠ .configLoad ∧
    (items 6).lane.queue.length < 8 ∧ (sends (filler 11) dock).laneHold = false ∧
    (sends (filler 12) dock).laneHold = true ∧ (inState .joining dock).laneHold = true := by decide +kernel

/-- An item before and after its settle deadline. -/
theorem witness_ItemStatesMoveForward :
    let i : Item := { whole 7 with key := some title, corr := .settling 0 }
    let x := holds [contested .known] (lane 1400 [i] dock)
    x.findItem 7 = some i ∧ (after (.settleExpiry 7) x).findItem 7 = some { i with corr := .waiting } ∧
    (CorrState.settling 0).mayMoveTo .waiting = true := by decide +kernel

/-- Another item keeps its record while item 7 settles. -/
theorem witness_OtherItemsStay :
    let i : Item := { whole 7 with key := some title, corr := .settling 0 }
    let o : Item := whole 8
    let x := holds [contested .known] (lane 1400 [i, o] dock)
    (x.lane.queue.map Item.ref).Nodup ∧ x.findItem 8 = some o ∧ (after (.settleExpiry 7) x).findItem 8 = some o := by
  decide +kernel

/-! ### Head lines -/

/-- One line's receiver. -/
def onLine (h : Head) (r : Receiver) (x : Station) : Station := { x with receivers := x.receivers.set h r }

/-- Symbols waiting without a mark. -/
def waiting (l : List Symbol) : List FifoSymbol := l.map (fun s => ⟨s, false⟩)

/-- CONFIG LOAD; a disabled line; 63 symbols with a mark armed; 64 symbols. -/
theorem witness_HeadSymbolArrival :
    let full := onLine .scale ⟨waiting (List.replicate 64 1), false, .type, none⟩ dock
    let room := onLine .scale ⟨waiting (List.replicate 63 1), true, .type, none⟩ dock
    let off := { dock with startup := { dock.startup with
      settings := some { Settings.defaults with acceptMask := PerHead.same 0xFE } } }
    Station.powerOn.startup.state = .configLoad ∧ room.startup.state ≠ .configLoad ∧
    room.cfg.acceptValue.get .scale &&& ~~~(room.cfg.acceptMask.get .scale) = 0 ∧
    off.cfg.acceptValue.get .reader0 &&& ~~~(off.cfg.acceptMask.get .reader0) ≠ 0 ∧
    (room.receivers.get .scale).fifo.length < 64 ∧ 64 ≤ (full.receivers.get .scale).fifo.length ∧
    (after (.headSymbolArrival .reader0 1) off).receivers.reader0.fifo = [] ∧
    (after (.headSymbolArrival .scale 9) room).receivers.scale.fifo = waiting (List.replicate 63 1) ++ [⟨9, true⟩] ∧
    (after (.headSymbolArrival .scale 9) full).receivers.scale.markArmed = true ∧
    (after (.headSymbolArrival .scale 9) full).headCounts.overruns = 1 := by decide +kernel

/-- The lead completed, and broken by an overrun mark. -/
theorem witness_FramerHunts :
    let x := onLine .gauge ⟨[⟨0x3FF, false⟩], false, .hunt .two, none⟩ dock
    let y := onLine .gauge ⟨[⟨0x3FF, true⟩], false, .hunt .two, none⟩ dock
    (x.receivers.get .gauge).framer = .hunt .two ∧ (x.receivers.get .gauge).fifo = [⟨0x3FF, false⟩] ∧
    (after (.framerTakeSymbol .gauge) x).receivers.gauge.framer = .type ∧
    (after (.framerTakeSymbol .gauge) y).receivers.gauge.framer = .hunt .one := by decide +kernel

/-- A wrong check; a count of 41 on a reader and of 0; a mark in DATA; an unqualified type. -/
theorem witness_SpoiledPacketIsDiscarded :
    let check := onLine .gauge ⟨waiting [1021], false, .check 0x23 17 2 [48, 152] 1022, some 16⟩ dock
    let count (n : Symbol) := onLine .reader0 ⟨waiting [n], false, .count 0x91 1 5, none⟩ dock
    let marked := onLine .scale ⟨[⟨5, true⟩], false, .data 0x22 1 4 [1] 3 5, none⟩ dock
    let type := onLine .gauge ⟨waiting [0x222], false, .type, none⟩ dock
    (after (.framerTakeSymbol .gauge) check).receivers.gauge = ⟨[], false, .hunt .zero, some 16⟩ ∧
    (after (.framerTakeSymbol .gauge) check).headCounts.formatErrors = 1 ∧
    (0x91 : Byte).toNat ≥ 0x80 ∧ 40 < (41 : Symbol).toNat ∧
    (after (.framerTakeSymbol .reader0) (count 41)).flag .headFormatError = true ∧
    (after (.framerTakeSymbol .reader0) (count 0)).flag .headFormatError = true ∧
    (after (.framerTakeSymbol .reader0) (count 40)).flag .headFormatError = false ∧
    (after (.framerTakeSymbol .scale) marked).receivers.scale.framer = .hunt .zero ∧
    (after (.framerTakeSymbol .scale) marked).headCounts.formatErrors = 1 ∧
    (after (.framerTakeSymbol .gauge) type).headCounts.formatErrors = 0 := by decide +kernel

/-- Whole packets in a FIFO: a reader's with one symbol, and a gauge's with none. -/
theorem witness_WellFormedPacketIsFramed :
    let reader : List Symbol := [0x3FF, 0x000, 0x3FF, 0x391, 1, 1] ++ [0x31] ++ [0x391 + 1 + 1 + 0x31]
    let gauge : List Symbol := [0x3FF, 0x000, 0x3FF, 0x323, 9, 0] ++ [] ++ [0x323 + 9 + 0]
    let x := onLine .reader0 ⟨waiting reader, false, .hunt .zero, none⟩ dock
    let y := onLine .gauge ⟨waiting gauge, false, .hunt .zero, some 8⟩ dock
    (x.receivers.get .reader0).framer = .hunt .zero ∧
    x.cfg.acceptValue.get .reader0 &&& ~~~(x.cfg.acceptMask.get .reader0) = 0 ∧
    (0x391 : Symbol).toNat / 256 = (List.range 8).countP (fun i => (0x91 : Byte).getLsbD i) % 4 ∧
    (0x323 : Symbol).toNat / 256 = (List.range 8).countP (fun i => (0x23 : Byte).getLsbD i) % 4 ∧
    (0x80 ≤ (0x91 : Byte).toNat ∧ (0x23 : Byte).toNat < 0x80 ∧ (1 : Symbol).toNat = [(0x31 : Symbol)].length) ∧
    ((List.range 8).foldl (fun z _ => after (.framerTakeSymbol .reader0) z) x).receivers.reader0.framer =
      .handOver ⟨0x91, 1, 1, [0x31], 0, false⟩ ∧
    ((List.range 7).foldl (fun z _ => after (.framerTakeSymbol .gauge) z) y).receivers.gauge.framer =
      .handOver ⟨0x23, 9, 0, [], 0, false⟩ := by decide +kernel

/-- Sequence numbers after 8: 9, 10 and, on the scale, 10. -/
theorem test_sequence_gaps_are_counted :
    let gauge (n : Symbol) : List Symbol := [0x3FF, 0x000, 0x3FF, 0x323, n, 0, 0x323 + n]
    let scale : List Symbol := [0x3FF, 0x000, 0x3FF, 0x222, 10, 0, 0x222 + 10]
    let counts (h : Head) (l : List Symbol) : HeadCounts := ((List.range 7).foldl (fun z _ => after (.framerTakeSymbol h) z)
      (onLine h ⟨waiting l, false, .hunt .zero, some 8⟩ dock)).headCounts
    counts .gauge (gauge 9) = ⟨0, 0, 0, 0⟩ ∧ (counts .gauge (gauge 10)).gaugeGaps = 1 ∧
    (counts .scale scale).scaleGaps = 1 := by decide +kernel

/-- A packet in HAND-OVER. -/
def handing (h : Head) (stamp : Pos) (second : Byte) (l : List Symbol) (x : Station) : Station :=
  onLine h ⟨[], false, .handOver ⟨0x91, second, l.length, l, stamp, false⟩, none⟩ x

/-- Item 7 with T = 1250 and every window open. -/
def open7 : Item := { whole 7 with lane := .reading, windows := PerHead.same .opened }

/-- Stamps at the ends of item 7's windows: reader 0 at 1280, reader 1 at 1590, gauge at 2060. -/
theorem witness_PacketToItsItem :
    let x := handing .reader0 1280 1 (digits [1, 2, 3, 4, 5, 6, 7, 8, 9, 0, 1, 2, 8]) (lane 1300 [open7] dock)
    let y := handing .reader1 1590 1 (digits [1]) (lane 1600 [open7] dock)
    let z := handing .gauge 2060 1 [48, 152] (lane 2070 [open7] dock)
    x.lane.queue.filter (fun i => i.windowHolds x.cfg .reader0 1280) = [open7] ∧
    y.lane.queue.filter (fun i => i.windowHolds y.cfg .reader1 1590) = [open7] ∧
    z.lane.queue.filter (fun i => i.windowHolds z.cfg .gauge 2060) = [open7] ∧
    open7.windows.get .reader0 ≠ .forceClosed ∧
    ((after (.handOver .reader0) x).findItem 7).bind (fun i => slotVerdict i.slot0) =
      some (.valid ⟨.article, 1234567890128⟩) ∧
    (after (.handOver .reader1) y).keyCounts.misreads = 1 ∧
    ((after (.handOver .gauge) z).findItem 7).map (fun i => (i.maxThickness, i.maxWidth)) = some (some 48, some 152) := by
  decide +kernel

/-- Buffer A free; A held by the item; A taken by another; both taken. -/
theorem witness_SamplesToTheBuffer :
    let x := handing .scale 1600 1 [1, 0] (lane 1700 [open7] dock)
    let with_ (a b : SampleBuffer) : Station := { x with measurement := { x.measurement with bufferA := a, bufferB := b } }
    let other (ref : ItemRef) : SampleBuffer := ⟨some ref, [5], none⟩
    x.lane.queue.filter (fun i => i.windowHolds x.cfg .scale 1600) = [open7] ∧ open7.windows.scale ≠ .forceClosed ∧
    (after (.handOver .scale) x).measurement.bufferA = ⟨some 7, [1], none⟩ ∧
    (after (.handOver .scale) (with_ (other 7) .free)).measurement.bufferA = ⟨some 7, [5, 1], none⟩ ∧
    (after (.handOver .scale) (with_ (other 6) (other 7))).measurement.bufferB = ⟨some 7, [5, 1], none⟩ ∧
    (after (.handOver .scale) (with_ (other 6) .free)).measurement.bufferB = ⟨some 7, [1], none⟩ ∧
    ((after (.handOver .scale) (with_ (other 6) (other 5))).findItem 7).map (fun i => i.bufferRefused) = some true := by
  decide +kernel

/-- The most recent 64 samples are kept. -/
theorem test_buffer_keeps_the_most_recent_64 :
    let x := handing .scale 1600 1 [1, 0] (lane 1700 [open7] dock)
    let y := after (.handOver .scale) { x with measurement := { x.measurement with
      bufferA := ⟨some 7, 9 :: List.replicate 63 5, none⟩ } }
    y.measurement.bufferA.samples = List.replicate 63 5 ++ [1] := by decide +kernel

/-- No window: a stray, and an empty scale packet as first tare; a force-closed window; two windows. -/
theorem witness_PacketToNoItem :
    let stray := handing .gauge 5000 1 [1, 2] dock
    let empty := handing .scale 5000 1 [1, 0, 2, 0] dock
    let forced : Item := { open7 with lane := .decided, windows := PerHead.same .forceClosed }
    let late := handing .gauge 2060 1 [1, 2] (lane 2070 [forced] dock)
    let two := handing .gauge 2060 1 [1, 2] (lane 2070 [open7, { open7 with ref := 8 }] dock)
    (stray.receivers.get .gauge).framer = .handOver ⟨0x91, 1, 2, [1, 2], 5000, false⟩ ∧
    stray.lane.queue.filter (fun i => i.windowHolds stray.cfg .gauge 5000) = [] ∧
    late.lane.queue.filter (fun i => i.windowHolds late.cfg .gauge 2060) = [forced] ∧
    2 ≤ (two.lane.queue.filter (fun i => i.windowHolds two.cfg .gauge 2060)).length ∧
    (after (.handOver .gauge) stray).lane.counts.strays = 1 ∧ (after (.handOver .gauge) late).lane.counts.strays = 1 ∧
    (after (.handOver .gauge) two).lane.queue.map (fun i => (i.crowded, i.crowdMarks.gauge)) = [(true, true), (true, true)] ∧
    (after (.handOver .gauge) two).lane.counts.crowded = 1 ∧
    (two.lane.queue.map Item.ref).Nodup ∧
    (after (.handOver .scale) empty).measurement.tare = some 2 := by decide +kernel

/-- A departed item with a force-closed window waits for its record's room while P comes round: a stamp 2^23 counts past T lies in
none of its windows, so the packet is the neighbour's alone. -/
theorem test_departed_items_hold_no_stamp :
    let forced : Item := { open7 with lane := .diverting, windows := PerHead.same .forceClosed }
    let c : Settings := { Settings.defaults with distance := PerHead.same 0 }
    let x := { handing .gauge 8389858 1 [48, 152] (lane 8389858 [{ forced with departed := true },
      { open7 with ref := 8, lead := 8389800, trail := none }] dock) with
      startup := { dock.startup with settings := some c } }
    forced.windowHolds c .gauge 8389858 = true ∧
    x.lane.queue.filter (fun i => i.windowHolds x.cfg .gauge 8389858) = [{ open7 with ref := 8, lead := 8389800, trail := none }] ∧
    (after (.handOver .gauge) x).lane.queue.map (fun i => (i.crowded, i.maxThickness)) = [(false, none), (false, some 48)] := by
  decide +kernel

/-! ### Codes and weighing -/

/-- Subtypes 3 and 4, with the check characters of section 3.3: an add-on of 5 digits in no key, the X, and a wrong X. -/
theorem test_add_on_5_and_the_letter_x :
    verdictOf 3 (digits [1, 2, 3, 4, 5, 6, 7, 8, 9, 0, 1, 2, 8] ++ digits [5, 1, 2, 9, 9]) = .valid ⟨.article, 1234567890128⟩ ∧
    verdictOf 4 (digits [1, 2, 3, 4, 5, 6, 1] ++ chars [0x58]) = .valid ⟨.serial, 1234561 * 128 + 100⟩ ∧
    verdictOf 4 (digits [1, 2, 3, 4, 5, 6, 7] ++ chars [0x58]) = .misread := by decide +kernel

/-- A valid reading, and the same with its 13th digit, or its 8th character, changed. -/
theorem witness_OneWrongDigitIsAMisread :
    let front := digits [1, 2, 3, 4, 5, 6, 7, 8, 9, 0, 1, 2]
    let spine := digits [1, 2, 3, 4, 5, 6, 7]
    front.length < 13 ∧ spine.length < 8 ∧
    verdictOf 1 (front ++ 0x38 :: []) = .valid ⟨.article, 1234567890128⟩ ∧ verdictOf 1 (front ++ 0x37 :: []) = .misread ∧
    verdictOf 5 (spine ++ 0x39 :: digits [1, 4]) = .valid ⟨.serial, 158024590⟩ ∧
    verdictOf 5 (spine ++ 0x58 :: digits [1, 4]) = .misread := by decide +kernel

/-- Section 4.5: item 88's weight completes and the factor becomes 410. -/
theorem witness_WeightCompletion :
    let c : Computation := ⟨1512, 1024⟩
    let b : SampleBuffer := ⟨some 7, [4000, 4010, 4006, 4012, 4008, 4010, 4004, 4008, 4010, 4006], some c⟩
    let x := { lane 1900 [{ whole 7 with calMark := true }] dock with
      measurement := { dock.measurement with bufferA := b, calibration := .chosen 1000 7 } }
    x.findItem 7 = some { whole 7 with calMark := true } ∧ x.measurement.bufferOf 7 = some b ∧ b.computing = some c ∧
    (after (.weightCompletion 7) x).measurement.factor = 410 ∧
    (after (.weightCompletion 7) x).measurement.calibration = .none ∧
    (after (.weightCompletion 7) x).flag .calDone = true ∧
    ((after (.weightCompletion 7) x).findItem 7).map (fun i => i.weight) = some (some (.present 2497 false false)) := by
  decide +kernel

/-- An item of 1024 g that waited: a key issued, the match of a reference 6 g off behind one 12 g off, NO KEY with its consignment
closed, NOT ACTIVE; and WEIGHT ABSENT at a scale close. -/
theorem witness_WeightEndsAWait :
    let i : Item := { whole 7 with matching := true, consignment := some 412877 }
    let k : Consignment := ⟨412877, 30518, 0, 3, 0, 0, 0, 4094, [7], []⟩
    let b : SampleBuffer := ⟨some 7, List.replicate 10 2536, some ⟨1512, 1024⟩⟩
    let at_ (c : Option Consignment) (x : Station) : Station := { x with tracker := { x.tracker with context := c } }
    let x := { lane 1900 [i] dock with measurement := { dock.measurement with bufferA := b } }
    let mark (x : Station) : Option TrackerMark := (x.findItem 7).bind (fun j => j.trackerMark)
    let key (n : Nat) : Key := ⟨.provisional, 412877 * 4096 + n⟩
    let old (grams : Nat) : Entry := { newEntry (key grams) 2 .known with stored := some ⟨grams, false, none⟩ }
    x.entry ⟨.provisional, 412877 * 4096 + 4094⟩ = none ∧ x.table.entries.length < 4096 ∧
    (computeWeight x.cfg.settleCount x.cfg.settleBand ⟨1512, 1024⟩ b.samples).1 = .present 1024 false false ∧
    ((after (.weightCompletion 7) (at_ (some k) x)).findItem 7).map (fun j => (j.key, j.ordinal, j.matching)) =
      some (some ⟨.provisional, 412877 * 4096 + 4094⟩, some 1, false) ∧
    mark (after (.weightCompletion 7) x) = some .noKey ∧
    mark (after (.weightCompletion 7) (at_ (some k) (inState .listenOnly x))) = some .notActive ∧
    ((after (.weightCompletion 7) (holds [old 1012, old 1030] (at_ (some { k with roster := [key 1030, key 1012] }) x))).findItem 7).map
      (fun j => (j.key, j.ordinal, j.matching)) = some (some (key 1030), some 3, false) ∧
    mark (after (.windowClose 7 .scale) (at_ (some k) (atScaleClose 9 (some 1512) { weighed with matching := true }))) =
      some .weightAbsent := by decide +kernel

/-- A net of 0 has the BELOW TARE flag, the next count is above it, and a heavy one stops at 65535 g. -/
theorem witness_WeightArithmetic :
    0 < 4 ∧ 4 ≤ (List.replicate 4 (100 : Int)).length ∧
    computeWeight 4 24 ⟨100, 1024⟩ (List.replicate 4 100) = (.present 0 false true, 0) ∧
    computeWeight 4 24 ⟨99, 1024⟩ (List.replicate 4 100) = (.present 1 false false, 1) ∧
    computeWeight 4 24 ⟨0, 65535⟩ (List.replicate 4 32000) = (.present 65535 false false, 32000) ∧
    (1024 * 65536 : Int) ≤ 32000 * 65535 + 512 := by decide +kernel

/-! ### The Correlation Table -/

/-- Claims equal in tally and station, told apart by item ref. -/
theorem witness_ClaimOrder :
    let a : Claim := ⟨3, 9, 1, none, false⟩
    let b : Claim := ⟨3, 9, 2, none, false⟩
    (a.station, a.ref) ≠ (b.station, b.ref) ∧ a.before b = true ∧ b.before a = false := by decide +kernel

/-- Heard claims with tallies n. -/
def claims (l : List Nat) : List Claim := l.map (fun n => ⟨3, BitVec.ofNat 24 n, BitVec.ofNat 16 n, some 0, false⟩)

/-- Five claims and six; a newcomer in the middle, and one that drops the latest. -/
theorem witness_ListsOfAnEntry :
    let c : Claim := ⟨4, 35, 9, some 0, false⟩
    (claims [10, 20, 30, 40, 50]).length < 6 ∧
    insertLimited c (claims [10, 20, 30, 40, 50]) = (claims [10, 20, 30] ++ c :: claims [40, 50], false) ∧
    (claims [10, 20, 30, 40, 50, 60]).length = 6 ∧
    insertLimited c (claims [10, 20, 30, 40, 50, 60]) = (claims [10, 20, 30] ++ c :: claims [40, 50], true) ∧
    (∀ a ∈ claims [10, 20, 30], a.before c = true ∧ c.before a = false) ∧
    (∀ a ∈ claims [40, 50], c.before a = true ∧ a.before c = false) := by decide +kernel

/-- The list a, b1 to b5 with only a heard, and a newcomer c with c before a and the bs before c: a is the latest, wherever it stands. -/
theorem witness_LatestOfAFullList :
    let a : Claim := ⟨3, 0, 1, some 0, false⟩
    let c : Claim := ⟨4, 12000000, 9, some 0, false⟩
    let b : List Claim := [6000000, 6000001, 6000002, 6000003, 6000004].map (fun t => ⟨5, t, t.setWidth 16, none, true⟩)
    (a :: b).length = 6 ∧ a.own = false ∧ c.before a = true ∧ (a :: b).erase a = b ++ [] ∧
    (∀ x ∈ b, x.before c = true ∧ c.before x = false) ∧ insertLimited c (a :: b) = (b ++ [c], true) ∧
    insertLimited ⟨4, 61, 9, some 0, false⟩ (claims [10, 20, 30, 40, 50, 60]) = (claims [10, 20, 30, 40, 50, 60], true) := by
  decide +kernel

/-- R92's cycle: a before b before c before a. They have no order; with b withdrawn c stands before a; and a newcomer after c and
before a goes between them. -/
theorem test_claims_regain_their_order :
    let a : Claim := ⟨3, 0, 1, some 0, false⟩
    let b : Claim := ⟨4, 6000000, 2, some 0, false⟩
    let c : Claim := ⟨3, 12000000, 3, some 0, false⟩
    let d : Claim := ⟨4, 14000000, 4, some 0, false⟩
    let e := { newEntry title 0 .known with pending := [a, b, c] }
    (a.before b = true ∧ b.before c = true ∧ c.before a = true) ∧
    (∀ m : List Claim, m.Perm [a, b, c] → ¬ m.Pairwise (fun a b => a.before b = true)) ∧
    inClaimOrder [a, b, c] = [a, b, c] ∧ (e.removeClaims (fun x => decide (x.station = 4))).pending = [c, a] ∧
    insertLimited d [c, a] = ([c, d, a], false) :=
  ⟨by decide +kernel, fun m hm => by rw [← List.mem_permutations'] at hm; revert m; decide +kernel,
    by decide +kernel, by decide +kernel, by decide +kernel⟩

/-- Four records: a fifth drops the oldest, or the one of its own item ref. -/
theorem witness_OwnCommittedList :
    let e := { newEntry title 4 .known with ownCommitted := [⟨1, 1, 1⟩, ⟨2, 2, 2⟩, ⟨3, 3, 3⟩, ⟨4, 4, 4⟩] }
    e.ownCommitted.length ≤ 4 ∧ (e.ownCommitted.map CommitRecord.ref).Nodup ∧
    (e.addRecord ⟨5, 5, 5⟩).ownCommitted = [⟨2, 2, 2⟩, ⟨3, 3, 3⟩, ⟨4, 4, 4⟩, ⟨5, 5, 5⟩] ∧
    (e.addRecord ⟨3, 5, 5⟩).ownCommitted = [⟨1, 1, 1⟩, ⟨2, 2, 2⟩, ⟨4, 4, 4⟩, ⟨3, 5, 5⟩] := by decide +kernel

/-- 4096 entries with the keys ARTICLE 0 to 4095. -/
def fullTable (own : Bool) : List Entry :=
  (List.range 4096).map (fun n => { newEntry ⟨.article, n⟩ 0 .known with
    pending := if own then [⟨5, 1, 7, none, true⟩] else [] })

/-- A full table whose first entry is not pinned, and one whose every entry is. -/
theorem witness_CreationInAFullTable (own : Bool) :
    let x := holds (fullTable own) dock
    x.table.entries.length = 4096 ∧ (x.table.entries.map Entry.key).Nodup ∧ (∀ a ∈ x.table.entries, x.pinned a = own) ∧
    ∃ old back, x.table.entries = [] ++ old :: back ∧ x.pinned old = own := by
  have key : ∀ a ∈ fullTable own, (holds (fullTable own) dock).pinned a = own := by
    intro a ha
    obtain ⟨n, -, rfl⟩ := List.mem_map.mp ha
    cases own <;> simp [Station.pinned, Entry.holdsOwn, newEntry, holds, dock, Station.powerOn]
  have length : (fullTable own).length = 4096 := by simp [fullTable]
  have keys : ((fullTable own).map Entry.key).Nodup := by
    have : (fullTable own).map Entry.key = (List.range 4096).map (fun n => (⟨.article, n⟩ : Key)) := by
      simp [fullTable, newEntry, Function.comp_def]
    rw [this]
    exact List.nodup_range.map (fun a b h => by simpa using h)
  generalize fullTable own = l at *
  match l with
  | [] => simp at length
  | a :: rest => exact ⟨length, keys, key, a, rest, rfl, key a (by simp)⟩

/-- Every entry of a full table pinned at the close of an unidentified item: TABLE FULL, no key, and the index kept. -/
theorem witness_IssueInAPinnedTable :
    let i := { closing none none with weight := some (.present 1000 false false) }
    let x := { holds (fullTable true) (atClose i) with
      tracker := { (atClose i).tracker with context := some ⟨412877, 30518, 0, 3, 0, 0, 0, 9, [], []⟩ } }
    let y := after (.windowClose 7 .reader0) x
    (4096 ≤ x.table.entries.length ∧ x.table.entries.all (fun e => x.pinned e) = true ∧
      x.entry ⟨.provisional, 412877 * 4096 + 9⟩ = none) ∧
    (y.findItem 7).map (fun j => (j.key, j.trackerMark)) = some (none, some .tableFull) ∧ y.flag .tableFull = true ∧
    y.tracker.context.map (fun d => d.nextIndex) = some 9 ∧ y.table.counts.fullRefusals = 1 := by decide +kernel

/-- A heard COMMIT raises C; the station is inside its capacities. -/
theorem witness_CountsNeverGoBack :
    let x := heard [frame 0x12 3 255 (keyBytes title ++ [0, 0, 11, 0, 3, 2])] (holds [newEntry title 1 .known] dock)
    x.Bounded ∧ x.entry title = some (newEntry title 1 .known) ∧
    (after .heardCommit x).entry title = some (newEntry title 2 .known) ∧ (after .heardCommit x).claims.tally = 11 := by
  refine ⟨⟨by decide, fun h => by cases h <;> decide, by decide, by decide, by decide, ?_, by decide, by decide, ?_, by decide,
    by decide⟩, by decide +kernel, by decide +kernel, by decide +kernel⟩
  · intro c h; exact absurd h (by simp [heard, holds, dock, Station.powerOn])
  · intro e h
    have : e = newEntry title 1 .known := by simpa [heard, holds] using h
    subst this
    exact ⟨by decide, by decide, by decide⟩

/-- An entry of another key keeps its place while a COMMIT is merged. -/
theorem witness_OtherEntriesStay :
    let other : Key := ⟨.article, 9780000000026⟩
    let x := heard [frame 0x12 3 255 (keyBytes title ++ [0, 0, 11, 0, 3, 2])]
      (holds [newEntry title 1 .known, newEntry other 5 .known] dock)
    other ≠ title ∧ heardKey (keyBytes title ++ [0, 0, 11, 0, 3, 2]) 0 = some title ∧
    (after .heardCommit x).entry other = some (newEntry other 5 .known) ∧
    (after .heardCommit x).entry title = some (newEntry title 2 .known) := by decide +kernel

/-- A CLAIM for no entry, for an entry that lacks it, and for one that holds it, from station 31. -/
theorem witness_HeardClaim :
    let f := frame 0x11 31 255 (claimBytes 2 1)
    let x := heard [f] dock
    let y := holds [newEntry title 1 .unknown] x
    let z := holds [{ newEntry title 1 .unknown with pending := [⟨31, 11, 3, some 0, false⟩] }] x
    (x.startup.state ≠ .configLoad ∧ f.kind = 0x11 ∧ f.payload.length = 14 ∧ 1 ≤ f.source.toNat ∧ f.source.toNat ≤ 31 ∧
      heardKey f.payload 0 = some title ∧ x.table.entries.length < 4096 ∧ (y.entry title).isSome = true ∧
      (y.table.entries.map Entry.key).Nodup) ∧
    (after .heardClaim y).entry title =
      some { newEntry title 2 (.requested 0 false) with pending := [⟨31, 11, 3, some 0, false⟩] } ∧
    ((after .heardClaim x).entry title).map (fun e => e.committed) = some 2 ∧
    ((after .heardClaim z).entry title).map (fun e => e.pending.length) = some 1 := by decide +kernel

/-- Section 7.14: station 6's COMMIT of ordinal 1 meets item 129's record. -/
theorem witness_HeardCommit :
    let f := frame 0x12 6 255 (keyBytes title ++ [0, 3, 132, 0x11, 0x3A, 1])
    let e := { newEntry title 1 .known with ownCommitted := [⟨129, 1, 900⟩] }
    let x : Station := { heard [f] (holds [e] dock) with startup := { dock.startup with stationId := some 8 } }
    (f.payload.length = 13 ∧ heardKey f.payload 0 = some title ∧ payloadField f.payload 12 1 ≠ 0 ∧
      x.startup.state ≠ .configLoad ∧ x.entry title = some e ∧ e.holdsOwn = false ∧
      x.link.txQueue.length + e.ownCommitted.length ≤ 16 ∧ (x.table.entries.map Entry.key).Nodup) ∧
    claimBefore (tallyField f.payload 7) f.source.toNat (refField f.payload 10) 900 x.ownId 129 = true ∧
    (after .heardCommit x).flag .clashSeen = true ∧
    (after .heardCommit x).link.txQueue = [ready (.correction ⟨129, title, 1, .clash, some 6⟩)] := by decide +kernel

/-- Four records at ordinal 255 and three of them after the heard claim, the fourth before it; the queue with just four places. -/
theorem witness_ClashesAtOrdinal255 :
    let f := frame 0x12 3 255 (keyBytes title ++ [0, 0, 11, 0, 3, 255])
    let e := { newEntry title 255 .known with ownCommitted := [⟨1, 255, 20⟩, ⟨2, 255, 5⟩, ⟨3, 255, 30⟩, ⟨4, 255, 12⟩] }
    let x := sends (filler 12) (heard [f] (holds [e] dock))
    let note (ref : ItemRef) : TxFrame := ready (.correction ⟨ref, title, 255, .clash, some 3⟩)
    x.link.txQueue.length + e.ownCommitted.length ≤ 16 ∧
    (after .heardCommit x).link.txQueue = filler 12 ++ [note 1, note 3, note 4] ∧
    (after .heardCommit x).claims.counts.corrections = 3 := by decide +kernel

/-- A WITHDRAW with no entry, and with the claim it names. -/
theorem witness_HeardWithdraw :
    let f := frame 0x13 1 255 (keyBytes title ++ [0, 0, 11, 0, 3])
    let x := heard [f] dock
    let y := holds [{ newEntry title 1 .known with pending := [⟨1, 11, 3, some 0, false⟩], overfull := true }] x
    (f.payload.length = 12 ∧ 1 ≤ f.source.toNat ∧ heardKey f.payload 0 = some title ∧ x.entry title = none ∧
      (y.table.entries.map Entry.key).Nodup) ∧
    (after .heardWithdraw x).table = x.table ∧ (after .heardWithdraw x).claims.tally = 11 ∧
    (after .heardWithdraw y).entry title = some (newEntry title 1 .known) := by decide +kernel

/-- A WITHDRAW of the claim ahead of a WAITING item's own: that one commits, and the other heard claim stays. -/
theorem witness_HeardWithdrawLetsACommitGo :
    let f := frame 0x13 3 255 (keyBytes title ++ [0, 0, 9, 0, 1])
    let later : Claim := ⟨4, 30, 2, some 0, false⟩
    let e := { contested .known with pending := (contested .known).pending ++ [later] }
    let i : Item := { whole 7 with key := some title, corr := .waiting, claimTally := some 11 }
    let y := after .heardWithdraw (heard [f] (holds [e] (lane 1400 [i] dock)))
    (y.entry title).map (fun e => (e.committed, e.pending)) = some (2, [later]) := by decide +kernel

/-- Section 7.13: HOLDINGS of count 1 answering (5, 501) meets item 1040's record; and one that makes an entry. -/
theorem witness_HeardHoldings :
    let f := frame 0x21 0 255 (keyBytes title ++ [1, 5, 0, 1, 245])
    let e := { newEntry title 2 (.requested 0 false) with ownCommitted := [⟨1040, 1, 501⟩] }
    let x := heard [f] (holds [e] dock)
    (f.payload.length = 12 ∧ f.source = 0 ∧ heardKey f.payload 0 = some title ∧ x.startup.state ≠ .configLoad ∧
      (x.entry title).isSome = true ∧ e.holdsOwn = false ∧ (501 : Tally) = tallyField f.payload 9 ∧
      1 ≤ payloadField f.payload 7 1 ∧ x.startup.stationId = some (payloadField f.payload 8 1) ∧
      x.startup.state ≠ .listenOnly ∧ x.link.txQueue.length < 16) ∧
    (after .heardHoldings x).link.txQueue = [ready (.correction ⟨1040, title, 1, .holdings, none⟩)] ∧
    (after .heardHoldings x).entry title = some { e with holdings := .known } ∧
    (after .heardHoldings (heard [f] dock)).entry title = some (newEntry title 1 .known) := by decide +kernel

/-- Four records: the answered one's ordinal at the count and past it, an answer to no record, and one to another station. -/
theorem witness_LateHoldings :
    let f (station tally : Byte) := frame 0x21 0 255 (keyBytes title ++ [3, station, 0, 0, tally])
    let e := { newEntry title 4 .known with ownCommitted := [⟨1, 1, 11⟩, ⟨2, 2, 12⟩, ⟨3, 3, 13⟩, ⟨4, 4, 14⟩] }
    let sent (g : RxFrame) := (after .heardHoldings (heard [g] (holds [e] dock))).link.txQueue
    e.ownCommitted.filter (fun r => r.tally = (13 : Tally)) = [⟨3, 3, 13⟩] ∧
    sent (f 5 13) = [ready (.correction ⟨3, title, 3, .holdings, none⟩)] ∧
    sent (f 5 14) = [] ∧ sent (f 5 15) = [] ∧ sent (f 6 13) = [] := by decide +kernel

/-- A claim heard 4000 ms ago; a lapse with and without an own claim. -/
theorem witness_ExpiryAndLapse :
    let old : Claim := ⟨3, 9, 1, some 100, false⟩
    let own : Claim := ⟨5, 11, 7, none, true⟩
    let x : Station := { holds [{ newEntry title 1 .known with pending := [old] }] dock with clock := 4100 }
    let r (l : List Claim) : Station := holds [{ newEntry title 1 (.requested 0 true) with pending := l }] dock
    (x.clock - 100).toNat = x.cfg.claimLifetime ∧ (x.table.entries.map Entry.key).Nodup ∧
    (after (.claimExpiry title 3 1) x).entry title = some (newEntry title 1 .known) ∧
    (r [own]).entry title = some { newEntry title 1 (.requested 0 true) with pending := [own] } ∧
    (after (.requestedLapse title) (r [own])).table = (r [own]).table ∧
    ((after (.requestedLapse title) (r [old])).entry title).map (fun e => e.holdings) = some .unknown := by decide +kernel

/-- The own claim of item 7, first in its list with the holdings KNOWN: the condition of a commit. -/
theorem witness_LetsCommit :
    let c : Claim := ⟨5, 11, 7, none, true⟩
    ({ newEntry title 4 .known with pending := [c] } : Entry).LetsCommit c ∧ ¬ (contested .known).LetsCommit c ∧
    ¬ ({ newEntry title 4 (.requested 0 false) with pending := [c] } : Entry).LetsCommit c :=
  ⟨⟨by decide, fun _ _ h => nomatch h⟩, fun h => absurd (h.1 ⟨3, 9, 1, some 0, false⟩ (by decide)) (by decide),
    fun h => h.2 0 false rfl⟩

/-- A WAITING item's claim let go by the COMMIT and by the expiry of the claim before it, and by HOLDINGS: its ordinal is one above the
C that the change leaves. -/
theorem witness_Retests :
    let i : Item := { whole 7 with key := some title, corr := .waiting, claimTally := some 11 }
    let on (e : Entry) : Station := holds [e] (lane 1400 [i] { dock with clock := 4000 })
    let alone (h : Holdings) : Entry := { newEntry title 1 h with pending := [⟨5, 11, 7, none, true⟩] }
    let done (n : Nat) (y : Station) : Bool := (y.isWaiting 7 == false) &&
      decide ((y.entry title).map (fun e => (e.committed, e.ownCommitted)) = some (n, [⟨7, n, 11⟩])) &&
      decide (y.link.txQueue = [ready (.commit title 11 7 n)])
    ((contested .known).pending.find? (fun a => a.own && decide (a.ref = 7)) = some ⟨5, 11, 7, none, true⟩ ∧
      (on (contested .known)).isWaiting 7 = true) ∧
    done 5 (after .heardCommit (heard [frame 0x12 3 255 (keyBytes title ++ [0, 0, 9, 0, 1, 4])] (on (contested .known)))) = true ∧
    done 2 (after (.claimExpiry title 3 1) (on (contested .known))) = true ∧
    done 3 (after .heardHoldings (heard [frame 0x21 0 255 (keyBytes title ++ [2, 5, 0, 0, 11])]
      (on (alone (.requested 0 false))))) = true ∧
    (after .heardCommit (sends (filler 16) (heard [frame 0x12 3 255 (keyBytes title ++ [0, 0, 9, 0, 1, 4])]
      (on (contested .known))))).flag .txAbandon = true := by decide +kernel

/-- A heard CLAIM raises C and the WAITING item's claim, first in its list, commits above it; a heard CLAIM that drops one of seven
marks the WAITING item unconfirmed. -/
theorem witness_HeardClaimReports :
    let i : Item := { whole 7 with key := some title, corr := .waiting, claimTally := some 11 }
    let own : Claim := ⟨5, 11, 7, none, true⟩
    let on (l : List Claim) : Station := heard [frame 0x11 31 255 (keyBytes title ++ [0, 0, 15, 0, 3, 6, 0])]
      (holds [{ newEntry title 1 .known with pending := l }] (lane 1400 [i] dock))
    let full := claims [10] ++ own :: claims [20, 30, 40, 50]
    ((after .heardClaim (on [own])).findItem 7).map (fun j => (j.corr, j.ordinal)) = some (.committed, some 7) ∧
    (insertLimited ⟨31, 15, 3, some 0, false⟩ full).2 = true ∧
    ((after .heardClaim (on full)).findItem 7).map (fun j => (j.corr, j.unconfirmedMark)) = some (.waiting, true) ∧
    ((after .heardClaim (on full)).entry title).map (fun e => e.overfull) = some true := by decide +kernel

/-- The settle deadline with the own claim first, and behind another; the record kept, and the COMMIT lost at a full queue. -/
theorem witness_SettleExpiry :
    let i : Item := { whole 7 with key := some title, corr := .settling 0, unconfirmedMark := true }
    let c : Claim := ⟨5, 11, 7, none, true⟩
    let alone := holds [{ newEntry title 254 .known with pending := [c] }] (lane 1400 [i] dock)
    let behind := holds [contested .known] (lane 1400 [i] dock)
    (alone.findItem 7 = some i ∧ i.corr = .settling alone.clock ∧ i.key = some title ∧
      [c].find? (fun c => c.own && decide (c.ref = 7)) = some c ∧ (alone.table.entries.map Entry.key).Nodup) ∧
    (∀ a ∈ [c], a.before c = false) ∧ (contested .known).pending.any (fun a => a.before c) = true ∧
    ((after (.settleExpiry 7) alone).findItem 7).map (fun j => (j.corr, j.ordinal, j.unconfirmed)) =
      some (.committed, some 255, true) ∧
    (after (.settleExpiry 7) alone).link.txQueue = [ready (.commit title 11 7 255)] ∧
    (after (.settleExpiry 7) alone).table.entries =
      [{ newEntry title 255 .known with ownCommitted := [⟨7, 255, 11⟩] }] ∧
    ((after (.settleExpiry 7) (sends (filler 16) alone)).link.counts.abandons = 1 ∧
      (after (.settleExpiry 7) (sends (filler 16) alone)).table = (after (.settleExpiry 7) alone).table) ∧
    ((after (.settleExpiry 7) behind).findItem 7).map (fun j => j.corr) = some .waiting := by decide +kernel

/-! ### The dock link -/

/-- CONFIG LOAD; a quiet line out of it, held, and with a frame in reception. -/
theorem witness_LineEvents :
    let x : Station := { dock with link := { dock.link with holding := true, chain := 1, lineIdle := true } }
    Station.powerOn.startup.state = .configLoad ∧ after .lineIdle Station.powerOn = Station.powerOn ∧
    x.startup.state ≠ .configLoad ∧ x.link.sending = .quiet ∧ (taking x).link.reception = .taking ∧
    (after .lineLeavesIdle x).link.lineIdle = false ∧
    ((after .lineIdle x).link.holding = false ∧ (after .lineIdle x).link.chain = 0) ∧
    (after .leadFound x).link.reception = .taking ∧ (after .rxLineError (taking x)).link.counts.checkFailures = 1 := by
  decide +kernel

/-- Section 8.7: station 4's claim collides, jams, and backs off one slot. -/
theorem witness_Collision :
    let f := ready (.claim title 1 3 0 true)
    let x : Station := { onAir [] [] f dock with link := { (onAir [] [] f dock).link with generator := backoffSeed 4 } }
    let y := after .collision x
    x.link.sending = .frame [false] ∧ y.link.sending = .jam ∧ y.link.counts.collisions = 1 ∧
    (after .jamEnd y).link.txQueue = [{ f with attempts := 1, standing := .backoff 1 }] ∧
    (after .jamEnd y).link.generator = 0xB602 := by decide +kernel

/-- The last place of the queue in BACKOFF. -/
theorem witness_BackoffExpiry :
    let f : TxFrame := ⟨.commit title 1 3 1, 2, .backoff 3, false⟩
    let x := sends (filler 15 ++ [f]) dock
    x.link.txQueue[15]? = some f ∧ f.standing = .backoff 3 ∧
    (after (.backoffExpiry 15) x).link.txQueue = filler 15 ++ [{ f with standing := .ready }] := by decide +kernel

/-- An idle line and a STATUS pending with a mask; a held line with a frame, and with none. -/
theorem witness_AttemptsBegin :
    let x : Station := { sends [ready (.status .link none)] dock with
      records := { dock.records with flags := 24#13, pending := ⟨none, none, some 8#13⟩ } }
    let idle : Station := { x with link := { x.link with lineIdle := true } }
    let held : Station := { x with link := { x.link with holding := true, chain := 1 } }
    (idle.link.gateOpen = true ∧ idle.startup.state = .active ∧ selectFrame idle.link.txQueue = some 0 ∧
      idle.link.lineIdle = true ∧ idle.link.holding = false ∧ idle.link.sending = .quiet ∧ idle.framesOnLine = []) ∧
    (after .attemptBegin idle).records.flags = 16#13 ∧ (after .attemptBegin idle).records.pending = ⟨none, none, none⟩ ∧
    (after .attemptBegin idle).link.txQueue.map (fun f => f.standing) = [.onLine] ∧
    held.link.holding = true ∧ (after .chainContinuation held).link.chain = 1 ∧
    selectFrame [] = none ∧ (after .chainContinuation (sends [] held)).link.holding = false ∧
    after .attemptBegin (sends [] idle) = sends [] idle := by decide +kernel

/-- A frame whose attempt has collided. -/
def jammed (front back : List TxFrame) (f : TxFrame) (x : Station) : Station := { x with link := { x.link with
  txQueue := front ++ { f with standing := .onLine } :: back, sending := .jam } }

/-- Attempt counts 7 and 8 of a claim, 15 of a record; an abandoned COMMIT, ANNOUNCE and CLAIM; a frame taken back. -/
theorem witness_JamEnd :
    let i : Item := { fresh 3 with key := some title, corr := .queued }
    let x := holds [{ newEntry title 0 .known with pending := [⟨5, 1, 3, none, true⟩] }] (lane 1600 [i] dock)
    let claim (n : Nat) : TxFrame := ⟨.claim title 1 3 0 false, n, .ready, false⟩
    let left (f : TxFrame) := after .jamEnd (jammed [] (filler 15) f x)
    (jammed [] [] (claim 7) x).link.sending = .jam ∧ x.records.overflow = none ∧ x.startup.announce ≠ .waiting ∧
    (claim 7).attempts ≠ x.cfg.retryLimit ∧ (claim 8).attempts = x.cfg.retryLimit ∧ x.findItem 3 = some i ∧
    (x.table.entries.map Entry.key).Nodup ∧
    (left (claim 7)).link.txQueue.map (fun f => f.attempts) = 8 :: List.replicate 15 0 ∧
    (left ⟨.status .link none, 15, .ready, false⟩).link.txQueue.map (fun f => f.attempts) = 15 :: List.replicate 15 0 ∧
    ((left (claim 8)).findItem 3).map (fun j => j.corr) = some (.rejected .claimAbandoned) ∧
    (left ⟨.commit title 1 3 1, 8, .ready, false⟩).flag .txAbandon = true ∧
    (left ⟨.announce 0 0, 8, .ready, false⟩).link.txQueue = filler 15 ++ [ready (.announce 0 0)] ∧
    (left { claim 2 with takenBack := true }).link.txQueue = filler 15 := by decide +kernel

/-- A chain of two frames: the line held after the first, released after the second; a CLAIM sent, taken back; the ANNOUNCE. -/
theorem witness_AttemptComplete :
    let i : Item := { fresh 3 with key := some title, corr := .queued }
    let x := holds [{ newEntry title 0 .known with overfull := true }] (lane 1600 [i] dock)
    let claim := ready (.claim title 1 3 0 false)
    let y := after .attemptComplete (onAir [] [] claim x)
    (x.records.overflow = none ∧ x.startup.announce ≠ .waiting ∧ (onAir [] [] claim x).link.sending = .frame [false]) ∧
    (y.findItem 3).map (fun j => (j.corr, j.unconfirmedMark)) = some (.settling 20, true) ∧
    (y.link.holding = true ∧ y.link.chain = 1 ∧ y.link.counts.sent = 1) ∧
    (after .attemptComplete (onAir [] [] claim { x with link := { x.link with chain := 1 } })).link.holding = false ∧
    (after .attemptComplete (onAir [] [] { claim with takenBack := true } x)).link.txQueue =
      [ready (.withdraw title 1 3)] ∧
    (after .attemptComplete (onAir [] [] (ready (.announce 1 0)) (inState .joining x))).startup.state = .active := by
  decide +kernel

/-- Fifteen other frames, and a DEPOSIT in the overflow slot: its item removed; the next departed item offered; and an item of its ref
whose own DEPOSIT the slot does not hold. -/
theorem witness_RoomTakesTheOverflowRecord :
    let i : Item := { whole 9 with lane := .diverting, chute := some 1, departed := true, depositHeld := true }
    let next : Item := { i with ref := 10, depositHeld := false }
    let sent : TxFrame := ready (.status .link (some (dock.sample .link)))
    let with_ (l : List Item) : Station := { onAir [] (filler 15) sent (lane 5000 l dock) with
      records := { dock.records with overflow := some (.deposit i.deposit) } }
    let y (l : List Item) : Station := after .attemptComplete (with_ l)
    ([] ++ filler 15).length = 15 ∧ (∀ a ∈ filler 15, a.standing ≠ .onLine) ∧ sent.body.cls = .record ∧ i.deposit.ref = 9 ∧
    (with_ [i]).findItem 9 = some i ∧ (with_ [i]).startup.announce ≠ .waiting ∧
    (y [i]).link.txQueue = filler 15 ++ [ready (.deposit i.deposit)] ∧ (y [i]).lane.queue = [] ∧
    (y [i, next]).lane.queue = [{ next with depositHeld := true }] ∧
    (y [i, next]).records.overflow = some (.deposit next.deposit) ∧
    (y [fresh 9]).lane.queue = [fresh 9] ∧ (y [fresh 9]).records.overflow = none ∧
    (y [next]).records.overflow = some (.deposit next.deposit) := by decide +kernel

/-- A CORRECTION in the slot moves into the room of a frame sent, of one taken back, and of a COMMIT abandoned. -/
theorem witness_RoomTakesAnyRecord :
    let b : Body := .correction ⟨3, title, 1, .clash, some 4⟩
    let next : Item := { whole 10 with lane := .diverting, chute := some 1, departed := true }
    let x := { lane 5000 [next] dock with records := { dock.records with overflow := some b } }
    let taken : TxFrame := { ready (.claim title 1 3 0 false) with takenBack := true }
    let gone : TxFrame := ⟨.commit title 1 3 1, 8, .ready, false⟩
    let moves (y : Station) : Bool := decide (y.link.txQueue = filler 15 ++ [ready b] ∧
      y.lane.queue = [{ next with depositHeld := true }] ∧ y.records.overflow = some (.deposit next.deposit))
    gone.body.cls = .notice ∧ gone.attempts = x.cfg.retryLimit ∧
    moves (after .attemptComplete (onAir (filler 15) [] (ready (.commit title 1 3 1)) x)) = true ∧
    moves (after .attemptComplete (onAir [] (filler 15) taken x)) = true ∧
    moves (after .jamEnd (jammed [] (filler 15) taken x)) = true ∧
    moves (after .jamEnd (jammed (filler 15) [] gone x)) = true := by decide +kernel

/-- A payload of 49 bytes, a wrong check, the bits cut short, a lead after 3 recessive bit times, good frames at 31 and 32 waiting, an own-id frame in LISTEN-ONLY. -/
theorem witness_FrameReceived :
    let f := frame 0x13 3 255 (keyBytes title ++ [0, 0, 11, 0, 3])
    let wrong := { f with check := 0 }
    let long := coded (frame 0x13 3 255 (List.replicate 49 0))
    let x := lane 1400 [{ whole 7 with corr := .waiting }] (taking dock)
    let full := heard (List.replicate 32 f) x
    let mine := frame 0x13 5 255 (keyBytes title ++ [0, 0, 11, 0, 3])
    (x.startup.state ≠ .configLoad ∧ x.link.sending = .quiet ∧ x.link.reception = .taking) ∧
    (receive long = .lineError ∧ receive (coded wrong) = .frame wrong ∧ goodFrame wrong = false ∧
      receive (coded f) = .frame f ∧ goodFrame f = true ∧ x.startup.stationId ≠ some f.source.toNat) ∧
    (receive ((coded f).take 80) = .unfinished ∧ after (.frameReceived ((coded f).take 80)) x = x) ∧
    (receive ((coded f).drop 1) = .noLead ∧
      after (.frameReceived ((coded f).drop 1)) x = { x with link := { x.link with reception := .seeking } }) ∧
    (after (.frameReceived long) x).link.counts.checkFailures = 1 ∧
    (after (.frameReceived (coded wrong)) x).link.counts.checkFailures = 1 ∧
    (after (.frameReceived (coded f)) (heard (List.replicate 31 f) x)).link.rxQueue.length = 32 ∧
    (after (.frameReceived (coded f)) full).link.counts.rxDrops = 1 ∧
    (after (.frameReceived (coded f)) full).lane.queue = [{ whole 7 with corr := .waiting, unconfirmedMark := true }] ∧
    (after (.frameReceived (coded mine)) (inState .listenOnly x)).link.rxQueue = [mine] := by decide +kernel

/-- An own-id frame in ACTIVE, with an item in flight and one committed. -/
theorem witness_DuplicateIdSilencesTheStation :
    let f := frame 0x13 5 255 (keyBytes title ++ [0, 0, 11, 0, 3])
    let a : Item := { whole 7 with corr := .waiting, key := some title }
    let b : Item := { whole 8 with corr := .committed, ordinal := some 1 }
    let x := sends (filler 3) (lane 1400 [a, b] (taking dock))
    (x.startup.state = .active ∧ x.link.sending = .quiet ∧ x.link.reception = .taking ∧
      receive (coded f) = .frame f ∧ goodFrame f = true ∧ x.startup.stationId = some f.source.toNat) ∧
    (after (.frameReceived (coded f)) x).startup.state = .listenOnly ∧ (after (.frameReceived (coded f)) x).faultIndicator = true ∧
    (after (.frameReceived (coded f)) x).link.txQueue = [] ∧
    (after (.frameReceived (coded f)) x).lane.queue = [{ a with corr := .rejected .notActive }, b] := by decide +kernel

/-- The gate opened by the interval, shut by a duplicate id, and an attempt behind it. -/
theorem witness_TransmitGate :
    let f := frame 0x13 5 255 (keyBytes title ++ [0, 0, 11, 0, 3])
    let idle : Station := { sends (filler 1) dock with link := { (sends (filler 1) dock).link with lineIdle := true } }
    joins.link.gateOpen = false ∧ (after .joinQuietExpiry joins).link.gateOpen = true ∧
    dock.link.gateOpen = true ∧ (after (.frameReceived (coded f)) (taking dock)).link.gateOpen = false ∧
    idle.link.sending = .quiet ∧ (after .attemptBegin idle).link.sending ≠ .quiet ∧
    (after .attemptBegin (inState .joining { idle with link := { idle.link with gateOpen := false } })).link.sending = .quiet := by
  decide +kernel

/-! ### Deliveries -/

/-- An ANNOUNCE, misdirected frames at sources 0 and 32, a short frame, and a frame for another station. -/
theorem witness_PlainDeliveries :
    let known (f : RxFrame) : Prop := kindLength f.kind.toNat = some f.payload.length
    let ann := frame 0x14 31 255 [0, 0, 9, 0, 0]
    let fromGateway := frame 0x14 0 255 [0, 0, 9, 0, 0]
    let from32 := frame 0x14 32 255 [0, 0, 9, 0, 0]
    let short := frame 0x14 3 255 [0, 0, 9]
    let elsewhere := frame 0x24 0 6 []
    dock.startup.state ≠ .configLoad ∧ known ann ∧ 1 ≤ ann.source.toNat ∧ ann.source.toNat ≤ 31 ∧
    known fromGateway ∧ known from32 ∧ 32 ≤ from32.source.toNat ∧ ¬ known short ∧ known elsewhere ∧
    dock.startup.stationId ≠ some elsewhere.dest.toNat ∧
    (after .heardAnnounce (heard [ann] dock)).claims.tally = 9 ∧
    (after .misdirectedFrame (heard [fromGateway] dock)).link.counts.misdirected = 1 ∧
    (after .misdirectedFrame (heard [from32] dock)).link.counts.misdirected = 1 ∧
    (after .malformedFrame (heard [short] dock)).link.counts.malformed = 1 ∧
    (after .unaddressedFrame (heard [elsewhere] dock)).link = dock.link := by decide +kernel

/-- A CLAIM from source 0; one with a PROVISIONAL key; a COMMIT of ordinal 0; a HOLDINGS with no key. -/
theorem witness_UnusableFrames :
    let zero := frame 0x11 0 255 (claimBytes 0 0)
    let noKey := frame 0x11 3 255 ([3] ++ (claimBytes 0 0).drop 1)
    let commit := frame 0x12 3 255 (keyBytes title ++ [0, 0, 11, 0, 3, 0])
    let answer := frame 0x21 0 255 (List.replicate 12 0)
    kindLength zero.kind.toNat = some zero.payload.length ∧ zero.source = 0 ∧
    (kindLength noKey.kind.toNat = some noKey.payload.length ∧ heardKey noKey.payload 0 = none) ∧
    (kindLength commit.kind.toNat = some commit.payload.length ∧ payloadField commit.payload 12 1 = 0) ∧
    (kindLength answer.kind.toNat = some answer.payload.length ∧ heardKey answer.payload 0 = none) ∧
    (after .heardClaim (heard [zero] dock)).claims.tally = 0 ∧
    (after .heardClaim (heard [noKey] dock)).claims.tally = 11 ∧
    (after .heardCommit (heard [commit] dock)).table.counts.unusable = 1 ∧
    (after .heardHoldings (heard [answer] dock)).table.counts.unusable = 1 := by decide +kernel

/-- Section 9.10's requests: lost, queued with its mask, joined to the pending mask; and ignored in LISTEN-ONLY. -/
theorem witness_StatusRequest :
    let f (mask : Byte) := frame 0x22 0 5 [2, 0, mask]
    let x := heard [f 16] dock
    let full := sends (filler 16) { x with records := { x.records with overflow := some (.status .link none) } }
    let y := heard [f 1] (after .statusRequest (sends (filler 15) x))
    (x.startup.state ≠ .configLoad ∧ (f 16).kind = 0x22 ∧ (f 16).payload.length = 3 ∧ (f 16).source = 0 ∧
      x.startup.stationId = some (f 16).dest.toNat) ∧
    (after .statusRequest full).records.counts.lost = 1 ∧ (after .statusRequest full).records.pending.link = none ∧
    y.link.txQueue.length = 16 ∧ y.records.pending.link = some 16#13 ∧
    (after .statusRequest y).records.pending.link = some 17#13 ∧
    (y.records.pending.get .link = some 16#13 ∧ (after .millisecondTick y).records.pending.get .link = some 16#13) ∧
    (after .statusRequest (heard [frame 0x22 0 5 [9, 0, 4]] dock)).records.pending.sensing = some 4#13 ∧
    (after .statusRequest (inState .listenOnly x)).records = x.records := by decide +kernel

/-- Section 4.5: CALIBRATE with 1000 g; with 0 g; and with an item already chosen. -/
theorem witness_CalibrateRequest :
    let f (high low : Byte) := frame 0x23 0 5 [high, low]
    let x := heard [f 3 232] dock
    let chosen := { x with measurement := { x.measurement with calibration := .chosen 5 7 } }
    ((f 3 232).payload.length = 2 ∧ (f 3 232).source = 0 ∧ x.startup.stationId = some (f 3 232).dest.toNat) ∧
    (after .calibrate x).measurement.calibration = .pending 1000 ∧
    (after .calibrate (heard [f 0 0] dock)).flag .calIgnored = true ∧
    (after .calibrate chosen).measurement.calibration = .chosen 5 7 := by decide +kernel

/-- HEAD OVERRUN, bit 3, cleared by the mask of a STATUS at its first attempt. -/
theorem witness_StickyFlagsStay :
    let x : Station := { sends [ready (.status .link none)] dock with
      link := { (sends [ready (.status .link none)] dock).link with lineIdle := true }
      records := { dock.records with flags := 8#13, pending := ⟨none, none, some 8#13⟩ } }
    x.flag .headOverrun = true ∧ (after .attemptBegin x).flag .headOverrun = false := by decide +kernel

/-! ### Formats -/

/-- Keys at the ends of their ranges, sources 1 and 31, and a count of 255. -/
theorem witness_ClaimFramesReadBack :
    Key.inRange ⟨.article, 9999999999999⟩ = true ∧ Key.inRange ⟨.serial, 1279999972⟩ = true ∧
    heardKey (Body.claim ⟨.serial, 1279999972⟩ 16777215 65535 255 true).payload 0 = some ⟨.serial, 1279999972⟩ ∧
    payloadField (Body.claim ⟨.serial, 1279999972⟩ 16777215 65535 255 true).payload 12 1 = 255 ∧
    (Body.claim title 11 3 2 true).payload = claimBytes 2 1 := by decide +kernel

/-- R190's lead, 0x55 and 0x5D bit by bit: recognised after 4 recessive bit times and after 9, and not after 3, not behind a
dominant bit, not with its last bit 0, and not with a bit missing. -/
theorem test_lead_is_recognised_by_its_bits :
    let lead := [false, true, false, true, false, true, false, true, false, true, false, true, true, true, false, true]
    let heard (n : Nat) := List.replicate n true ++ lead
    (lead = leadBits ∧ afterLead (heard 4 ++ [false]) = some [false] ∧ afterLead (heard 9) = some []) ∧
    afterLead (heard 3) = none ∧ afterLead (false :: heard 4) = none ∧
    afterLead ((heard 4).take 19 ++ [false, true]) = none ∧ afterLead ((heard 4).take 19) = none := by decide +kernel

/-- A frame taken back from its line bits with seven equal bits in its fields, behind it another's start; a length of 49; and eight
equal bits in a row once the frame has begun, with no end before them. -/
theorem witness_StuffingRoundTrip :
    let f := frame 0x14 7 255 [0, 0, 255, 255, 0]
    let front := (coded f).take 60
    receive (coded f ++ [true, false, true]) = .frame f ∧ receive (coded (frame 0x14 7 255 (List.replicate 49 1))) = .lineError ∧
    receive front = .unfinished ∧ receive (front ++ List.replicate 7 true) ≠ .frame f ∧
    receive (front ++ List.replicate 8 true ++ [false]) = .lineError := by decide +kernel

/-! ### Invariants -/

/-- A station in ACTIVE is inside its capacities and started in order; one in CONFIG LOAD that has seen its clock and its encoder is
idle; and each steps. -/
theorem witness_invariants :
    let loading : Station := { lane 3 [] Station.powerOn with clock := 9 }
    dock.Bounded ∧ dock.Started ∧ loading.startup.state = .configLoad ∧ loading.LoadingIdle ∧
    (∃ t, Machine.step ⟨dock, [.millisecondTick]⟩ = .next t) ∧ ∃ t, Machine.step ⟨loading, [.leadingEdge]⟩ = .next t := by
  refine ⟨⟨by decide, fun h => (by cases h <;> decide), by decide, by decide, by decide, ?_, by decide, by decide, ?_, by decide,
    by decide⟩, ⟨?_, fun _ => rfl, ?_, fun _ => rfl, fun _ => by decide, fun _ => .inr rfl⟩, rfl, ?_, ⟨_, rfl⟩, _, rfl⟩
  · intro c h; cases h
  · intro e h; cases h
  · intro c h
    have : c = Settings.defaults := by simpa [dock] using h.symm
    subst this
    constructor
    all_goals first
      | decide
      | (intro h; revert h; intro h; cases h <;> decide)
  · intro id h
    have : id = 5 := by simpa [dock] using h.symm
    subst this; decide
  · intro _; rfl

/-- A station that sends meets the agreement of line and queue, and a collision is a step from it. -/
theorem witness_LineAndQueueAgree :
    let x := onAir (filler 2) (filler 3) (ready (.commit title 1 3 1)) dock
    x.Coherent ∧ ∃ t, Machine.step ⟨x, [.collision]⟩ = .next t :=
  ⟨⟨by decide, fun h => (by cases h), fun _ => rfl⟩, _, rfl⟩

end Sys2Proof.Tests
end

section
/-! SUPPORT. The diverter, departure and the Lane Hold output (R16 to R19): the meanings of LEADING_EDGE, DIVERT_POINT and
DEPARTURE as operations on the station, what a removal leaves and ends, the three ways a DEPOSIT is offered, and the statements
these settle. -/

namespace Sys2Proof.Machine

/-! ### Meanings -/

theorem exec_leadingEdge (x : Station) (q : List Instr) : exec .leadingEdge ⟨x, q⟩ = .next ⟨x.leadingEdge, q⟩ := rfl

theorem exec_divertPoint (ref : ItemRef) (x : Station) (q : List Instr) :
    exec (.divertPoint ref) ⟨x, q⟩ = .next ⟨x.divertPoint ref, q⟩ := rfl

theorem exec_departure (ref : ItemRef) (x : Station) (q : List Instr) :
    exec (.departure ref) ⟨x, q⟩ = .next ⟨x.departs ref, q⟩ := rfl

variable (s : Station)

/-! ### States of the station -/

theorem Station.ready_iff : s.ready = true ↔ s.startup.state ≠ .configLoad := by simp [Station.ready]

/-! ### Removal (R8, R65, R70) -/

/-- An item written in place, its ref kept, goes with the removal of its ref as it would have gone before. -/
theorem filter_ref_ne_map (ref : ItemRef) (f : Item → Item) (h : ∀ i : Item, (f i).ref = i.ref) (l : List Item) :
    (l.map (fun i => if i.ref = ref then f i else i)).filter (fun i => i.ref ≠ ref) = l.filter (fun i => i.ref ≠ ref) := by
  induction l with
  | nil => rfl
  | cons i l ih =>
    by_cases e : i.ref = ref
    · simpa [e, h i] using ih
    · simpa [e] using ih

/-- Only a chosen item's own removal ends its calibration, with CAL FAILED raised (R70). -/
theorem Station.endCalibrationOf_fails (ref : ItemRef) : s.CalibrationFails (s.endCalibrationOf ref true) ref := by
  unfold Station.endCalibrationOf
  split
  next g r hc =>
    by_cases e : r = ref
    · subst e
      exact ⟨by simp, fun _ => by simp [Flag.bit, Flag.index], fun no => absurd hc (no g)⟩
    · exact ⟨by simp [e], fun ⟨_, own⟩ => absurd (Calibration.chosen.inj (hc.symm.trans own)).2 e,
        fun _ => by simp [e]⟩
  next other => exact ⟨rfl, fun ⟨g, hg⟩ => absurd hg (other g ref), fun _ => ⟨rfl, rfl⟩⟩

/-- The verdict on a calibration speaks of the Measurement Unit's record and the flags alone. -/
theorem Station.CalibrationFails.of_same {s x t : Station} {ref : ItemRef} (h : s.CalibrationFails t ref)
    (factor : s.measurement.factor = x.measurement.factor)
    (calibration : s.measurement.calibration = x.measurement.calibration) (flags : s.records.flags = x.records.flags) :
    x.CalibrationFails t ref :=
  ⟨factor ▸ h.factor, by rw [← calibration, ← flags]; exact h.chosen, by rw [← calibration, ← flags]; exact h.other⟩

/-- A removal frees the item's buffer. -/
theorem Station.removeItem_buffers (ref : ItemRef) (g : Bool) :
    (s.removeItem ref g).measurement.bufferA = (s.measurement.freeBuffer ref).bufferA ∧
      (s.removeItem ref g).measurement.bufferB = (s.measurement.freeBuffer ref).bufferB :=
  Station.endCalibrationOf_changes _ ref g .buffers (by decide)

/-- A removal fails the item's calibration. -/
theorem Station.removeItem_calibrationFails (ref : ItemRef) : s.CalibrationFails (s.removeItem ref true) ref :=
  (Station.endCalibrationOf_fails _ ref).of_same (by simp [Station.freeBuffer, Measurement.freeBuffer])
    (by simp [Station.freeBuffer, Measurement.freeBuffer]) rfl

theorem Station.removeItem_txQueue (ref : ItemRef) (g : Bool) : (s.removeItem ref g).link.txQueue = s.link.txQueue :=
  Station.removeItem_changes s ref g .txQueue (by decide)

theorem Station.removeItem_overflow (ref : ItemRef) (g : Bool) :
    (s.removeItem ref g).records.overflow = s.records.overflow :=
  Station.removeItem_changes s ref g .overflow (by decide)

/-! ### The offer of a DEPOSIT (R18, R167) -/

theorem Station.offerDeposit_of_room (i : Item) (g : Bool) (room : s.link.txQueue.length < 16) :
    s.offerDeposit i g = (s.txPush (.deposit i.deposit)).removeItem i.ref g := by
  simp [Station.offerDeposit, Station.placing, Station.txRoom, Config.txCapacity, room]

theorem Station.offerDeposit_of_empty_slot (i : Item) (g : Bool) (full : ¬ s.link.txQueue.length < 16)
    (empty : s.records.overflow = none) :
    s.offerDeposit i g = { s with records := { s.records with overflow := some (.deposit i.deposit) } }.modifyItem i.ref
      (fun k => { k with depositHeld := true }) := by
  simp [Station.offerDeposit, Station.placing, Station.txRoom, Config.txCapacity, full, empty]

theorem Station.offerDeposit_of_taken_slot (i : Item) (g : Bool) (full : ¬ s.link.txQueue.length < 16)
    (taken : s.records.overflow ≠ none) : s.offerDeposit i g = s := by
  simp [Station.offerDeposit, Station.placing, Station.txRoom, Config.txCapacity, full, taken]

/-! ### DIVERT_POINT (R16) -/

/-- An item's record once the holder of the diverter is checked against the item that takes it. -/
def Item.checkedAgainst (i : Item) (holder : Option ItemRef) (k : Item) : Item :=
  if k.ref ≠ i.ref ∧ holder = some k.ref ∧ k.departed = false ∧ k.chute ≠ i.chute then { k with misdiverted := true } else k

@[simp] theorem Item.checkedAgainst_ref (i : Item) (holder : Option ItemRef) (k : Item) :
    (i.checkedAgainst holder k).ref = k.ref := by
  unfold Item.checkedAgainst
  split <;> rfl

/-- The check passes over the queue once, whoever holds the diverter. -/
theorem Station.checkHolder_eq (i : Item) :
    s.checkHolder i =
      { s with lane := { s.lane with queue := s.lane.queue.map (i.checkedAgainst s.lane.diverterHolder) } } := by
  unfold Station.checkHolder
  split
  next free =>
    have same : i.checkedAgainst s.lane.diverterHolder = id := by
      funext k
      simp [Item.checkedAgainst, free]
    rw [same, List.map_id]
  next r holder =>
    have pass : (fun k : Item => if k.ref = r then
        if r ≠ i.ref ∧ k.departed = false ∧ k.chute ≠ i.chute then { k with misdiverted := true } else k
        else k) = i.checkedAgainst s.lane.diverterHolder := by
      funext k
      by_cases e : k.ref = r
      · simp [Item.checkedAgainst, holder, e]
      · simp [Item.checkedAgainst, holder, e, Ne.symm e]
    rw [Station.modifyItem, pass]

/-- The item of a DIVERT_POINT that is due takes the diverter, after the holder before it is checked. -/
theorem Station.divertPoint_due {ref : ItemRef} {i : Item} {chute : Chute} (found : s.findItem ref = some i)
    (decided : i.lane = .decided) (chosen : i.chute = some chute) (due : dist i.lead s.lane.pos = s.cfg.dDiv) :
    s.divertPoint ref = { s with lane := { s.lane with
      diverterChute := chute, diverterHolder := some ref
      queue := s.lane.queue.map (fun k =>
        if k.ref = ref then { k with lane := .diverting }
        else if s.lane.diverterHolder = some k.ref ∧ k.departed = false ∧ k.chute ≠ some chute then
          { k with misdiverted := true }
        else k) } } := by
  have hr : i.ref = ref := s.findItem_ref found
  simp only [Station.divertPoint, found, decided, due, and_self, if_true, Station.checkHolder_eq, Station.modifyItem,
    List.map_map, chosen, Option.getD_some]
  congr 3
  funext k
  by_cases e : k.ref = ref
  · simp [Item.checkedAgainst, hr, e]
  · rw [Function.comp_apply, if_neg (by rwa [Item.checkedAgainst_ref]), if_neg e]
    simp [Item.checkedAgainst, hr, chosen, e]

/-! ### DEPARTURE (R17) -/

/-- The station once an item is marked departed and has let go of the diverter, before its disposal. -/
def Station.departedOf (ref : ItemRef) (s : Station) : Station :=
  (s.modifyItem ref (fun k => { k with departed := true })).releaseDiverter ref

theorem Station.departs_due {ref : ItemRef} {i : Item} {t : Pos} (found : s.findItem ref = some i)
    (diverting : i.lane = .diverting) (here : i.departed = false) (trail : i.trail = some t)
    (due : dist t s.lane.pos = s.cfg.dDiv) : s.departs ref = (s.departedOf ref).disposeDeparted i := by
  simp [Station.departs, found, diverting, here, trail, due, Station.departedOf]

theorem Station.departs_of_no_trail {ref : ItemRef} {i : Item} (found : s.findItem ref = some i)
    (absent : i.trail = none) : s.departs ref = s := by
  simp [Station.departs, found, absent]

/-- Of the station only the item's mark and the diverter differ before the disposal. -/
theorem Station.departedOf_eq (ref : ItemRef) :
    s.departedOf ref = { s with lane := { s.lane with
      queue := s.lane.queue.map (fun k => if k.ref = ref then { k with departed := true } else k)
      diverterChute := if s.lane.diverterHolder = some ref then 0 else s.lane.diverterChute
      diverterHolder := if s.lane.diverterHolder = some ref then none else s.lane.diverterHolder } } := by
  unfold Station.departedOf Station.releaseDiverter Station.modifyItem
  by_cases holds : s.lane.diverterHolder = some ref
  · simp [holds]
  · simp [holds]

/-- What the departure does to the diverter, the disposal leaves. -/
theorem Station.disposeDeparted_diverter (i : Item) :
    (s.disposeDeparted i).lane.diverterChute = s.lane.diverterChute ∧
      (s.disposeDeparted i).lane.diverterHolder = s.lane.diverterHolder :=
  Station.disposeDeparted_changes s i .diverter (by decide)

/-- An item with a record to build is offered for its DEPOSIT; a slip, and any item in LISTEN-ONLY, goes with none. -/
theorem Station.disposeDeparted_eq (i : Item) :
    s.disposeDeparted i =
      if i.outcome = some .slip ∨ s.startup.state = .listenOnly then s.removeItem i.ref true else s.offerDeposit i true := by
  simp [Station.disposeDeparted, Item.isSlip, Station.listening]

/-- Removed after its departure: the item is gone from the queue, its buffer is free and its calibration has failed. -/
theorem Station.removeItem_departed {x : Station} {ref : ItemRef}
    (queue : s.lane.queue = x.lane.queue.map (fun k => if k.ref = ref then { k with departed := true } else k))
    (measurement : s.measurement = x.measurement) (flags : s.records.flags = x.records.flags) :
    (s.removeItem ref true).lane.queue = x.lane.queue.filter (fun k => k.ref ≠ ref) ∧
      (s.removeItem ref true).measurement.bufferA = (x.measurement.freeBuffer ref).bufferA ∧
      (s.removeItem ref true).measurement.bufferB = (x.measurement.freeBuffer ref).bufferB ∧
      x.CalibrationFails (s.removeItem ref true) ref := by
  obtain ⟨bufferA, bufferB⟩ := s.removeItem_buffers ref true
  refine ⟨?_, measurement ▸ bufferA, measurement ▸ bufferB, ?_⟩
  · rw [s.removeItem_queue, queue, filter_ref_ne_map ref (fun k => { k with departed := true }) (fun _ => rfl)]
  · exact (s.removeItem_calibrationFails ref).of_same (by rw [measurement]) (by rw [measurement]) flags

/-- Settles O22: DIVERT_POINT and DEPARTURE by their equations when due, and the departure by what becomes of the item. -/
theorem divertAndDeparture : Obligations.DivertAndDeparture := by
  unfold Obligations.DivertAndDeparture
  refine ⟨?divert, ?depart, ?absent⟩
  case divert =>
    intro x q ref i chute found decided chosen due
    rw [exec_divertPoint, x.divertPoint_due found decided chosen due]
  case absent =>
    intro x q ref i found absent
    rw [exec_departure, x.departs_of_no_trail found absent]
  case depart =>
    intro x q ref i t found diverting here trail due gone kept removed waits
    have hr : i.ref = ref := x.findItem_ref found
    refine ⟨_, exec_departure ref x q, ?_⟩
    rw [x.departs_due found diverting here trail due]
    have departed := x.departedOf_eq ref
    have queue : (x.departedOf ref).lane.queue = kept := by rw [departed]
    have measurement : (x.departedOf ref).measurement = x.measurement := by rw [departed]
    have link : (x.departedOf ref).link = x.link := by rw [departed]
    have records : (x.departedOf ref).records = x.records := by rw [departed]
    have startup : (x.departedOf ref).startup = x.startup := by rw [departed]
    have chute := ((x.departedOf ref).disposeDeparted_diverter i).1
    have holder := ((x.departedOf ref).disposeDeparted_diverter i).2
    refine ⟨?diverter, ?disposal⟩
    case diverter =>
      rw [chute, holder, departed]
      split_ifs <;> exact ⟨rfl, rfl⟩
    case disposal =>
      rw [Station.disposeDeparted_eq, startup, hr]
      split_ifs with silent room empty
      · exact ⟨Station.removeItem_departed _ queue measurement (by rw [records]),
          by rw [Station.removeItem_txQueue, link], by rw [Station.removeItem_overflow, records]⟩
      · rw [Station.offerDeposit_of_room _ i true (by rwa [link]), hr]
        exact ⟨Station.removeItem_departed _ queue measurement (by rw [Station.txPush_records, records]),
          by rw [Station.removeItem_txQueue, Station.txPush_link_txQueue, link],
          by rw [Station.removeItem_overflow, Station.txPush_records, records]⟩
      · rw [Station.offerDeposit_of_empty_slot _ i true (by rwa [link]) (by rwa [records]), hr]
        exact ⟨by rw [Station.modifyItem_lane_queue, queue], by rw [Station.modifyItem_link, link], rfl,
          by rw [Station.modifyItem_measurement, measurement], by rw [Station.modifyItem_records, records]⟩
      · rw [Station.offerDeposit_of_taken_slot _ i true (by rwa [link]) (by rwa [records])]
        exact ⟨queue, by rw [link], by rw [records], measurement, by rw [records]⟩

/-! ### The Lane Hold output (R19) -/

/-- The output asks the two occupancies and the station state, and nothing else. -/
theorem Station.laneHold_iff :
    s.laneHold = true ↔
      s.cfg.itemHold ≤ s.lane.queue.length ∨ s.cfg.txHold ≤ s.link.txQueue.length ∨ s.startup.state ≠ .active := by
  simp [Station.laneHold, or_assoc]

/-- A station that is not ACTIVE is in one of the three other states. -/
theorem StationState.ne_active_iff (a : StationState) : a ≠ .active ↔ a = .configLoad ∨ a = .joining ∨ a = .listenOnly := by
  cases a <;> decide

/-- The choice of a calibration item takes none from the queue and adds none. -/
theorem Station.scaleWindowOpens_queue_length (ref : ItemRef) :
    (s.scaleWindowOpens ref).lane.queue.length = s.lane.queue.length := by
  unfold Station.scaleWindowOpens
  split
  · rw [Station.modifyItem_lane_queue, List.length_map]
  · rfl

theorem Station.createItem_queue_length : s.createItem.lane.queue.length = s.lane.queue.length + 1 := by
  unfold Station.createItem
  dsimp only
  split
  · rw [Station.scaleWindowOpens_queue_length, List.length_append, List.length_singleton]
  · rw [List.length_append, List.length_singleton]

/-- Outside CONFIG LOAD a leading edge with a place in the queue creates its item. -/
theorem Station.leadingEdge_of_place (configured : s.startup.state ≠ .configLoad) (place : s.lane.queue.length < 8) :
    s.leadingEdge = s.createItem := by
  simp [Station.leadingEdge, s.ready_iff.mpr configured, Config.itemCapacity, place]

/-- Settles O23: the output by its three conditions; the creation of an item asks nothing of it. -/
theorem laneHoldOutput : Obligations.LaneHoldOutput := by
  unfold Obligations.LaneHoldOutput
  refine ⟨fun x => ?_, fun x q _ configured place => ?_⟩
  · rw [x.laneHold_iff, StationState.ne_active_iff]
  · rw [exec_leadingEdge, x.leadingEdge_of_place configured place]
    exact ⟨_, rfl, x.createItem_queue_length⟩

end Sys2Proof.Machine
end

section
/-! SUPPORT. Gateway requests (R67, R171): the frame of every command in one statement, the meaning of a delivery whose frame
stands in front, what a STATUS REQUEST and a CALIBRATE come to case by case, how a pending STATUS mark can go, and the
statement these settle. -/

namespace Sys2Proof.Machine

/-! ### The frame of every command -/

/-- Every command answers a next state, with the same commands waiting, and touches no more than `touches` lists for it. -/
theorem exec_frame (c : Instr) (x : Station) (q : List Instr) :
    ∃ y, exec c ⟨x, q⟩ = .next ⟨y, q⟩ ∧ Changes (touches c) x y := by
  cases c with
  | powerOn => exact ⟨_, rfl, x.powersOn_changes⟩
  | configReadComplete block => exact ⟨_, rfl, x.configRead_changes block⟩
  | millisecondTick => exact ⟨_, rfl, x.tick_changes⟩
  | encoderForwardCount => exact ⟨_, rfl, x.forwardCount_changes⟩
  | encoderReverseCount => exact ⟨_, rfl, .refl x⟩
  | leadingEdge => exact ⟨_, rfl, x.leadingEdge_changes.mono rfl⟩
  | trailingEdge => exact ⟨_, rfl, x.trailingEdge_changes.mono rfl⟩
  | overlongCloseOff => exact ⟨_, rfl, x.overlongCloseOff_changes⟩
  | windowOpen ref head => exact ⟨_, rfl, x.windowOpens_changes ref head⟩
  | windowClose ref head => exact ⟨_, rfl, (x.windowCloses_changes ref head).mono rfl⟩
  | weightCompletion ref => exact ⟨_, rfl, (x.weightCompletes_changes ref).mono rfl⟩
  | decisionDue ref => exact ⟨_, rfl, (x.decisionDue_changes ref).mono rfl⟩
  | divertPoint ref => exact ⟨_, rfl, x.divertPoint_changes ref⟩
  | departure ref => exact ⟨_, rfl, (x.departs_changes ref).mono rfl⟩
  | headSymbolArrival head symbol => exact ⟨_, rfl, (x.symbolArrives_changes head symbol).mono rfl⟩
  | framerTakeSymbol head => exact ⟨_, rfl, x.framerTake_changes head⟩
  | handOver head => exact ⟨_, rfl, (x.handsOver_changes head).mono rfl⟩
  | settleExpiry ref => exact ⟨_, rfl, (x.settleExpires_changes ref).mono rfl⟩
  | claimExpiry key station ref => exact ⟨_, rfl, (x.claimExpires_changes key station ref).mono rfl⟩
  | requestedLapse key => exact ⟨_, rfl, x.requestLapses_changes key⟩
  | joinQuietExpiry => exact ⟨_, rfl, x.joinQuietEnds_changes.mono rfl⟩
  | lineIdle => exact ⟨_, rfl, x.lineGoesIdle_changes⟩
  | attemptBegin => exact ⟨_, rfl, x.attemptBegins_changes⟩
  | chainContinuation => exact ⟨_, rfl, x.chainContinues_changes⟩
  | collision => exact ⟨_, rfl, x.collides_changes⟩
  | jamEnd => exact ⟨_, rfl, x.jamEnds_changes.mono rfl⟩
  | backoffExpiry place => exact ⟨_, rfl, x.backoffExpires_changes place⟩
  | attemptComplete => exact ⟨_, rfl, x.attemptCompletes_changes.mono rfl⟩
  | frameReceived bits => exact ⟨_, rfl, (x.frameEnds_changes bits).mono rfl⟩
  | rxLineError => exact ⟨_, rfl, x.lineError_changes⟩
  | heardClaim =>
    exact ⟨_, rfl, x.deliver_changes _ _ (by decide) fun f y => (y.deliverClaim_changes f).mono rfl⟩
  | heardCommit =>
    exact ⟨_, rfl, x.deliver_changes _ _ (by decide) fun f y => (y.deliverCommit_changes f).mono rfl⟩
  | heardWithdraw =>
    exact ⟨_, rfl, x.deliver_changes _ _ (by decide) fun f y => (y.deliverWithdraw_changes f).mono rfl⟩
  | heardHoldings =>
    exact ⟨_, rfl, x.deliver_changes _ _ (by decide) fun f y => (y.deliverHoldings_changes f).mono rfl⟩
  | heardAnnounce => exact ⟨_, rfl, x.deliver_changes _ _ (by decide) fun _ y => (y.adopt_changes _).mono rfl⟩
  | statusRequest =>
    exact ⟨_, rfl, x.deliver_changes _ _ (by decide) fun _ y => (y.requestStatus_changes _ _).mono rfl⟩
  | calibrate => exact ⟨_, rfl, x.deliver_changes _ _ (by decide) fun _ y => (y.calibrateRequest_changes _).mono rfl⟩
  | restart => exact ⟨_, rfl, x.deliver_changes _ _ (by decide) fun _ y => y.laneRestart_changes.mono rfl⟩
  | localRestart => exact ⟨_, rfl, x.restartPressed_changes.mono rfl⟩
  | misdirectedFrame => exact ⟨_, rfl, x.deliver_changes _ _ (by decide) fun _ y => (y.countLink_changes _).mono rfl⟩
  | malformedFrame => exact ⟨_, rfl, x.deliver_changes _ _ (by decide) fun _ y => (y.countLink_changes _).mono rfl⟩
  | unaddressedFrame => exact ⟨_, rfl, x.deliver_changes _ _ (by decide) fun _ y => .refl y⟩
  | localRestartRelease => exact ⟨_, rfl, x.restartReleased_changes⟩
  | lineLeavesIdle => exact ⟨_, rfl, x.lineLeaves_changes⟩
  | leadFound => exact ⟨_, rfl, x.leadIsFound_changes⟩

/-- A next state differs from the state before it in nothing its command may not touch. -/
theorem exec_changes {c : Instr} {s t : State} (h : exec c s = .next t) : Changes (touches c) s.station t.station := by
  obtain ⟨y, run, frame⟩ := exec_frame c s.station s.pending
  cases h.symm.trans run
  exact frame

/-- The commands that may touch the pending STATUS marks. -/
theorem pendingStatus_mem_touches {c : Instr} : .pendingStatus ∈ touches c ↔
    c = .powerOn ∨ c = .attemptBegin ∨ c = .chainContinuation ∨ (∃ bits, c = .frameReceived bits) ∨ c = .statusRequest := by
  cases c <;> simp [touches]

/-! ### Meanings -/

theorem exec_attemptBegin (x : Station) (q : List Instr) : exec .attemptBegin ⟨x, q⟩ = .next ⟨x.attemptBegins, q⟩ := rfl

theorem exec_chainContinuation (x : Station) (q : List Instr) :
    exec .chainContinuation ⟨x, q⟩ = .next ⟨x.chainContinues, q⟩ := rfl

theorem exec_frameReceived (bits : List Bool) (x : Station) (q : List Instr) :
    exec (.frameReceived bits) ⟨x, q⟩ = .next ⟨x.frameEnds bits, q⟩ := rfl

theorem exec_statusRequest (x : Station) (q : List Instr) :
    exec .statusRequest ⟨x, q⟩ = .next ⟨x.deliver .statusRequest Station.deliverStatusRequest, q⟩ := rfl

theorem exec_calibrate (x : Station) (q : List Instr) :
    exec .calibrate ⟨x, q⟩ =
      .next ⟨x.deliver .calibrate (fun f => Station.calibrateRequest (payloadField f.payload 0 2)), q⟩ := rfl

variable (s : Station)

theorem Station.listening_iff : s.listening = true ↔ s.startup.state = .listenOnly := by simp [Station.listening]

/-! ### The frame in front (R156) -/

/-- Outside CONFIG LOAD the front frame is taken by the delivery of its kind. -/
theorem Station.deliver_of_front {d : Delivery} {f : RxFrame} {rest : List RxFrame} (use : RxFrame → Station → Station)
    (configured : s.startup.state ≠ .configLoad) (front : s.link.rxQueue = f :: rest)
    (kind : classify s.startup.stationId f = d) :
    s.deliver d use = use f { s with link := { s.link with rxQueue := rest } } := by
  simp [Station.deliver, Station.takeFront, front, kind, s.ready_iff.mpr configured]

/-- A STATUS REQUEST from the gateway to this station is delivered as one. -/
theorem classify_statusRequest {own : Option Nat} {f : RxFrame} (kind : f.kind = 0x22) (length : f.payload.length = 3)
    (gateway : f.source = 0) (addressed : own = some f.dest.toNat) : classify own f = .statusRequest := by
  simp [classify, kindLength, requestKind, kind, length, gateway, addressed]

/-- A CALIBRATE from the gateway to this station is delivered as one. -/
theorem classify_calibrate {own : Option Nat} {f : RxFrame} (kind : f.kind = 0x23) (length : f.payload.length = 2)
    (gateway : f.source = 0) (addressed : own = some f.dest.toNat) : classify own f = .calibrate := by
  simp [classify, kindLength, requestKind, kind, length, gateway, addressed]

/-! ### Where a record goes (R167) -/

theorem Station.placing_of_room (room : s.link.txQueue.length < 16) : s.placing = .queued := by
  simp [Station.placing, Station.txRoom, Config.txCapacity, room]

theorem Station.placing_of_empty_slot (full : ¬ s.link.txQueue.length < 16) (empty : s.records.overflow = none) :
    s.placing = .slotted := by
  simp [Station.placing, Station.txRoom, Config.txCapacity, full, empty]

theorem Station.placing_of_taken_slot (full : ¬ s.link.txQueue.length < 16) (taken : s.records.overflow ≠ none) :
    s.placing = .lost := by
  simp [Station.placing, Station.txRoom, Config.txCapacity, full, taken]

/-! ### STATUS REQUEST (R171) -/

theorem Station.requestStatus_of_listenOnly (g : StatusGroup) (mask : BitVec 13) (silent : s.startup.state = .listenOnly) :
    s.requestStatus g mask = s := by
  simp [Station.requestStatus, s.listening_iff.mpr silent]

/-- With a STATUS of the group pending, the mask joins its mask. -/
theorem Station.requestStatus_of_pending {g : StatusGroup} {m : BitVec 13} (mask : BitVec 13)
    (heard : s.startup.state ≠ .listenOnly) (pending : s.records.pending.get g = some m) :
    s.requestStatus g mask =
      { s with records := { s.records with pending := s.records.pending.set g (some (m ||| mask)) } } := by
  simp [Station.requestStatus, mt s.listening_iff.mp heard, pending]

/-- With none pending, a STATUS is offered, and its mask is pending unless it was lost. -/
theorem Station.requestStatus_of_none {g : StatusGroup} (mask : BitVec 13) (heard : s.startup.state ≠ .listenOnly)
    (noMark : s.records.pending.get g = none) :
    s.requestStatus g mask =
      if s.placing = .lost then s.offerRecord (.status g none)
      else { s.offerRecord (.status g none) with records := { (s.offerRecord (.status g none)).records with
        pending := s.records.pending.set g (some mask) } } := by
  have kept : (s.offerRecord (.status g none)).records.pending = s.records.pending :=
    s.offerRecord_changes _ .pendingStatus (by decide)
  simp [Station.requestStatus, mt s.listening_iff.mp heard, noMark, kept]

/-- A STATUS that finds room in the queue. -/
theorem Station.requestStatus_of_room {g : StatusGroup} (mask : BitVec 13) (heard : s.startup.state ≠ .listenOnly)
    (noMark : s.records.pending.get g = none) (room : s.link.txQueue.length < 16) :
    s.requestStatus g mask = { s with
      link := { s.link with txQueue := s.link.txQueue ++ [⟨.status g none, 0, .ready, false⟩] }
      records := { s.records with pending := s.records.pending.set g (some mask) } } := by
  simp [s.requestStatus_of_none mask heard noMark, Station.offerRecord, s.placing_of_room room, Station.txPush]

/-- A STATUS that finds the queue full and the slot empty. -/
theorem Station.requestStatus_of_empty_slot {g : StatusGroup} (mask : BitVec 13) (heard : s.startup.state ≠ .listenOnly)
    (noMark : s.records.pending.get g = none) (full : ¬ s.link.txQueue.length < 16) (empty : s.records.overflow = none) :
    s.requestStatus g mask = { s with records := { s.records with
      overflow := some (.status g none), pending := s.records.pending.set g (some mask) } } := by
  simp [s.requestStatus_of_none mask heard noMark, Station.offerRecord, s.placing_of_empty_slot full empty]

/-- A STATUS that finds no room is lost with its mask, and counted. -/
theorem Station.requestStatus_of_taken_slot {g : StatusGroup} (mask : BitVec 13) (heard : s.startup.state ≠ .listenOnly)
    (noMark : s.records.pending.get g = none) (full : ¬ s.link.txQueue.length < 16) (taken : s.records.overflow ≠ none) :
    s.requestStatus g mask =
      { s with records := { s.records with counts := { s.records.counts with lost := s.records.counts.lost + 1 } } } := by
  simp [s.requestStatus_of_none mask heard noMark, Station.offerRecord, s.placing_of_taken_slot full taken]

/-! ### CALIBRATE (R67) -/

theorem Station.calibrateRequest_of_chosen {g : Nat} {ref : ItemRef} (grams : Nat)
    (chosen : s.measurement.calibration = .chosen g ref) : s.calibrateRequest grams = s.raise .calIgnored := by
  simp [Station.calibrateRequest, chosen]

/-- With no item chosen, 0 grams are ignored, and any other G makes the record PENDING. -/
theorem Station.calibrateRequest_of_not_chosen (grams : Nat)
    (vacant : ∀ g ref, s.measurement.calibration ≠ .chosen g ref) :
    s.calibrateRequest grams = if grams = 0 then s.raise .calIgnored
      else { s with measurement := { s.measurement with calibration := .pending grams } } := by
  unfold Station.calibrateRequest
  split
  next g ref chosen => exact absurd chosen (vacant g ref)
  next => rfl

/-! ### How a pending mark goes (R171, R172) -/

theorem PendingStatus.get_set_same (p : PendingStatus) (g : StatusGroup) (m : Option (BitVec 13)) :
    (p.set g m).get g = m := by
  cases g <;> rfl

theorem PendingStatus.get_set_other {g h : StatusGroup} (p : PendingStatus) (m : Option (BitVec 13)) (ne : h ≠ g) :
    (p.set g m).get h = p.get h := by
  cases g <;> cases h <;> first | rfl | exact absurd rfl ne

/-- A mark set to a mask takes no mark away. -/
theorem PendingStatus.get_set_some_ne_none {g h : StatusGroup} {p : PendingStatus} (m : BitVec 13) (set : p.get h ≠ none) :
    (p.set g (some m)).get h ≠ none := by
  by_cases e : h = g
  · simp [e, PendingStatus.get_set_same]
  · rwa [PendingStatus.get_set_other p _ e]

/-- Only the sampling of a STATUS of the group takes its mark away. -/
theorem Station.afterSampling_clears {b : Body} {g : StatusGroup} (set : s.records.pending.get g ≠ none)
    (clear : (s.afterSampling b).records.pending.get g = none) : b = .status g none := by
  unfold Station.afterSampling at clear
  split at clear
  next h =>
    by_cases e : g = h
    · rw [e]
    · have kept : (s.applyMask h).records.pending.get g = s.records.pending.get g := PendingStatus.get_set_other _ _ e
      exact absurd (kept.symm.trans clear) set
  next => exact absurd clear set

/-- A frame that goes on the line takes a mark away only as the first attempt of a STATUS of the group. -/
theorem Station.beginAt_clears {place : Nat} {g : StatusGroup} (set : s.records.pending.get g ≠ none)
    (clear : (s.beginAt place).records.pending.get g = none) : ∃ f ∈ s.link.txQueue, f.body = .status g none := by
  unfold Station.beginAt at clear
  split at clear
  next => exact absurd clear set
  next f there => exact ⟨f, List.mem_of_getElem? there, s.afterSampling_clears set clear⟩

theorem Station.attemptBegins_clears {g : StatusGroup} (set : s.records.pending.get g ≠ none)
    (clear : s.attemptBegins.records.pending.get g = none) : ∃ f ∈ s.link.txQueue, f.body = .status g none := by
  unfold Station.attemptBegins at clear
  split at clear
  next =>
    split at clear
    next => exact Station.beginAt_clears { s with link := { s.link with chain := 0 } } set clear
    next => exact absurd clear set
  next => exact absurd clear set

theorem Station.chainContinues_clears {g : StatusGroup} (set : s.records.pending.get g ≠ none)
    (clear : s.chainContinues.records.pending.get g = none) : ∃ f ∈ s.link.txQueue, f.body = .status g none := by
  unfold Station.chainContinues at clear
  split at clear
  next =>
    split at clear
    next => exact s.beginAt_clears set clear
    next => exact absurd clear set
  next => exact absurd clear set

/-- A frame with the station's own id leaves the station as it was or in LISTEN-ONLY (R185). -/
theorem Station.ownIdReport_cases (f : RxFrame) : s.ownIdReport f = s ∨ (s.ownIdReport f).startup.state = .listenOnly := by
  unfold Station.ownIdReport Station.duplicateId
  split_ifs
  · right
    exact (Station.stopRecords_changes _ .stationState (by decide)).trans (Station.stopClaims_changes _ .stationState (by decide))
  · exact .inl rfl
  · exact .inl rfl

/-- A whole frame leaves the pending marks as they were or the station in LISTEN-ONLY: the receive queue it then joins has no
part in either. -/
theorem Station.frameTaken_pending_or_listenOnly (f : RxFrame) :
    (s.frameTaken f).records.pending = s.records.pending ∨ (s.frameTaken f).startup.state = .listenOnly := by
  unfold Station.frameTaken
  split
  next =>
    have pending := fun t : Station => t.enqueueReceived_changes f .pendingStatus (by decide)
    have state := fun t : Station => t.enqueueReceived_changes f .stationState (by decide)
    rcases Station.ownIdReport_cases { s with link := { s.link with reception := .seeking } } f with same | silent
    · rw [same]
      exact .inl (pending _)
    · exact .inr ((state _).trans silent)
  next => exact .inl rfl

/-- So do the bits of any reception. -/
theorem Station.frameEnds_pending_or_listenOnly (bits : List Bool) :
    (s.frameEnds bits).records.pending = s.records.pending ∨ (s.frameEnds bits).startup.state = .listenOnly := by
  unfold Station.frameEnds
  split
  next =>
    split
    next f _ => exact s.frameTaken_pending_or_listenOnly f
    all_goals exact .inl rfl
  next => exact .inl rfl

/-- A STATUS REQUEST takes no mark away. -/
theorem Station.requestStatus_keeps_pending {g h : StatusGroup} (mask : BitVec 13) (set : s.records.pending.get h ≠ none) :
    (s.requestStatus g mask).records.pending.get h ≠ none := by
  by_cases silent : s.startup.state = .listenOnly
  · rwa [s.requestStatus_of_listenOnly g mask silent]
  cases pending : s.records.pending.get g with
  | some m =>
    rw [s.requestStatus_of_pending mask silent pending]
    exact PendingStatus.get_set_some_ne_none _ set
  | none =>
    rw [s.requestStatus_of_none mask silent pending]
    split_ifs
    · rwa [show (s.offerRecord (.status g none)).records.pending = s.records.pending from
        s.offerRecord_changes _ .pendingStatus (by decide)]
    · exact PendingStatus.get_set_some_ne_none _ set

/-- Nor does its delivery. -/
theorem Station.deliver_statusRequest_keeps_pending {h : StatusGroup} (set : s.records.pending.get h ≠ none) :
    (s.deliver .statusRequest Station.deliverStatusRequest).records.pending.get h ≠ none := by
  unfold Station.deliver
  split
  next => exact set
  next f t taken =>
    have kept : t.records.pending = s.records.pending := s.takeFront_changes taken .pendingStatus (by decide)
    exact t.requestStatus_keeps_pending _ (by rwa [kept])

/-- What takes a pending mark away: power-on, the entry to LISTEN-ONLY, the first attempt of a STATUS of the group. -/
theorem exec_clears_pending {c : Instr} {s t : State} {g : StatusGroup} (run : exec c s = .next t)
    (set : s.station.records.pending.get g ≠ none) (clear : t.station.records.pending.get g = none) :
    c = .powerOn ∨ t.station.startup.state = .listenOnly ∨
      ((c = .attemptBegin ∨ c = .chainContinuation) ∧ ∃ f ∈ s.station.link.txQueue, f.body = .status g none) := by
  have touched : .pendingStatus ∈ touches c := by
    by_contra untouched
    have kept : t.station.records.pending = s.station.records.pending := exec_changes run .pendingStatus untouched
    exact set (kept ▸ clear)
  obtain ⟨x, q⟩ := s
  rcases pendingStatus_mem_touches.mp touched with rfl | rfl | rfl | ⟨bits, rfl⟩ | rfl
  · exact .inl rfl
  · rw [exec_attemptBegin] at run
    cases run
    exact .inr (.inr ⟨.inl rfl, x.attemptBegins_clears set clear⟩)
  · rw [exec_chainContinuation] at run
    cases run
    exact .inr (.inr ⟨.inr rfl, x.chainContinues_clears set clear⟩)
  · rw [exec_frameReceived] at run
    cases run
    rcases x.frameEnds_pending_or_listenOnly bits with kept | silent
    · exact absurd (kept ▸ clear) set
    · exact .inr (.inl silent)
  · rw [exec_statusRequest] at run
    cases run
    exact absurd clear (x.deliver_statusRequest_keeps_pending set)

/-- Settles O53: a mark's end by the commands that touch the marks; each request as its delivery, by what the station holds. -/
theorem gatewayRequests : Obligations.GatewayRequests := by
  unfold Obligations.GatewayRequests
  refine ⟨?stays, ?status, ?calibrate⟩
  case stays =>
    intro c s t g mask run pending clear
    exact exec_clears_pending run (by simp [pending]) clear
  case status =>
    intro x q f rest configured front kind length gateway addressed g mask y
    have group : g = StatusGroup.ofNumber (payloadField f.payload 0 1) := rfl
    rw [exec_statusRequest, x.deliver_of_front _ configured front (classify_statusRequest kind length gateway addressed),
      Station.deliverStatusRequest, ← group]
    refine congrArg (fun z => Host.Outcome.next (State.mk z q)) (?_ : y.requestStatus g mask = _)
    split
    next silent => exact y.requestStatus_of_listenOnly g mask silent
    next heard =>
      split
      next m pending => exact y.requestStatus_of_pending mask heard pending
      next noMark =>
        split_ifs with room empty
        · exact y.requestStatus_of_room mask heard noMark room
        · exact y.requestStatus_of_empty_slot mask heard noMark room empty
        · exact y.requestStatus_of_taken_slot mask heard noMark room empty
  case calibrate =>
    intro x q f rest configured front kind length gateway addressed grams y ignored
    rw [exec_calibrate, x.deliver_of_front _ configured front (classify_calibrate kind length gateway addressed)]
    refine congrArg (fun z => Host.Outcome.next (State.mk z q)) (?_ : y.calibrateRequest grams = _)
    split
    next g ref chosen => exact y.calibrateRequest_of_chosen grams chosen
    next vacant => exact y.calibrateRequest_of_not_chosen grams vacant

end Sys2Proof.Machine
end

section
/-! SUPPORT. Claim order (R92): the forward difference of two tallies one way and the other, claim order as the two ways a claim
can stand before another, and the statement these settle. -/

namespace Sys2Proof.Machine

/-! ### The forward difference -/

theorem dist_eq_mod (s t : Tally) : dist s t = (t.toNat + 16777216 - s.toNat) % 16777216 := by
  have small := s.isLt
  rw [dist, BitVec.toNat_sub]
  omega

theorem dist_eq_zero_iff (s t : Tally) : dist s t = 0 ↔ s = t := by
  have hs := s.isLt
  have ht := t.isLt
  rw [dist_eq_mod, ← BitVec.toNat_inj]
  omega

/-- The way there and the way back make one turn of the tally's circle, or the tallies are equal and both ways are 0. -/
theorem dist_swap (s t : Tally) :
    dist s t = 0 ∧ dist t s = 0 ∨ 0 < dist s t ∧ 0 < dist t s ∧ dist s t + dist t s = 16777216 := by
  have hs := s.isLt
  have ht := t.isLt
  rw [dist_eq_mod, dist_eq_mod]
  omega

/-! ### The two ways to be before -/

/-- R92's first case: b's tally lies less than half a turn ahead of a's. -/
def Claim.leads (a b : Claim) : Prop := 1 ≤ dist a.tally b.tally ∧ dist a.tally b.tally ≤ 8388607

/-- The tallies do not decide: they are equal or half a turn apart. -/
def Claim.tallyTies (a b : Claim) : Prop := dist a.tally b.tally = 0 ∨ dist a.tally b.tally = 8388608

/-- The pair that decides where the tallies do not: station id first, then item ref. -/
def Claim.origin (c : Claim) : Nat ×ₗ Nat := toLex (c.station, c.ref.toNat)

theorem Claim.origin_lt_iff (a b : Claim) :
    a.origin < b.origin ↔ a.station < b.station ∨ a.station = b.station ∧ a.ref.toNat < b.ref.toNat := Prod.Lex.toLex_lt_toLex

theorem Claim.origin_inj (a b : Claim) : a.origin = b.origin ↔ (a.station, a.ref) = (b.station, b.ref) := by
  simp [Claim.origin, BitVec.toNat_inj]

/-- The four cases of R92 are two: the tallies decide, or they tie and the origins decide. -/
theorem Claim.before_iff (a b : Claim) : a.before b = true ↔ a.leads b ∨ a.tallyTies b ∧ a.origin < b.origin := by
  rw [Claim.origin_lt_iff, Claim.leads, Claim.tallyTies, Claim.before, claimBefore, ← dist]
  simp only [Bool.or_eq_true, Bool.and_eq_true, decide_eq_true_eq]
  tauto

/-- Either exactly one of two claims leads the other and no tie stands, or the tallies tie both ways and neither leads. -/
theorem Claim.leads_or_ties (a b : Claim) :
    a.leads b ∧ ¬ b.leads a ∧ ¬ b.tallyTies a ∨ b.leads a ∧ ¬ a.leads b ∧ ¬ a.tallyTies b ∨
    a.tallyTies b ∧ b.tallyTies a ∧ ¬ a.leads b ∧ ¬ b.leads a := by
  unfold Claim.leads Claim.tallyTies
  have turn := dist_swap a.tally b.tally
  have ranges : (1 ≤ dist a.tally b.tally ∧ dist a.tally b.tally ≤ 8388607) ∨ 8388608 < dist a.tally b.tally ∨
      (dist a.tally b.tally = 0 ∨ dist a.tally b.tally = 8388608) := by omega
  rcases ranges with ahead | behind | tie
  · refine .inl ⟨ahead, ?_, ?_⟩ <;> omega
  · refine .inr (.inl ⟨?_, ?_, ?_⟩) <;> omega
  · refine .inr (.inr ⟨tie, ?_, ?_, ?_⟩) <;> omega

/-- Claims of different origin are never before each other both ways, and never neither way. -/
theorem Claim.before_iff_not_before {a b : Claim} (apart : a.origin ≠ b.origin) : a.before b = true ↔ ¬ b.before a = true := by
  rw [a.before_iff, b.before_iff]
  rcases a.leads_or_ties b with ⟨ahead, notBehind, noTie⟩ | ⟨behind, notAhead, noTie⟩ | ⟨tie, tieBack, notAhead, notBehind⟩
  · simp [ahead, notBehind, noTie]
  · simp [behind, notAhead, noTie]
  · simp only [tie, tieBack, notAhead, notBehind, false_or, true_and, not_lt]
    exact apart.le_iff_lt.symm

/-- Settles O34: the four cases as the two ways to be before, and totality from the origins' lexicographic order. -/
theorem claimOrder : Obligations.ClaimOrder := by
  unfold Obligations.ClaimOrder
  refine fun a b => ⟨?cases, fun apart => Claim.before_iff_not_before (mt (a.origin_inj b).mp apart)⟩
  case cases =>
    rw [a.before_iff, Claim.origin_lt_iff, Claim.leads, Claim.tallyTies, dist_eq_zero_iff, dist_eq_mod]
    tauto

end Sys2Proof.Machine
end

section
/-! SUPPORT. Own commits and their re-tests (R111, R123 to R125): an entry written and touched where no two keys are equal, what the
offer of a notice comes to, what one own commit leaves of the items, the entry and the queue, what the re-tests keep and where they
end, the meaning of SETTLE_EXPIRY, and the statement these settle. -/

namespace Sys2Proof.Machine

theorem exec_settleExpiry (ref : ItemRef) (x : Station) (q : List Instr) :
    exec (.settleExpiry ref) ⟨x, q⟩ = .next ⟨x.settleExpires ref, q⟩ := rfl

variable (s : Station)

/-! ### An entry written and touched (R91, R98) -/

/-- Where no two keys are equal, the entry of a key taken out leaves no other of that key. -/
theorem eraseP_key_eq_filter (k : Key) {l : List Entry} (distinct : (l.map Entry.key).Nodup) :
    l.eraseP (fun e => e.key = k) = l.filter (fun e => e.key ≠ k) := by
  induction l with
  | nil => rfl
  | cons e l ih =>
    obtain ⟨fresh, distinct⟩ := List.nodup_cons.mp distinct
    by_cases own : e.key = k
    · have others : ∀ a ∈ l, a.key ≠ k := fun a ha same => fresh (List.mem_map.mpr ⟨a, ha, same.trans own.symm⟩)
      rw [List.eraseP_cons_of_pos (by simpa using own), List.filter_cons_of_neg (by simpa using own), eq_comm,
        List.filter_eq_self]
      simpa using others
    · simpa [own] using ih distinct

/-- Entries written by their key, the key kept, go with it as they would have gone before. -/
theorem filter_key_ne_map (k : Key) {f : Entry → Entry} (keepsKey : ∀ e : Entry, (f e).key = e.key) (l : List Entry) :
    (l.map (fun e => if e.key = k then f e else e)).filter (fun e => e.key ≠ k) = l.filter (fun e => e.key ≠ k) := by
  induction l with
  | nil => rfl
  | cons e l ih =>
    by_cases own : e.key = k
    · simpa [own, keepsKey e] using ih
    · simpa [own] using ih

theorem key_ne_of_mem_eraseP {k : Key} {l : List Entry} (distinct : (l.map Entry.key).Nodup) :
    ∀ a ∈ l.eraseP (fun e => e.key = k), a.key ≠ k := by
  simp [eraseP_key_eq_filter k distinct]

/-- A write that keeps the entry's key keeps the table's keys. -/
theorem Station.keys_modifyEntry (k : Key) {f : Entry → Entry} (keepsKey : ∀ e : Entry, (f e).key = e.key) :
    (s.modifyEntry k f).table.entries.map Entry.key = s.table.entries.map Entry.key := by
  rw [Station.modifyEntry_table_entries, List.map_map]
  refine List.map_congr_left fun e _ => ?_
  by_cases own : e.key = k
  · simp [own, keepsKey]
  · simp [own]

/-- The entry as written stands at the most recent end, the others in their order. -/
theorem Station.writeEntry_eq {k : Key} {e : Entry} {f : Entry → Entry} (keepsKey : ∀ e : Entry, (f e).key = e.key)
    (found : s.entry k = some e) (distinct : (s.table.entries.map Entry.key).Nodup) :
    s.writeEntry k f =
      { s with table := { s.table with entries := s.table.entries.eraseP (fun a => a.key = k) ++ [f e] } } := by
  have read : (s.modifyEntry k f).entry k = some (f e) := by
    rw [s.entry_modifyEntry k f fun a own => (keepsKey a).trans own, found, Option.map_some]
  have others : (s.modifyEntry k f).table.entries.eraseP (fun a => a.key = k) =
      s.table.entries.eraseP (fun a => a.key = k) := by
    rw [eraseP_key_eq_filter k (by rwa [s.keys_modifyEntry k keepsKey]), eraseP_key_eq_filter k distinct,
      Station.modifyEntry_table_entries, filter_key_ne_map k keepsKey]
  simp only [Station.writeEntry, Station.touch, read, others]
  rfl

/-- An entry written reads as written. -/
theorem Station.entry_writeEntry {k : Key} {e : Entry} {f : Entry → Entry} (keepsKey : ∀ e : Entry, (f e).key = e.key)
    (found : s.entry k = some e) (distinct : (s.table.entries.map Entry.key).Nodup) :
    (s.writeEntry k f).entry k = some (f e) := by
  have key : (f e).key = k := (keepsKey e).trans (s.entry_key found)
  have gone : (s.table.entries.eraseP (fun a => a.key = k)).find? (fun a => a.key = k) = none :=
    List.find?_eq_none.mpr fun a left => by simpa using key_ne_of_mem_eraseP distinct a left
  rw [s.writeEntry_eq keepsKey found distinct, Station.entry, List.find?_append, gone]
  simp [key]

/-- No write makes two keys equal. -/
theorem Station.keys_writeEntry_nodup {k : Key} {e : Entry} {f : Entry → Entry} (keepsKey : ∀ e : Entry, (f e).key = e.key)
    (found : s.entry k = some e) (distinct : (s.table.entries.map Entry.key).Nodup) :
    ((s.writeEntry k f).table.entries.map Entry.key).Nodup := by
  have key : (f e).key = k := (keepsKey e).trans (s.entry_key found)
  rw [s.writeEntry_eq keepsKey found distinct, List.map_append, List.nodup_append']
  refine ⟨distinct.sublist (List.eraseP_sublist.map _), List.nodup_singleton _, ?_⟩
  simpa [key] using key_ne_of_mem_eraseP (k := k) distinct

@[simp] theorem Station.touch_lane (k : Key) : (s.touch k).lane = s.lane := by unfold Station.touch; split <;> rfl
@[simp] theorem Station.touch_link (k : Key) : (s.touch k).link = s.link := by unfold Station.touch; split <;> rfl
@[simp] theorem Station.touch_records (k : Key) : (s.touch k).records = s.records := by unfold Station.touch; split <;> rfl

@[simp] theorem Station.writeEntry_lane (k : Key) (f : Entry → Entry) : (s.writeEntry k f).lane = s.lane := by
  simp [Station.writeEntry]

@[simp] theorem Station.writeEntry_link (k : Key) (f : Entry → Entry) : (s.writeEntry k f).link = s.link := by
  simp [Station.writeEntry]

@[simp] theorem Station.writeEntry_records (k : Key) (f : Entry → Entry) : (s.writeEntry k f).records = s.records := by
  simp [Station.writeEntry]

/-! ### The offer of a notice (R142) -/

/-- A notice joins a queue with room; at a full one it is an abandon counted and TX ABANDON set. -/
theorem Station.offerNotice_eq (b : Body) :
    s.offerNotice b = if s.link.txQueue.length < 16 then s.txPush b else s.countAbandon.raise .txAbandon := by
  by_cases room : s.link.txQueue.length < 16 <;> simp [Station.offerNotice, Station.txRoom, Config.txCapacity, room]

@[simp] theorem Station.offerNotice_lane (b : Body) : (s.offerNotice b).lane = s.lane := by
  rw [Station.offerNotice_eq]; split <;> rfl

@[simp] theorem Station.offerNotice_table (b : Body) : (s.offerNotice b).table = s.table := by
  rw [Station.offerNotice_eq]; split <;> rfl

theorem Station.offerNotice_txQueue (b : Body) :
    (s.offerNotice b).link.txQueue =
      if s.link.txQueue.length < 16 then s.link.txQueue ++ [⟨b, 0, .ready, false⟩] else s.link.txQueue := by
  rw [Station.offerNotice_eq]; split <;> rfl

/-- A flag raised is set, and every other flag as it was. -/
theorem Station.flag_raise (f g : Flag) : (s.raise f).flag g = (s.flag g || decide (g = f)) := by
  rw [Station.flag, Station.raise_records_flags, BitVec.getLsbD_or]
  congr 1
  cases f <;> cases g <;> decide

/-- Of the flags, the offer of a notice sets TX ABANDON at a full queue. -/
theorem Station.flag_offerNotice (b : Body) (f : Flag) :
    (s.offerNotice b).flag f = (s.flag f || decide (¬ s.link.txQueue.length < 16 ∧ f = .txAbandon)) := by
  rw [Station.offerNotice_eq]
  by_cases room : s.link.txQueue.length < 16
  · simp [room, Station.flag]
  · rw [if_neg room, Station.flag_raise]
    simp [room, Station.flag]

/-! ### One own commit (R111, R125) -/

@[simp] theorem Station.countCommit_lane (r : Bool) : (s.countCommit r).lane = s.lane := by cases r <;> rfl
@[simp] theorem Station.countCommit_table (r : Bool) : (s.countCommit r).table = s.table := by cases r <;> rfl
@[simp] theorem Station.countCommit_link (r : Bool) : (s.countCommit r).link = s.link := by cases r <;> rfl
@[simp] theorem Station.countCommit_records (r : Bool) : (s.countCommit r).records = s.records := by cases r <;> rfl

@[simp] theorem commitOrdinal_zero (committed : Nat) : commitOrdinal committed 0 = min 255 (committed + 1) := rfl

/-- The claims that a commit leaves are those of other items, and the heard ones. -/
theorem Entry.mem_afterCommit_pending {c a : Claim} {n : Nat} {e : Entry} :
    a ∈ (e.afterCommit c n).pending ↔ a ∈ e.pending ∧ ¬ (a.own = true ∧ a.ref = c.ref) := by
  cases own : a.own <;> simp [Entry.afterCommit, Entry.withoutOwn, own]

/-- A commit takes its own claim out of the list. -/
theorem Entry.length_afterCommit_pending_lt {c : Claim} (n : Nat) {e : Entry} (listed : c ∈ e.pending) (own : c.own = true) :
    (e.afterCommit c n).pending.length < e.pending.length := by
  rw [Entry.afterCommit, Entry.withoutOwn, length_inClaimOrder, List.length_filter_lt_length_iff_exists]
  exact ⟨c, listed, by simp [own]⟩

/-- A commit leaves C at least at the ordinal and never lower than it was. -/
theorem Entry.le_afterCommit_committed (c : Claim) (n : Nat) (e : Entry) :
    e.committed ≤ (e.afterCommit c n).committed ∧ n ≤ (e.afterCommit c n).committed :=
  ⟨Nat.le_max_left .., Nat.le_max_right ..⟩

theorem Entry.commitOwn_key (ref : ItemRef) (n : Nat) (t : Tally) (e : Entry) : (e.commitOwn ref n t).key = e.key := rfl

section commit

variable (k : Key) (c : Claim) (n : Nat) (isRanked ranked holdingsUnconfirmed : Bool)

/-- Of the lane, a commit writes its item and nothing else. -/
theorem Station.commitAs_lane :
    (s.commitAs k c n isRanked ranked holdingsUnconfirmed).lane =
      (s.modifyItem c.ref (Item.commit n ranked holdingsUnconfirmed)).lane := by
  simp [Station.commitAs, Station.modifyItem]

/-- The committed item reads as the commit leaves it. -/
theorem Station.findItem_commitAs :
    (s.commitAs k c n isRanked ranked holdingsUnconfirmed).findItem c.ref =
      (s.findItem c.ref).map (Item.commit n ranked holdingsUnconfirmed) := by
  rw [Station.findItem, Station.commitAs_lane]
  exact s.findItem_modifyItem c.ref _ fun _ own => own

/-- Any other item reads as before. -/
theorem Station.findItem_commitAs_other {ref : ItemRef} (other : ref ≠ c.ref) :
    (s.commitAs k c n isRanked ranked holdingsUnconfirmed).findItem ref = s.findItem ref := by
  rw [Station.findItem, Station.commitAs_lane]
  exact s.findItem_modifyItem_other c.ref ref _ (fun _ => rfl) other

/-- Of the table, a commit writes its entry and nothing else. -/
theorem Station.commitAs_table :
    (s.commitAs k c n isRanked ranked holdingsUnconfirmed).table =
      (s.writeEntry k (Entry.commitOwn c.ref n c.tally)).table := by
  simp [Station.commitAs]

variable {k} in
/-- The entry reads as the commit leaves it. -/
theorem Station.entry_commitAs {e : Entry} (found : s.entry k = some e) (distinct : (s.table.entries.map Entry.key).Nodup) :
    (s.commitAs k c n isRanked ranked holdingsUnconfirmed).entry k = some (e.afterCommit c n) := by
  rw [Station.entry, Station.commitAs_table, ← Entry.commitOwn_eq]
  exact s.entry_writeEntry (Entry.commitOwn_key _ _ _) found distinct

variable {k} in
/-- No commit makes two keys equal. -/
theorem Station.keys_commitAs_nodup {e : Entry} (found : s.entry k = some e)
    (distinct : (s.table.entries.map Entry.key).Nodup) :
    ((s.commitAs k c n isRanked ranked holdingsUnconfirmed).table.entries.map Entry.key).Nodup := by
  rw [Station.commitAs_table]
  exact s.keys_writeEntry_nodup (Entry.commitOwn_key _ _ _) found distinct

/-- Of the queue, a commit asks a place for its COMMIT at the back. -/
theorem Station.commitAs_txQueue :
    (s.commitAs k c n isRanked ranked holdingsUnconfirmed).link.txQueue =
      if s.link.txQueue.length < 16 then s.link.txQueue ++ [⟨.commit k c.tally c.ref n, 0, .ready, false⟩]
      else s.link.txQueue := by
  simp [Station.commitAs, Station.offerNotice_txQueue]

/-- Of the flags, a commit sets TX ABANDON at a full queue. -/
theorem Station.flag_commitAs (f : Flag) :
    (s.commitAs k c n isRanked ranked holdingsUnconfirmed).flag f =
      (s.flag f || decide (¬ s.link.txQueue.length < 16 ∧ f = .txAbandon)) := by
  rw [Station.commitAs, Station.flag_offerNotice]
  simp [Station.flag]

end commit

/-- An ordinary commit in full: the entry, the item, the count, and the COMMIT in the queue or lost. -/
theorem Station.commitOrdinary_eq {k : Key} {e : Entry} (c : Claim) (found : s.entry k = some e)
    (distinct : (s.table.entries.map Entry.key).Nodup) :
    let ordinal := min 255 (e.committed + 1)
    let y : Station := { s with
      table := { s.table with
        entries := s.table.entries.eraseP (fun a => a.key = k) ++ [e.afterCommit c ordinal] }
      lane := { s.lane with queue := s.lane.queue.map (fun a => if a.ref = c.ref then
        { a with corr := .committed, ordinal := some ordinal, unconfirmed := a.unconfirmed || a.unconfirmedMark } else a) }
      claims := { s.claims with counts := { s.claims.counts with commits := s.claims.counts.commits + 1 } } }
    s.commitOrdinary k e c =
      if s.link.txQueue.length < 16 then y.txPush (.commit k c.tally c.ref ordinal) else y.countAbandon.raise .txAbandon := by
  intro ordinal y
  have item : Item.commit ordinal false false = fun a =>
      { a with corr := .committed, ordinal := some ordinal, unconfirmed := a.unconfirmed || a.unconfirmedMark } := by
    funext a
    simp [Item.commit]
  have booked : ((s.writeEntry k (Entry.commitOwn c.ref ordinal c.tally)).modifyItem c.ref
      (Item.commit ordinal false false)).countCommit false = y := by
    rw [s.writeEntry_eq (Entry.commitOwn_key _ _ _) found distinct, Entry.commitOwn_eq, item]
    rfl
  rw [Station.commitOrdinary, commitOrdinal_zero, Station.commitAs, booked, Station.offerNotice_eq]

/-! ### The re-tests (R124) -/

theorem Station.isWaiting_iff (ref : ItemRef) : s.isWaiting ref = true ↔ ∃ i, s.findItem ref = some i ∧ i.corr = .waiting := by
  unfold Station.isWaiting
  cases s.findItem ref <;> simp

/-- The first that may commit is an own claim of the entry, its item WAITING. -/
theorem Station.firstCommittable_some {k : Key} {e : Entry} {c : Claim} (first : s.firstCommittable k = some (e, c)) :
    s.entry k = some e ∧ c ∈ e.pending ∧ c.own = true ∧ s.isWaiting c.ref = true := by
  unfold Station.firstCommittable at first
  split at first
  next => cases first
  next a found =>
    split at first
    next => cases first
    next b picked =>
      cases first
      have test := List.find?_some picked
      simp only [Bool.and_eq_true] at test
      exact ⟨found, List.mem_of_find?_eq_some picked, test.1.1, test.1.2⟩

/-- None is the first that may commit exactly where the re-tests have come to their end. -/
theorem Station.firstCommittable_eq_none_iff (k : Key) : s.firstCommittable k = none ↔ s.TestedOut k := by
  unfold Station.firstCommittable Station.TestedOut
  cases s.entry k with
  | none => simp
  | some e =>
    dsimp only
    have test : ∀ c, (c.own && s.isWaiting c.ref && e.mayCommit c) = true ↔
        c.own = true ∧ s.isWaiting c.ref = true ∧ e.LetsCommit c := fun c => by
      rw [Bool.and_eq_true, Bool.and_eq_true, e.mayCommit_iff, and_assoc]
    cases picked : e.pending.find? (fun c => c.own && s.isWaiting c.ref && e.mayCommit c) with
    | none =>
      have stuck := List.find?_eq_none.mp picked
      simp only [test] at stuck
      simpa using stuck
    | some c =>
      have first := List.find?_some picked
      obtain ⟨own, waits, may⟩ := (test c).mp first
      simpa using ⟨c, List.mem_of_find?_eq_some picked, own, waits, may⟩

/-- Where the re-tests have come to their end they change nothing. -/
theorem Station.retest_of_testedOut {k : Key} (done : s.TestedOut k) : s.retest k = s := by
  have none := (s.firstCommittable_eq_none_iff k).mpr done
  unfold Station.retest
  split
  next => rfl
  next e _ => cases e.pending.length <;> simp [Station.retestFuel, none]

/-- What every commit of a WAITING item's claim keeps, the re-tests keep. -/
theorem Station.retest_keeps {P : Station → Prop} {k : Key}
    (commit : ∀ (t : Station) (e : Entry) (c : Claim), P t → t.entry k = some e → c ∈ e.pending → c.own = true →
      t.isWaiting c.ref = true → P (t.commitOrdinary k e c)) (start : P s) : P (s.retest k) := by
  have fuelled : ∀ (n : Nat) (t : Station), P t → P (Station.retestFuel n k t) := by
    intro n
    induction n with
    | zero => exact fun t holds => holds
    | succ n ih =>
      intro t holds
      unfold Station.retestFuel
      split
      next => exact holds
      next e c first =>
        obtain ⟨found, listed, own, waits⟩ := t.firstCommittable_some first
        exact ih _ (commit t e c holds found listed own waits)
  unfold Station.retest
  split
  next => exact start
  next => exact fuelled _ _ start

/-- As many re-tests as the list has claims come to their end: each commit takes its claim out of the list. -/
theorem Station.retestFuel_testedOut (k : Key) (n : Nat) : ∀ s : Station, (s.table.entries.map Entry.key).Nodup →
    (∀ e, s.entry k = some e → e.pending.length ≤ n) → (Station.retestFuel n k s).TestedOut k := by
  induction n with
  | zero =>
    intro s _ short e found c listed
    have empty : e.pending = [] := List.length_eq_zero_iff.mp (Nat.le_zero.mp (short e found))
    simp [empty] at listed
  | succ n ih =>
    intro s distinct short
    unfold Station.retestFuel
    split
    next none => exact (s.firstCommittable_eq_none_iff k).mp none
    next e c first =>
      obtain ⟨found, listed, own, _⟩ := s.firstCommittable_some first
      refine ih _ (s.keys_commitAs_nodup _ _ _ _ _ found distinct) fun e' found' => ?_
      cases (s.entry_commitAs _ _ _ _ _ found distinct).symm.trans found'
      exact Nat.le_of_lt_succ ((Entry.length_afterCommit_pending_lt _ listed own).trans_le (short e found))

/-- The re-tests of an entry go on until none of its claims may commit. -/
theorem Station.retest_testedOut (k : Key) (distinct : (s.table.entries.map Entry.key).Nodup) : (s.retest k).TestedOut k := by
  unfold Station.retest
  split
  next absent => exact fun e found => absurd found (by simp [absent])
  next e found =>
    refine Station.retestFuel_testedOut k _ s distinct fun e' found' => ?_
    cases found.symm.trans found'
    exact Nat.le_refl _

/-! ### What the re-tests keep of a commit -/

/-- A commit of an item stands: the item as the commit left it, C at least at the ordinal, and no own claim of it in the entry. -/
structure Station.HoldsCommit (t : Station) (k : Key) (ref : ItemRef) (ordinal : Nat) (j : Item) : Prop where
  distinct : (t.table.entries.map Entry.key).Nodup
  item : t.findItem ref = some j
  final : j.corr = .committed
  entry : ∃ e, t.entry k = some e ∧ ordinal ≤ e.committed ∧ ∀ a ∈ e.pending, ¬ (a.own = true ∧ a.ref = ref)

/-- An own commit brings this about. -/
theorem Station.holdsCommit_commitAs {k : Key} {e : Entry} {i : Item} (c : Claim) (n : Nat)
    (isRanked ranked holdingsUnconfirmed : Bool) (item : s.findItem c.ref = some i) (found : s.entry k = some e)
    (distinct : (s.table.entries.map Entry.key).Nodup) :
    (s.commitAs k c n isRanked ranked holdingsUnconfirmed).HoldsCommit k c.ref n (i.commit n ranked holdingsUnconfirmed) where
  distinct := s.keys_commitAs_nodup _ _ _ _ _ found distinct
  item := by rw [Station.findItem_commitAs, item, Option.map_some]
  final := rfl
  entry := ⟨_, s.entry_commitAs _ _ _ _ _ found distinct, (e.le_afterCommit_committed c n).2,
    fun _ listed => (Entry.mem_afterCommit_pending.mp listed).2⟩

/-- A later commit of a WAITING item is another item's, and leaves it standing. -/
theorem Station.HoldsCommit.commitOrdinary {t : Station} {k : Key} {ref : ItemRef} {ordinal : Nat} {j : Item} {e : Entry}
    {c : Claim} (h : t.HoldsCommit k ref ordinal j) (found : t.entry k = some e) (waits : t.isWaiting c.ref = true) :
    (t.commitOrdinary k e c).HoldsCommit k ref ordinal j := by
  have other : ref ≠ c.ref := by
    rintro rfl
    obtain ⟨i, item, waiting⟩ := (t.isWaiting_iff c.ref).mp waits
    cases h.item.symm.trans item
    exact absurd (h.final.symm.trans waiting) (by decide)
  obtain ⟨e', found', reached, gone⟩ := h.entry
  cases found.symm.trans found'
  exact {
    distinct := t.keys_commitAs_nodup _ _ _ _ _ found h.distinct
    item := (t.findItem_commitAs_other _ _ _ _ _ _ other).trans h.item
    final := h.final
    entry := ⟨_, t.entry_commitAs _ _ _ _ _ found h.distinct, reached.trans (e.le_afterCommit_committed c _).1,
      fun a listed => gone a (Entry.mem_afterCommit_pending.mp listed).1⟩ }

/-- The re-tests leave a commit standing. -/
theorem Station.HoldsCommit.retest {t : Station} {k : Key} {ref : ItemRef} {ordinal : Nat} {j : Item}
    (h : t.HoldsCommit k ref ordinal j) : (t.retest k).HoldsCommit k ref ordinal j :=
  t.retest_keeps (P := fun u => u.HoldsCommit k ref ordinal j)
    (fun _ _ _ held found _ _ waits => held.commitOrdinary found waits) h

/-- The re-tests take no frame out of the queue. -/
theorem Station.mem_txQueue_retest (k : Key) {f : TxFrame} (queued : f ∈ s.link.txQueue) : f ∈ (s.retest k).link.txQueue := by
  refine s.retest_keeps (P := fun t => f ∈ t.link.txQueue) (fun t e c held _ _ _ _ => ?_) queued
  rw [Station.commitOrdinary, Station.commitAs_txQueue]
  split
  · exact List.mem_append_left _ held
  · exact held

/-- A full queue stays as it is through the re-tests. -/
theorem Station.txQueue_retest_of_full (k : Key) (full : 16 ≤ s.link.txQueue.length) :
    (s.retest k).link.txQueue = s.link.txQueue := by
  refine s.retest_keeps (P := fun t => t.link.txQueue = s.link.txQueue) (fun t e c held _ _ _ _ => ?_) rfl
  rw [Station.commitOrdinary, Station.commitAs_txQueue, held, if_neg (Nat.not_lt.mpr full)]

/-- A flag set stays set through the re-tests. -/
theorem Station.flag_retest (k : Key) {f : Flag} (set : s.flag f = true) : (s.retest k).flag f = true := by
  refine s.retest_keeps (P := fun t => t.flag f = true) (fun t e c held _ _ _ _ => ?_) set
  rw [Station.commitOrdinary, Station.flag_commitAs, held, Bool.true_or]

/-- With no other own claim of a WAITING item, a commit is the end of the re-tests. -/
theorem Station.testedOut_commitAs {k : Key} {e : Entry} (c : Claim) (n : Nat) (isRanked ranked holdingsUnconfirmed : Bool)
    (found : s.entry k = some e) (distinct : (s.table.entries.map Entry.key).Nodup) (alone : s.NoOtherWaits e c.ref) :
    (s.commitAs k c n isRanked ranked holdingsUnconfirmed).TestedOut k := by
  intro e' found' a listed own waits
  cases (s.entry_commitAs _ _ _ _ _ found distinct).symm.trans found'
  obtain ⟨before, apart⟩ := Entry.mem_afterCommit_pending.mp listed
  have other : a.ref ≠ c.ref := fun same => apart ⟨own, same⟩
  have still : s.isWaiting a.ref = true := by
    rwa [Station.isWaiting_iff, s.findItem_commitAs_other _ _ _ _ _ _ other, ← Station.isWaiting_iff] at waits
  exact absurd (still.symm.trans (alone a before own other)) (by decide)

/-! ### SETTLE_EXPIRY (R123) -/

section deadline

variable {ref : ItemRef} {i : Item} {k : Key} {e : Entry} {c : Claim}

/-- The deadline of an item whose claim may commit: the commit, and the re-tests it sets off. -/
theorem Station.settleExpires_of_letsCommit (item : s.findItem ref = some i) (due : i.corr = .settling s.clock)
    (key : i.key = some k) (found : s.entry k = some e) (claim : e.ownClaim ref = some c) (may : e.LetsCommit c) :
    s.settleExpires ref = (s.commitOrdinary k e c).retest k := by
  simp [Station.settleExpires, item, due, key, found, claim, e.mayCommit_iff, may]

/-- The deadline of an item whose claim may not: the item WAITING. -/
theorem Station.settleExpires_of_not_letsCommit (item : s.findItem ref = some i) (due : i.corr = .settling s.clock)
    (key : i.key = some k) (found : s.entry k = some e) (claim : e.ownClaim ref = some c) (mayNot : ¬ e.LetsCommit c) :
    s.settleExpires ref = s.modifyItem ref (fun x => { x with corr := .waiting }) := by
  simp [Station.settleExpires, item, due, key, found, claim, e.mayCommit_iff, mayNot]

end deadline

/-- Settles O43: the deadline as a commit with its re-tests; the commit stands through them, they come to their end, and they are
no step at all where no other item waits. -/
theorem settleExpiry : Obligations.SettleExpiry := by
  unfold Obligations.SettleExpiry
  intro x q ref i k e c item due key found claim distinct ordinal
  have hc : c.ref = ref := by
    have own := List.find?_some claim
    simp only [Bool.and_eq_true, decide_eq_true_eq] at own
    exact own.2
  subst hc
  rw [exec_settleExpiry]
  refine ⟨fun may => ?commits, fun may alone => ?exactly, fun mayNot => ?waits⟩
  case commits =>
    rw [x.settleExpires_of_letsCommit item due key found claim may]
    have held := (x.holdsCommit_commitAs c ordinal false false false item found distinct).retest
    obtain ⟨e', found', reached, gone⟩ := held.entry
    refine ⟨_, _, e', rfl, held.item, rfl, rfl, Bool.or_false _, rfl, found', reached, gone,
      Station.retest_testedOut _ k (x.keys_commitAs_nodup _ _ _ _ _ found distinct), fun room => ?_, fun full => ?_⟩
    · refine Station.mem_txQueue_retest _ k ?_
      rw [Station.commitOrdinary, Station.commitAs_txQueue, if_pos room]
      exact List.mem_append_right _ (List.mem_singleton_self _)
    · have kept : (x.commitOrdinary k e c).link.txQueue = x.link.txQueue := by
        rw [Station.commitOrdinary, Station.commitAs_txQueue, if_neg (Nat.not_lt.mpr full)]
      refine ⟨Station.flag_retest _ k ?_, (Station.txQueue_retest_of_full _ k (by rwa [kept])).trans kept⟩
      rw [Station.commitOrdinary, Station.flag_commitAs]
      simp [full]
  case exactly =>
    have done : (x.commitOrdinary k e c).TestedOut k := x.testedOut_commitAs c _ _ _ _ found distinct alone
    rw [x.settleExpires_of_letsCommit item due key found claim may, Station.retest_of_testedOut _ done,
      x.commitOrdinary_eq c found distinct]
    rfl
  case waits =>
    rw [x.settleExpires_of_not_letsCommit item due key found claim mayNot]
    rfl

end Sys2Proof.Machine
end

section
/-! SUPPORT. Selection (R143): the record fence and eligibility in the words of the frames, the oldest eligible frame of one
class, the selected frame as the oldest of the highest class that holds one, and the statement these settle. -/

namespace Sys2Proof.Machine

/-! ### The record fence and eligibility -/

theorem Body.isNoticeOf_iff (ref : ItemRef) (b : Body) :
    b.isNoticeOf ref = true ↔ (∃ k t o, b = .commit k t ref o) ∨ (∃ k t, b = .withdraw k t ref) := by
  cases b <;> simp [Body.isNoticeOf]

/-- The records the fence holds back, and the item ref it goes by. -/
theorem fenced_iff_isNoticeOf (queue : List TxFrame) (b : Body) :
    fenced queue b = true ↔ ∃ g ∈ queue, ∃ ref, g.body.isNoticeOf ref = true ∧
      ((∃ d, b = .deposit d ∧ d.ref = ref) ∨ (∃ c, b = .correction c ∧ c.ref = ref)) := by
  cases b <;> simp [fenced]

theorem eligible_iff (queue : List TxFrame) (f : TxFrame) :
    eligible queue f = true ↔ f.standing = .ready ∧ ¬ ∃ g ∈ queue, ∃ ref,
      ((∃ k t o, g.body = .commit k t ref o) ∨ (∃ k t, g.body = .withdraw k t ref)) ∧
      ((∃ d, f.body = .deposit d ∧ d.ref = ref) ∨ (∃ c, f.body = .correction c ∧ c.ref = ref)) := by
  simp only [eligible, Bool.and_eq_true, decide_eq_true_eq, Bool.not_eq_true', ← Bool.not_eq_true,
    fenced_iff_isNoticeOf, Body.isNoticeOf_iff]

/-! ### The oldest eligible frame of one class -/

theorem oldestEligible_eq_none_iff (queue : List TxFrame) (c : FrameClass) :
    oldestEligible queue c = none ↔ ∀ f ∈ queue, eligible queue f = true → f.body.cls ≠ c := by
  simp only [oldestEligible, List.findIdx?_eq_none_iff, ← Bool.not_eq_true, Bool.and_eq_true, decide_eq_true_eq, not_and', ne_eq]

/-- The frame at the place found is eligible and of the class, and no frame before it is both. -/
theorem oldestEligible_eq_some {queue : List TxFrame} {c : FrameClass} {n : Nat} (found : oldestEligible queue c = some n) :
    ∃ f, queue[n]? = some f ∧ f.body.cls = c ∧ eligible queue f = true ∧
      ∀ (m : Nat) (g : TxFrame), queue[m]? = some g → g.body.cls = c → eligible queue g = true → n ≤ m := by
  obtain ⟨inside, chosen, before⟩ := List.findIdx?_eq_some_iff_getElem.mp found
  simp only [Bool.and_eq_true, decide_eq_true_eq] at chosen
  obtain ⟨ofClass, free⟩ := chosen
  refine ⟨queue[n], List.getElem?_eq_getElem inside, ofClass, free, fun m g at_m ofClass' free' => ?_⟩
  by_contra earlier
  obtain ⟨_, rfl⟩ := List.getElem?_eq_some_iff.mp at_m
  exact before m (Nat.lt_of_not_le earlier) (by simp [ofClass', free'])

/-! ### The selected frame -/

/-- The place of a class in the order of selection, the highest class first (R141). -/
def FrameClass.rank : FrameClass → Nat
  | .claim => 0
  | .notice => 1
  | .record => 2

theorem FrameClass.rank_injective : Function.Injective FrameClass.rank := by
  intro c c'
  cases c <;> cases c' <;> simp [FrameClass.rank]

/-- A frame is selected from the highest class that holds an eligible one. -/
theorem selectFrame_eq_some {queue : List TxFrame} {n : Nat} (selected : selectFrame queue = some n) :
    ∃ c : FrameClass, oldestEligible queue c = some n ∧
      ∀ higher : FrameClass, higher.rank < c.rank → oldestEligible queue higher = none := by
  unfold selectFrame at selected
  split at selected
  next claim => exact ⟨.claim, claim.trans selected, fun _ lt => absurd lt (Nat.not_lt_zero _)⟩
  next noClaim =>
    split at selected
    next notice =>
      refine ⟨.notice, notice.trans selected, fun higher lt => ?_⟩
      cases higher with
      | claim => exact noClaim
      | notice | record => simp [FrameClass.rank] at lt
    next noNotice =>
      refine ⟨.record, selected, fun higher lt => ?_⟩
      cases higher with
      | claim => exact noClaim
      | notice => exact noNotice
      | record => simp [FrameClass.rank] at lt

/-- No frame is selected only where no class holds an eligible one. -/
theorem oldestEligible_of_selectFrame_none {queue : List TxFrame} (idle : selectFrame queue = none) (c : FrameClass) :
    oldestEligible queue c = none := by
  unfold selectFrame at idle
  split at idle
  next => cases idle
  next noClaim =>
    split at idle
    next => cases idle
    next noNotice =>
      cases c with
      | claim => exact noClaim
      | notice => exact noNotice
      | record => exact idle

theorem not_eligible_of_selectFrame_none {queue : List TxFrame} (idle : selectFrame queue = none) (f : TxFrame)
    (held : f ∈ queue) : ¬ eligible queue f = true := fun free =>
  (oldestEligible_eq_none_iff queue f.body.cls).mp (oldestEligible_of_selectFrame_none idle _) f held free rfl

/-- The frame selected stands before every eligible frame: by its class, or in its class by its age. -/
theorem eligible_first_of_selectFrame {queue : List TxFrame} {n : Nat} (selected : selectFrame queue = some n) :
    ∃ f, queue[n]? = some f ∧ eligible queue f = true ∧
      ∀ (m : Nat) (g : TxFrame), queue[m]? = some g → eligible queue g = true →
        f.body.cls.rank < g.body.cls.rank ∨ f.body.cls.rank = g.body.cls.rank ∧ n ≤ m := by
  obtain ⟨c, found, noHigher⟩ := selectFrame_eq_some selected
  obtain ⟨f, at_n, rfl, free, oldest⟩ := oldestEligible_eq_some found
  refine ⟨f, at_n, free, fun m g at_m free' => ?_⟩
  rcases Nat.lt_trichotomy f.body.cls.rank g.body.cls.rank with lower | same | higher
  · exact .inl lower
  · exact .inr ⟨same, oldest m g at_m (FrameClass.rank_injective same).symm free'⟩
  · have none_there := (oldestEligible_eq_none_iff queue _).mp (noHigher _ higher)
    exact absurd rfl (none_there g (List.mem_of_getElem? at_m) free')

/-- Settles O45: eligibility in the model is the statement's READY and past the fence, and the classes are searched from the
highest down. -/
theorem selection : Obligations.Selection := by
  unfold Obligations.Selection
  intro queue rank fence free
  have free_iff : ∀ f, eligible queue f = true ↔ free f := eligible_iff queue
  have rank_eq : FrameClass.rank = rank := rfl
  simp only [← free_iff, ← rank_eq]
  exact ⟨not_eligible_of_selectFrame_none, fun _ => eligible_first_of_selectFrame⟩

end Sys2Proof.Machine
end

section
/-! SUPPORT. Configuration load (R178 to R182): a byte of the block and a clamped field inside their limits, the three adjustments
between fields as one update, what a block with a right signature leaves of the station, and the statement these settle. -/

namespace Sys2Proof.Machine

/-! ### The bytes of the block (R178) -/

theorem msbValue_lt_two_pow (bits : List Bool) : msbValue bits < 2 ^ bits.length := by
  induction bits using List.reverseRecOn with
  | nil => decide
  | append_singleton bits b ih =>
    have last : msbValue (bits ++ [b]) = 2 * msbValue bits + b.toNat := by simp [msbValue]
    have bit := b.toNat_lt
    rw [last, List.length_append, List.length_singleton, pow_succ]
    omega

theorem blockByte_le (b : ConfigBlock) (i : Nat) : blockByte b i ≤ 255 :=
  Nat.le_of_lt_succ <| (msbValue_lt_two_pow _).trans_le <|
    Nat.pow_le_pow_right (by decide) (List.length_take_le 8 _)

/-! ### The clamps (R180) -/

theorem clampTo_within {lo hi : Nat} (range : lo ≤ hi) (v : Nat) : lo ≤ clampTo lo hi v ∧ clampTo lo hi v ≤ hi := by
  unfold clampTo
  split_ifs <;> omega

theorem clampTo_le {lo hi : Nat} (range : lo ≤ hi) (v : Nat) : clampTo lo hi v ≤ hi := (clampTo_within range v).2

theorem clampedSettings_distance_le (b : ConfigBlock) (h : Head) : (clampedSettings b).distance.get h ≤ 8191 := by
  cases h <;> exact clampTo_le (Nat.zero_le _) _

theorem clampedSettings_margin_le (b : ConfigBlock) (h : Head) : (clampedSettings b).margin.get h ≤ 255 := by
  cases h <;> exact blockByte_le b _

/-! ### The farthest window (R181) -/

namespace Settings

variable (c : Settings)

theorem closeDistance_le_farthestWindow (h : Head) : c.closeDistance h ≤ c.farthestWindow := by
  cases h <;> simp [closeDistance, farthestWindow, PerHead.get]

/-- The farthest window is that of one of the heads. -/
theorem farthestWindow_le {n : Nat} (ends : ∀ h, c.closeDistance h ≤ n) : c.farthestWindow ≤ n :=
  max_le (max_le (ends .reader0) (ends .reader1)) (max_le (ends .scale) (ends .gauge))

/-! ### The three adjustments (R181) -/

/-- The adjustments touch the maximum length, D_dec and D_div alone. -/
theorem adjust_eq : c.adjust = { c with
    maxLength := if c.maxLength < c.minLength then c.minLength else c.maxLength
    dDec := if c.dDec ≤ c.farthestWindow then c.farthestWindow + 1 else c.dDec
    dDiv := if c.dDiv ≤ (if c.dDec ≤ c.farthestWindow then c.farthestWindow + 1 else c.dDec) then
      (if c.dDec ≤ c.farthestWindow then c.farthestWindow + 1 else c.dDec) + 1 else c.dDiv } := by
  unfold adjust
  extract_lets lengthened decided
  have first : lengthened =
      { c with maxLength := if c.maxLength < c.minLength then c.minLength else c.maxLength } := by
    dsimp only [lengthened]
    split <;> rfl
  have second : decided = { lengthened with
      dDec := if lengthened.dDec ≤ lengthened.farthestWindow then lengthened.farthestWindow + 1 else lengthened.dDec } := by
    dsimp only [decided]
    split <;> rfl
  have third : (if decided.dDiv ≤ decided.dDec then { decided with dDiv := decided.dDec + 1 } else decided) =
      { decided with dDiv := if decided.dDiv ≤ decided.dDec then decided.dDec + 1 else decided.dDiv } := by
    split <;> rfl
  rw [third, second, first]
  rfl

theorem adjust_maxLength : c.adjust.maxLength = max c.maxLength c.minLength := by
  rw [adjust_eq]
  dsimp only
  split_ifs <;> omega

theorem adjust_dDec : c.adjust.dDec = max c.dDec (c.farthestWindow + 1) := by
  rw [adjust_eq]
  dsimp only
  split_ifs <;> omega

theorem adjust_dDiv : c.adjust.dDiv = max c.dDiv (c.adjust.dDec + 1) := by
  rw [adjust_eq]
  dsimp only
  split_ifs <;> omega

end Settings

/-! ### The limits (section 10.3) -/

theorem clampedSettings_farthestWindow_le (b : ConfigBlock) : (clampedSettings b).farthestWindow ≤ 8446 :=
  Settings.farthestWindow_le _ fun h =>
    Nat.add_le_add (clampedSettings_distance_le b h) (clampedSettings_margin_le b h)

/-- D_dec is at most 8191 as clamped, and at most one more than the farthest window as adjusted. -/
theorem configuredSettings_dDec_le (b : ConfigBlock) : (configuredSettings b).dDec ≤ 8447 := by
  have clamped : (clampedSettings b).dDec ≤ 8191 := clampTo_le (by decide) _
  have farthest := clampedSettings_farthestWindow_le b
  rw [configuredSettings, Settings.adjust_dDec]
  omega

theorem configuredSettings_dDiv_le (b : ConfigBlock) : (configuredSettings b).dDiv ≤ 8448 := by
  have clamped : (clampedSettings b).dDiv ≤ 8191 := clampTo_le (by decide) _
  have decision : (clampedSettings b).adjust.dDec ≤ 8447 := configuredSettings_dDec_le b
  rw [configuredSettings, Settings.adjust_dDiv]
  omega

/-- D_dec lies beyond every window's end, and D_div beyond D_dec. -/
theorem Settings.adjust_distances_ordered (c : Settings) :
    (∀ h, c.closeDistance h < c.adjust.dDec) ∧ c.adjust.dDec < c.adjust.dDiv := by
  refine ⟨fun h => ?_, ?_⟩
  · have farthest := c.closeDistance_le_farthestWindow h
    rw [adjust_dDec]
    omega
  · rw [adjust_dDiv]
    omega

/-- The maximum length is at most 2000, as clamped or raised to a minimum length of at most 400. -/
theorem configuredSettings_maxLength_within (b : ConfigBlock) :
    (50 ≤ (configuredSettings b).maxLength ∧ (configuredSettings b).maxLength ≤ 2000) ∧
      (clampedSettings b).minLength ≤ (configuredSettings b).maxLength := by
  have shortest : (clampedSettings b).minLength ≤ 400 := clampTo_le (by decide) _
  have longest : 50 ≤ (clampedSettings b).maxLength ∧ (clampedSettings b).maxLength ≤ 2000 :=
    clampTo_within (by decide) _
  rw [configuredSettings, Settings.adjust_maxLength]
  omega

/-- The three adjusted fields by the lemmas above, every other field as its clamp left it. -/
theorem configuredSettings_inLimits (b : ConfigBlock) : (configuredSettings b).InLimits := by
  obtain ⟨windowsEnd, divertAfter⟩ := (clampedSettings b).adjust_distances_ordered
  obtain ⟨maxLength, lengths⟩ := configuredSettings_maxLength_within b
  have decision := configuredSettings_dDec_le b
  have divert := configuredSettings_dDiv_le b
  rw [configuredSettings] at *
  rw [Settings.adjust_eq] at *
  exact
    { distance := clampedSettings_distance_le b
      margin := clampedSettings_margin_le b
      windowsEnd, decision, divertAfter, divert, maxLength, lengths
      minLength := clampTo_within (by decide) _
      itemHold := clampTo_within (by decide) _
      txHold := clampTo_within (by decide) _
      settleCount := clampTo_within (by decide) _
      settleBand := clampTo_within (by decide) _
      tareLimit := clampTo_within (by decide) _
      scaleFactor := clampTo_within (by decide) _
      weightTolerance := clampTo_within (by decide) _
      thicknessTolerance := clampTo_within (by decide) _
      scanDepth := clampTo_within (by decide) _
      claimLifetime := clampTo_within (by decide) _
      settleTime := clampTo_within (by decide) _
      retryLimit := clampTo_within (by decide) _
      holdBudget := clampTo_within (by decide) _
      joinQuiet := clampTo_within (by decide) _ }

theorem Settings.defaults_inLimits : Settings.defaults.InLimits := by
  constructor
  case distance | margin | windowsEnd => exact fun h => by cases h <;> decide
  all_goals decide

/-! ### CONFIG_READ_COMPLETE (R179 to R182) -/

theorem exec_configReadComplete (block : ConfigBlock) (x : Station) (q : List Instr) :
    exec (.configReadComplete block) ⟨x, q⟩ = .next ⟨x.configRead block, q⟩ := rfl

theorem signatureRight_iff (block : ConfigBlock) :
    signatureRight block = true ↔ blockByte block 0 = 0x22 ∧ blockByte block 1 = 0x60 := by
  simp [signatureRight]

/-- The station with a block's values handed out, before it leaves CONFIG LOAD (R180 to R182). -/
def Station.configured (block : ConfigBlock) (s : Station) : Station :=
  if configAdjusted block then (s.takeSettings (configuredSettings block)).raise .configAdjusted
  else s.takeSettings (configuredSettings block)

variable (s : Station)

theorem Station.configured_settings (block : ConfigBlock) :
    (s.configured block).startup.settings = some (configuredSettings block) := by
  unfold Station.configured
  split <;> rfl

theorem Station.configured_flag {block : ConfigBlock} (adjusted : configAdjusted block = true) :
    (s.configured block).flag .configAdjusted = true := by
  rw [Station.configured, if_pos adjusted, Station.flag_raise]
  simp

/-- A read with a right signature: the values handed out, then LISTEN-ONLY or JOINING by the id. -/
theorem Station.configRead_of_signatureRight {block : ConfigBlock} (loading : s.startup.state = .configLoad)
    (right : signatureRight block = true) :
    s.configRead block = (s.configured block).enterListenOnly ∨
      ∃ id, s.configRead block = (s.configured block).enterJoining id := by
  cases named : configuredId block with
  | none => exact .inl (by simp [Station.configRead, Station.configured, loading, right, named])
  | some id => exact .inr ⟨id, by simp [Station.configRead, Station.configured, loading, right, named]⟩

/-- Neither LISTEN-ONLY nor JOINING touches what a read with a right signature has handed out. -/
theorem Station.configRead_settings_and_flags {block : ConfigBlock} (loading : s.startup.state = .configLoad)
    (right : signatureRight block = true) :
    (s.configRead block).startup.settings = (s.configured block).startup.settings ∧
      (s.configRead block).records.flags = (s.configured block).records.flags := by
  rcases s.configRead_of_signatureRight loading right with silent | ⟨id, joins⟩
  · rw [silent]
    exact ⟨rfl, rfl⟩
  · rw [joins]
    exact ⟨rfl, rfl⟩

/-- Settles O8: the adjustments as one update, the values handed out at the end of the read, and each field's limits. -/
theorem adjustmentsBetweenFields : Obligations.AdjustmentsBetweenFields := by
  unfold Obligations.AdjustmentsBetweenFields
  refine ⟨Settings.adjust_eq, fun x q b loading first second => ?_, configuredSettings_inLimits, Settings.defaults_inLimits⟩
  have right := (signatureRight_iff b).mpr ⟨first, second⟩
  obtain ⟨settings, flags⟩ := x.configRead_settings_and_flags loading right
  refine ⟨_, exec_configReadComplete b x q, settings.trans (x.configured_settings b), fun changed => ?_⟩
  have adjusted : configAdjusted b = true := by simp [configAdjusted, configuredSettings, changed]
  rw [Station.flag, flags]
  exact x.configured_flag adjusted

end Sys2Proof.Machine
end

section
/-! SUPPORT. The station state (R177): the commands that may touch it, the move each of them makes and the state it makes it
in, and the statement these settle. -/

namespace Sys2Proof.Machine

variable (s : Station)

/-- The commands that may touch the station state. -/
theorem stationState_mem_touches {c : Instr} : .stationState ∈ touches c ↔
    c = .powerOn ∨ (∃ b, c = .configReadComplete b) ∨ c = .attemptComplete ∨ ∃ bits, c = .frameReceived bits := by
  cases c <;> simp [touches]

/-! ### Power-on (R177) -/

theorem Station.powersOn_faultIndicator : s.powersOn.faultIndicator = false := by
  have cleared : s.powersOn.records.flags = 0#13 := rfl
  simp [Station.faultIndicator, Station.flag, cleared]

/-! ### The end of the configuration read (R182) -/

theorem Station.configRead_of_not_configLoad (block : ConfigBlock) (configured : s.startup.state ≠ .configLoad) :
    s.configRead block = s := if_pos configured

theorem Station.configRead_of_signatureWrong {block : ConfigBlock} (loading : s.startup.state = .configLoad)
    (wrong : signatureRight block = false) :
    s.configRead block = (s.takeSettings Settings.defaults).enterListenOnly := by
  simp [Station.configRead, loading, wrong]

theorem Station.configRead_state (block : ConfigBlock) (loading : s.startup.state = .configLoad) :
    (s.configRead block).startup.state = .joining ∨ (s.configRead block).startup.state = .listenOnly := by
  cases signature : signatureRight block with
  | false =>
    rw [s.configRead_of_signatureWrong loading signature]
    exact .inr rfl
  | true =>
    rcases s.configRead_of_signatureRight loading signature with silent | ⟨id, joins⟩
    · rw [silent]
      exact .inr rfl
    · rw [joins]
      exact .inl rfl

/-! ### The completion of the ANNOUNCE (R183) -/

theorem Station.announced_state_moves (moved : s.announced.startup.state ≠ s.startup.state) :
    s.startup.state = .joining ∧ s.announced.startup.state = .active := by
  by_cases joining : s.startup.state = .joining
  · exact ⟨joining, if_pos joining⟩
  · exact absurd (if_neg joining) moved

/-- Of all completed frames the ANNOUNCE alone moves the state. -/
theorem Station.tellCompleted_state_moves (f : TxFrame) (moved : (s.tellCompleted f).startup.state ≠ s.startup.state) :
    (∃ tally version, f.body = .announce tally version) ∧ s.startup.state = .joining ∧
      (s.tellCompleted f).startup.state = .active := by
  unfold Station.tellCompleted at moved ⊢
  cases body : f.body with
  | claim k t ref _ _ =>
    rw [body] at moved
    dsimp only at moved
    split at moved
    next => exact absurd (s.offerWithdraw_changes k t ref .stationState (by decide)) moved
    next => exact absurd (s.claimSent_changes k ref .stationState (by decide)) moved
  | announce tally version =>
    rw [body] at moved
    exact ⟨⟨tally, version, rfl⟩, s.announced_state_moves moved⟩
  | commit | withdraw | deposit | correction | summary | status =>
    rw [body] at moved
    exact absurd rfl moved

theorem Station.countChain_onLine : s.countChain.onLine = s.onLine := by
  rw [Station.onLine, show s.countChain.link.txQueue = s.link.txQueue from s.countChain_changes .txQueue (by decide)]
  rfl

/-- ATTEMPT_COMPLETE tells a frame's producer only of the frame that was ON LINE, in a station whose state has not moved. -/
theorem Station.attemptCompletes_cases :
    s.attemptCompletes.startup.state = s.startup.state ∨
      ∃ (f : TxFrame) (t : Station), s.onLine = some f ∧ t.startup.state = s.startup.state ∧
        s.attemptCompletes = t.tellCompleted f := by
  unfold Station.attemptCompletes
  split
  next =>
    dsimp only
    split
    next => exact .inl (Station.countChain_changes _ .stationState (by decide))
    next f found =>
      rw [Station.countChain_onLine] at found
      refine .inr ⟨f, _, found, ?_, rfl⟩
      exact (Station.departOnLine_changes _ .stationState (by decide)).trans
        (Station.countChain_changes _ .stationState (by decide))
  all_goals exact .inl rfl

theorem Station.attemptCompletes_state_moves (moved : s.attemptCompletes.startup.state ≠ s.startup.state) :
    s.startup.state = .joining ∧ s.attemptCompletes.startup.state = .active ∧
      ∃ f tally version, s.onLine = some f ∧ f.body = .announce tally version := by
  rcases s.attemptCompletes_cases with same | ⟨f, t, found, kept, told⟩
  · exact absurd same moved
  · rw [told, ← kept] at moved
    obtain ⟨⟨tally, version, body⟩, joining, active⟩ := t.tellCompleted_state_moves f moved
    exact ⟨kept ▸ joining, told ▸ active, f, tally, version, found, body⟩

/-! ### A frame with the station's own id (R154, R185) -/

theorem Station.duplicateId_state_moves (moved : s.duplicateId.startup.state ≠ s.startup.state) :
    s.startup.state = .joining ∨ s.startup.state = .active := by
  by_contra other
  exact moved (congrArg (fun t : Station => t.startup.state) (if_neg other))

theorem Station.ownIdReport_state_moves (f : RxFrame) (moved : (s.ownIdReport f).startup.state ≠ s.startup.state) :
    s.startup.stationId = some f.source.toNat ∧ (s.startup.state = .joining ∨ s.startup.state = .active) ∧
      (s.ownIdReport f).startup.state = .listenOnly := by
  have silent : (s.ownIdReport f).startup.state = .listenOnly :=
    (s.ownIdReport_cases f).resolve_left fun same => moved (by rw [same])
  by_cases own : s.startup.stationId = some f.source.toNat
  · rw [Station.ownIdReport, if_pos own] at moved
    exact ⟨own, s.duplicateId_state_moves moved, silent⟩
  · exact absurd (by rw [Station.ownIdReport, if_neg own]) moved

/-- A whole frame moves the state only by the report of its source: its place in the receive queue has no part in it. -/
theorem Station.frameTaken_state_moves (f : RxFrame) (moved : (s.frameTaken f).startup.state ≠ s.startup.state) :
    goodFrame f = true ∧ s.startup.stationId = some f.source.toNat ∧
      (s.startup.state = .joining ∨ s.startup.state = .active) ∧ (s.frameTaken f).startup.state = .listenOnly := by
  unfold Station.frameTaken at moved ⊢
  split at moved
  next good =>
    rw [if_pos good]
    have queued (t : Station) : (t.enqueueReceived f).startup.state = t.startup.state :=
      t.enqueueReceived_changes f .stationState (by decide)
    rw [queued] at moved ⊢
    exact ⟨good, Station.ownIdReport_state_moves { s with link := { s.link with reception := .seeking } } f moved⟩
  next => exact absurd rfl moved

theorem Station.frameEnds_state_moves (bits : List Bool) (moved : (s.frameEnds bits).startup.state ≠ s.startup.state) :
    ∃ f, receive bits = .frame f ∧ goodFrame f = true ∧ s.startup.stationId = some f.source.toNat ∧
      (s.startup.state = .joining ∨ s.startup.state = .active) ∧ (s.frameEnds bits).startup.state = .listenOnly := by
  by_cases taking : s.takingFrame = true
  · unfold Station.frameEnds at moved ⊢
    rw [if_pos taking] at moved ⊢
    cases heard : receive bits with
    | frame f =>
      rw [heard] at moved
      exact ⟨f, rfl, s.frameTaken_state_moves f moved⟩
    | lineError | noLead | unfinished =>
      rw [heard] at moved
      exact absurd rfl moved
  · exact absurd (congrArg (fun t : Station => t.startup.state) (if_neg taking)) moved

/-! ### The moves (R177) -/

theorem exec_attemptComplete (x : Station) (q : List Instr) :
    exec .attemptComplete ⟨x, q⟩ = .next ⟨x.attemptCompletes, q⟩ := rfl

/-- Settles O11: of the commands that may touch the state, what each one's move asks of the state before it. -/
theorem stationStateMoves : Obligations.StationStateMoves := by
  unfold Obligations.StationStateMoves
  refine ⟨fun s => ⟨_, rfl, rfl, rfl, rfl, rfl, rfl, s.station.powersOn_faultIndicator⟩, fun _ _ => rfl,
    fun c s t run moved => ?_⟩
  have touched : .stationState ∈ touches c := by
    by_contra untouched
    exact moved (exec_changes run .stationState untouched)
  obtain ⟨x, q⟩ := s
  rcases stationState_mem_touches.mp touched with rfl | ⟨b, rfl⟩ | rfl | ⟨bits, rfl⟩
  · cases run
    exact .inl ⟨rfl, rfl⟩
  · rw [exec_configReadComplete] at run
    cases run
    have loading : x.startup.state = .configLoad := by
      by_contra configured
      exact moved (congrArg (fun y : Station => y.startup.state) (x.configRead_of_not_configLoad b configured))
    exact .inr (.inl ⟨⟨b, rfl⟩, loading, x.configRead_state b loading⟩)
  · rw [exec_attemptComplete] at run
    cases run
    exact .inr (.inr (.inl ⟨rfl, x.attemptCompletes_state_moves moved⟩))
  · rw [exec_frameReceived] at run
    cases run
    obtain ⟨f, heard, event⟩ := x.frameEnds_state_moves bits moved
    exact .inr (.inr (.inr ⟨bits, f, rfl, heard, event⟩))

end Sys2Proof.Machine
end

section
/-! SUPPORT. The machine, power-on and the frames (R177): what a step and a command answer, the power-on state block by block, and the
statements these settle. -/

namespace Sys2Proof.Machine

/-! ### Steps and frames -/

/-- Settles O1: the queue's front is taken by the definition of a step. -/
theorem stepRunsFrontCommand : Obligations.StepRunsFrontCommand := by
  unfold Obligations.StepRunsFrontCommand
  exact fun c s => step_front c s.station s.pending

/-- Settles O2: an empty queue idles by the definition of a step; every command's frame says that it answers a next state. -/
theorem queueAndCompletionChoices : Obligations.QueueAndCompletionChoices := by
  unfold Obligations.QueueAndCompletionChoices
  refine ⟨fun _ => rfl, fun c x q => ?_⟩
  obtain ⟨y, run, _⟩ := exec_frame c x q
  exact ⟨y, run⟩

/-- Settles O3: the frame of every command, read for three families. -/
theorem laneSensingAndCorrelationFrame : Obligations.LaneSensingAndCorrelationFrame := by
  unfold Obligations.LaneSensingAndCorrelationFrame
  exact fun _ _ _ _ run => exec_changes run

/-- Settles O4: the frame of every command, read for the other three families. -/
theorem startupAndLinkFrame : Obligations.StartupAndLinkFrame := by
  unfold Obligations.StartupAndLinkFrame
  exact fun _ _ _ _ run => exec_changes run

/-- A step either idles with the station as it is, or runs a command on it. -/
theorem step_cases {s t : State} (run : step s = .next t) :
    t = s ∨ ∃ c q, s.pending = c :: q ∧ exec c ⟨s.station, q⟩ = .next t := by
  obtain ⟨x, q⟩ := s
  cases q with
  | nil =>
    cases run
    exact .inl rfl
  | cons c q => exact .inr ⟨c, q, rfl, run⟩

/-- What every command keeps, a step keeps. -/
theorem step_keeps {P : Station → Prop}
    (keeps : ∀ (c : Instr) (x : Station) (q : List Instr) (y : Station), P x → exec c ⟨x, q⟩ = .next ⟨y, q⟩ → P y)
    {s t : State} (start : P s.station) (run : step s = .next t) : P t.station := by
  rcases step_cases run with rfl | ⟨c, q, _, run⟩
  · exact start
  · obtain ⟨y, answer, _⟩ := exec_frame c s.station q
    cases answer.symm.trans run
    exact keeps c s.station q y start answer

/-! ### Power-on -/

/-- Settles O5: the power-on state is written out by its definition, and POWER_ON goes to it. -/
theorem powerOnState : Obligations.PowerOnState := by
  unfold Obligations.PowerOnState
  refine ⟨?blocks, fun _ _ => rfl⟩
  case blocks =>
    have receivers : ∀ h, (State.reset.station.receivers.get h) = Receiver.powerOn := fun h => by cases h <;> rfl
    refine ⟨rfl, rfl, by decide, fun h => ?_, by decide, by decide, by decide, by decide, by decide, by decide, by decide, by decide,
      by decide⟩
    rw [receivers]
    exact ⟨rfl, rfl, rfl, rfl⟩

/-- Every queue, buffer and list is empty after power-on. -/
theorem Station.powerOn_bounded : Station.powerOn.Bounded where
  items := by decide
  fifos := fun h => by cases h <;> decide
  samplesA := by decide
  samplesB := by decide
  rejectedRun := by decide
  roster := fun _ none => by cases none
  entries := by decide
  keys := by decide
  entry := fun _ absent => by cases absent
  txQueue := by decide
  rxQueue := by decide

/-- CONFIG LOAD holds no values and no id, and the gate is shut. -/
theorem Station.powerOn_started : Station.powerOn.Started where
  limits := fun _ none => by cases none
  configured := fun ready => absurd rfl ready
  idRange := fun _ none => by cases none
  idHeld := fun ready => absurd ready (by decide)
  seeded := fun ready => absurd ready (by decide)
  gate := fun shut => absurd shut (by decide)

theorem Station.powerOn_coherent : Station.powerOn.Coherent where
  oneOnLine := by decide
  held := by decide
  resting := by decide

/-- Settles O6: each invariant speaks of what power-on leaves empty. -/
theorem resetMeetsTheInvariants : Obligations.ResetMeetsTheInvariants := by
  unfold Obligations.ResetMeetsTheInvariants
  exact ⟨Station.powerOn_bounded, Station.powerOn_started, Station.powerOn_coherent, fun _ => rfl⟩

end Sys2Proof.Machine
end

section
/-! SUPPORT. CONFIG LOAD (R177, R178): the station as power-on left it but for the clock, the encoder and the restart input; what
each command does to it; and the statement these settle. -/

namespace Sys2Proof.Machine

/-- The station as power-on left it, with a millisecond count, an encoder position and a level of the restart input. -/
def Station.loading (clock : Millis) (pos : Pos) (level : Bool) : Station :=
  { Station.powerOn with
    clock := clock
    lane := { Station.powerOn.lane with pos := pos }
    startup := { Station.powerOn.startup with restartInput := level } }

variable (s : Station)

theorem Station.asPoweredOn_iff : s.AsPoweredOn ↔ ∃ clock pos level, s = .loading clock pos level := by
  constructor
  · intro same
    exact ⟨_, _, _, same⟩
  · rintro ⟨clock, pos, level, rfl⟩
    rfl

/-- Nothing but the end of the configuration read takes a station that loads its configuration anywhere: the clock, the encoder and
the restart input are followed, and every other command finds nothing to act on. -/
theorem exec_loading {c : Instr} (notRead : ∀ block, c ≠ .configReadComplete block) (clock : Millis) (pos : Pos) (level : Bool)
    (q : List Instr) : ∃ clock' pos' level',
      exec c ⟨.loading clock pos level, q⟩ = .next ⟨.loading clock' pos' level', q⟩ := by
  cases c with
  | configReadComplete block => exact absurd rfl (notRead block)
  | powerOn => exact ⟨0, 0, level, rfl⟩
  | millisecondTick => exact ⟨clock + 1, pos, level, rfl⟩
  | encoderForwardCount => exact ⟨clock, pos + 1, level, rfl⟩
  | localRestart => exact ⟨clock, pos, true, by cases level <;> rfl⟩
  | localRestartRelease => exact ⟨clock, pos, false, rfl⟩
  | headSymbolArrival head symbol => exact ⟨clock, pos, level, rfl⟩
  | framerTakeSymbol head | handOver head => exact ⟨clock, pos, level, by cases head <;> rfl⟩
  | _ => exact ⟨clock, pos, level, rfl⟩

/-- Settles O60: a command that ends in CONFIG LOAD is POWER_ON or began there, in a station that it then leaves idle. -/
theorem configLoadIsIdle : Obligations.ConfigLoadIsIdle := by
  unfold Obligations.ConfigLoadIsIdle
  intro s t idle run
  refine step_keeps (P := Station.LoadingIdle) (fun c x q y idle run loading => ?_) idle run
  have moves := stationStateMoves
  unfold Obligations.StationStateMoves at moves
  by_cases on : c = .powerOn
  · subst on
    cases run
    exact (Station.asPoweredOn_iff _).mpr ⟨0, 0, x.startup.restartInput, rfl⟩
  have began : x.startup.state = .configLoad := by
    by_contra ready
    rcases moves.2.2 c ⟨x, q⟩ ⟨y, q⟩ run (fun same => ready (same.symm.trans loading)) with
      ⟨rfl, _⟩ | ⟨_, began, _⟩ | ⟨_, _, active, _⟩ | ⟨_, _, _, _, _, _, _, silent⟩
    · exact on rfl
    · exact ready began
    · exact absurd (loading.symm.trans active) (by decide)
    · exact absurd (loading.symm.trans silent) (by decide)
  have notRead : ∀ block, c ≠ .configReadComplete block := by
    rintro block rfl
    cases run
    rcases x.configRead_state block began with left | left <;> exact absurd (loading.symm.trans left) (by decide)
  obtain ⟨clock, pos, level, rfl⟩ := (x.asPoweredOn_iff).mp (idle began)
  obtain ⟨clock', pos', level', run'⟩ := exec_loading notRead clock pos level q
  cases run.symm.trans run'
  exact (Station.asPoweredOn_iff _).mpr ⟨clock', pos', level', rfl⟩

end Sys2Proof.Machine
end

section
/-! SUPPORT. The transmit gate and the start-up order (R144, R147, R182, R183, R185): how the gate, the station state, the sending
station and the backoff generator move, and the statements these settle. -/

namespace Sys2Proof.Machine

variable (s : Station)

theorem Station.mayTransmit_iff : s.mayTransmit = true ↔
    s.link.gateOpen = true ∧ (s.startup.state = .joining ∨ s.startup.state = .active) := by
  simp [Station.mayTransmit]

/-! ### What the station sends -/

theorem Station.configRead_sending (block : ConfigBlock) : (s.configRead block).link.sending = s.link.sending := by
  by_cases loading : s.startup.state = .configLoad
  case neg => rw [s.configRead_of_not_configLoad block loading]
  case pos =>
    have kept : (s.configured block).link.sending = s.link.sending := by
      unfold Station.configured
      split <;> rfl
    cases signature : signatureRight block with
    | false =>
      rw [s.configRead_of_signatureWrong loading signature]
      rfl
    | true =>
      rcases s.configRead_of_signatureRight loading signature with silent | ⟨id, joins⟩
      · rw [silent]
        exact kept
      · rw [joins]
        exact kept

theorem Station.lineGoesIdle_sending : s.lineGoesIdle.link.sending = s.link.sending := by
  unfold Station.lineGoesIdle
  split_ifs <;> rfl

theorem Station.lineLeaves_sending : s.lineLeaves.link.sending = s.link.sending := by
  unfold Station.lineLeaves
  split_ifs <;> rfl

theorem Station.leadIsFound_sending : s.leadIsFound.link.sending = s.link.sending := by
  unfold Station.leadIsFound
  split_ifs <;> rfl

theorem Station.lineError_sending : s.lineError.link.sending = s.link.sending := by
  unfold Station.lineError
  split_ifs <;> rfl

/-- A reception leaves what the station does on the line: only the receiver's own part moves. -/
theorem Station.frameEnds_sending (bits : List Bool) :
    (s.frameEnds bits).link.sending = s.link.sending ∧ (s.frameEnds bits).link.holding = s.link.holding := by
  unfold Station.frameEnds
  split
  next =>
    split
    next f _ =>
      unfold Station.frameTaken
      split
      next =>
        have kept (t : Station) : Block.line.same t ((t.ownIdReport f).enqueueReceived f) :=
          Block.same_trans (t.ownIdReport_changes f .line (by decide)) (Station.enqueueReceived_changes _ f .line (by decide))
        exact ⟨(kept _).1, (kept _).2.1⟩
      next => exact ⟨rfl, rfl⟩
    all_goals exact ⟨rfl, rfl⟩
  next => exact ⟨rfl, rfl⟩

theorem Station.beginAt_of_absent {place : Nat} (absent : s.link.txQueue[place]? = none) : s.beginAt place = s := by
  simp [Station.beginAt, absent]

/-- What an attempt of the frame at a place comes to. -/
theorem Station.beginAt_of_frame {place : Nat} {f : TxFrame} (there : s.link.txQueue[place]? = some f) :
    s.beginAt place = { s.afterSampling f.body with link := { (s.afterSampling f.body).link with
      txQueue := (s.afterSampling f.body).link.txQueue.set place { f with body := s.bodyToSend f.body, standing := .onLine }
      sending := .frame ((s.bodyToSend f.body).lineBits s.ownId)
      holding := false, lineIdle := false, reception := .seeking } } := by
  simp [Station.beginAt, there]

/-- An attempt begins only with the gate open, on an idle line, with nothing sent, held or ON LINE. -/
theorem Station.attemptBegins_cases :
    s.attemptBegins = s ∨
      ∃ place, selectFrame s.link.txQueue = some place ∧ s.mayTransmit = true ∧ s.link.sending = .quiet ∧ s.onLine = none ∧
        s.attemptBegins = { s with link := { s.link with chain := 0 } }.beginAt place := by
  unfold Station.attemptBegins
  split
  next due =>
    split
    next place selected =>
      simp only [Bool.and_eq_true, beq_iff_eq, Option.isNone_iff_eq_none] at due
      exact .inr ⟨place, selected, due.1.1.1.1, due.1.2, due.2, rfl⟩
    next => exact .inl rfl
  next => exact .inl rfl

/-- A chain goes on only with the gate open, or the line is released. -/
theorem Station.chainContinues_cases :
    s.chainContinues = s ∨ (s.link.holding = true ∧ s.chainContinues = s.releaseLine) ∨
      ∃ place, selectFrame s.link.txQueue = some place ∧ s.mayTransmit = true ∧ s.link.holding = true ∧
        s.chainContinues = s.beginAt place := by
  unfold Station.chainContinues
  split
  next held =>
    split
    next place may selected => exact .inr (.inr ⟨place, selected, may, held, rfl⟩)
    next => exact .inr (.inl ⟨held, rfl⟩)
  next => exact .inl rfl

theorem Station.collides_sending : s.collides.link.sending = s.link.sending ∨
    s.collides.link.sending = .jam ∧ ∃ bits, s.link.sending = .frame bits := by
  unfold Station.collides
  split
  next bits sends => exact .inr ⟨rfl, bits, sends⟩
  all_goals exact .inl rfl

/-- The end of a jam leaves the station quiet. -/
theorem Station.jamEnds_quiet (jams : s.link.sending = .jam) :
    s.jamEnds.link.sending = .quiet ∧ s.jamEnds.link.holding = s.link.holding := by
  unfold Station.jamEnds
  rw [if_pos jams]
  dsimp only
  split
  next => exact ⟨rfl, rfl⟩
  next f _ =>
    split_ifs
    · obtain ⟨sending, holding, -⟩ := Station.departOnLine_changes
        { s with link := { s.link with sending := .quiet, reception := .seeking } } .line (by decide)
      exact ⟨sending, holding⟩
    · exact ⟨rfl, rfl⟩
    · obtain ⟨sending, holding, -⟩ := Station.abandon_changes
        { s with link := { s.link with sending := .quiet, reception := .seeking } } f.body .line (by decide)
      exact ⟨sending, holding⟩
    · exact ⟨rfl, rfl⟩

theorem Station.jamEnds_of_no_jam (noJam : s.link.sending ≠ .jam) : s.jamEnds = s := if_neg noJam

theorem Station.countChain_sending : s.countChain.link.sending = s.link.sending := by
  unfold Station.countChain
  split_ifs <;> rfl

/-- The end of an attempt leaves the station quiet. -/
theorem Station.attemptCompletes_quiet {bits : List Bool} (sends : s.link.sending = .frame bits) :
    s.attemptCompletes.link.sending = .quiet := by
  unfold Station.attemptCompletes
  rw [sends]
  dsimp only
  split
  next => exact Station.countChain_sending _
  next f _ =>
    obtain ⟨told, -⟩ := Station.tellCompleted_changes (Station.departOnLine (Station.countChain { s with link := { s.link with
      sending := .quiet, reception := .seeking, counts := { s.link.counts with sent := s.link.counts.sent + 1 } } })) f .line (by decide)
    obtain ⟨left, -⟩ := Station.departOnLine_changes (Station.countChain { s with link := { s.link with
      sending := .quiet, reception := .seeking, counts := { s.link.counts with sent := s.link.counts.sent + 1 } } }) .line (by decide)
    exact told.trans (left.trans (Station.countChain_sending _))

theorem Station.attemptCompletes_of_not_sending (still : ∀ bits, s.link.sending ≠ .frame bits) : s.attemptCompletes = s := by
  unfold Station.attemptCompletes
  split
  next bits sends => exact absurd sends (still bits)
  all_goals rfl

/-- How what the station does on the line may move: it falls quiet, it jams in place of a frame, or it begins an attempt with the gate
open. -/
theorem exec_sending {c : Instr} {x y : Station} {q : List Instr} (run : exec c ⟨x, q⟩ = .next ⟨y, q⟩) :
    y.link.sending = x.link.sending ∨ y.link.sending = .quiet ∨ (y.link.sending = .jam ∧ ∃ bits, x.link.sending = .frame bits) ∨
      x.mayTransmit = true := by
  by_cases touched : .line ∈ touches c
  case neg => exact .inl (exec_changes run .line touched).1
  cases c with
  | powerOn => cases run; exact .inr (.inl rfl)
  | configReadComplete block => cases run; exact .inl (x.configRead_sending block)
  | lineIdle => cases run; exact .inl x.lineGoesIdle_sending
  | lineLeavesIdle => cases run; exact .inl x.lineLeaves_sending
  | leadFound => cases run; exact .inl x.leadIsFound_sending
  | rxLineError => cases run; exact .inl x.lineError_sending
  | frameReceived bits => cases run; exact .inl (x.frameEnds_sending bits).1
  | attemptBegin =>
    cases run
    rcases x.attemptBegins_cases with same | ⟨_, _, may, _⟩
    · exact .inl (by rw [same])
    · exact .inr (.inr (.inr may))
  | chainContinuation =>
    cases run
    rcases x.chainContinues_cases with same | ⟨_, released⟩ | ⟨_, _, may, _⟩
    · exact .inl (by rw [same])
    · exact .inl (by rw [released]; rfl)
    · exact .inr (.inr (.inr may))
  | collision =>
    cases run
    rcases x.collides_sending with same | jams
    · exact .inl same
    · exact .inr (.inr (.inl jams))
  | jamEnd =>
    cases run
    by_cases jams : x.link.sending = .jam
    · exact .inr (.inl (x.jamEnds_quiet jams).1)
    · exact .inl (by rw [x.jamEnds_of_no_jam jams])
  | attemptComplete =>
    cases run
    by_cases sends : ∃ bits, x.link.sending = .frame bits
    · obtain ⟨bits, sends⟩ := sends
      exact .inr (.inl (x.attemptCompletes_quiet sends))
    · exact .inl (by rw [x.attemptCompletes_of_not_sending (not_exists.mp sends)])
  | _ => exact absurd touched (by simp [touches])

/-! ### The gate (R144, R152, R183, R185) -/

theorem gate_mem_touches {c : Instr} : .gate ∈ touches c ↔ c = .powerOn ∨ c = .joinQuietExpiry ∨ ∃ bits, c = .frameReceived bits := by
  cases c <;> simp [touches]

/-- The join-quiet interval ends for a timer of its age in JOINING, or nothing happens. -/
theorem Station.joinQuietEnds_cases : s.joinQuietEnds = s ∨
    (s.startup.state = .joining ∧ ∃ start, s.startup.joinTimer = some start ∧ age start s.clock = s.cfg.joinQuiet ∧
      s.joinQuietEnds.link.gateOpen = true) := by
  unfold Station.joinQuietEnds
  split
  next => exact .inl rfl
  next start timer =>
    split_ifs with due
    · exact .inr ⟨due.1, start, timer, due.2, Station.offerAnnounce_changes _ .gate (by decide)⟩
    · exact .inl rfl

/-- The entry to LISTEN-ONLY flushes the queue and shuts the gate. -/
theorem Station.duplicateId_of_ready (ready : s.startup.state = .joining ∨ s.startup.state = .active) :
    s.duplicateId.startup.state = .listenOnly ∧ s.duplicateId.link.gateOpen = false ∧ s.duplicateId.link.txQueue = [] := by
  unfold Station.duplicateId
  rw [if_pos ready]
  exact ⟨(Station.stopRecords_changes _ .stationState (by decide)).trans (Station.stopClaims_changes _ .stationState (by decide)),
    (Station.stopRecords_changes _ .gate (by decide)).trans (Station.stopClaims_changes _ .gate (by decide)),
    (Station.stopRecords_changes _ .txQueue (by decide)).trans (Station.stopClaims_changes _ .txQueue (by decide))⟩

theorem Station.duplicateId_of_not_ready (silent : ¬ (s.startup.state = .joining ∨ s.startup.state = .active)) :
    s.duplicateId = s := if_neg silent

/-- The pieces a reception touches where it does not silence the station. -/
def receptionBlocks : List Block := [.line, .linkCounts, .rxQueue, .flags, .items]

/-- A good frame silences the station, with the queue flushed and the gate shut, or it is queued or dropped and nothing else. -/
theorem Station.goodFrame_cases (f : RxFrame) : Changes receptionBlocks s ((s.ownIdReport f).enqueueReceived f) ∨
    ((s.startup.state = .joining ∨ s.startup.state = .active) ∧
      ((s.ownIdReport f).enqueueReceived f).startup.state = .listenOnly ∧
      ((s.ownIdReport f).enqueueReceived f).link.gateOpen = false ∧
      ((s.ownIdReport f).enqueueReceived f).link.txQueue = []) := by
  have queued (t : Station) := t.enqueueReceived_changes f
  unfold Station.ownIdReport
  split_ifs with own
  · by_cases ready : s.startup.state = .joining ∨ s.startup.state = .active
    · obtain ⟨state, gate, queue⟩ := s.duplicateId_of_ready ready
      exact .inr ⟨ready, (queued _ .stationState (by decide)).trans state, (queued _ .gate (by decide)).trans gate,
        (queued _ .txQueue (by decide)).trans queue⟩
    · rw [s.duplicateId_of_not_ready ready]
      exact .inl ((queued s).mono rfl)
  · exact .inl ((queued s).mono rfl)

/-- A reception silences the station, with the queue flushed and the gate shut, or it leaves the state, the gate and the transmit
queue. -/
theorem Station.frameEnds_cases (bits : List Bool) : Changes receptionBlocks s (s.frameEnds bits) ∨
    (s.link.sending = .quiet ∧ (s.startup.state = .joining ∨ s.startup.state = .active) ∧
      (s.frameEnds bits).startup.state = .listenOnly ∧ (s.frameEnds bits).link.gateOpen = false ∧
      (s.frameEnds bits).link.txQueue = []) := by
  have seeks : Changes receptionBlocks s { s with link := { s.link with reception := .seeking } } :=
    (changes_line s s.link.sending s.link.holding s.link.chain s.link.lineIdle .seeking).mono rfl
  unfold Station.frameEnds
  split
  next takes =>
    split
    next f _ =>
      unfold Station.frameTaken
      split_ifs with good
      · rcases Station.goodFrame_cases { s with link := { s.link with reception := .seeking } } f with kept | silenced
        · exact .inl (seeks.trans kept)
        · simp only [Station.takingFrame, Bool.and_eq_true, beq_iff_eq] at takes
          exact .inr ⟨takes.1.2, silenced⟩
      · exact .inl (s.checkFails_changes.mono rfl)
    · exact .inl (s.checkFails_changes.mono rfl)
    · exact .inl seeks
    · exact .inl (.refl s)
  next => exact .inl (.refl s)

/-- How the gate moves: shut by power-on and by the entry to LISTEN-ONLY, opened at the end of the join-quiet interval. -/
theorem exec_gate {c : Instr} {x y : Station} {q : List Instr} (run : exec c ⟨x, q⟩ = .next ⟨y, q⟩) :
    y.link.gateOpen = x.link.gateOpen ∨ (y.link.gateOpen = false ∧ (y.startup.state = .listenOnly ∨ c = .powerOn)) ∨
      (y.link.gateOpen = true ∧ c = .joinQuietExpiry ∧ x.startup.state = .joining ∧ y.startup.state = .joining ∧
        ∃ start, x.startup.joinTimer = some start ∧ age start x.clock = x.cfg.joinQuiet) := by
  by_cases touched : .gate ∈ touches c
  case neg => exact .inl (exec_changes run .gate touched)
  rcases gate_mem_touches.mp touched with rfl | rfl | ⟨bits, rfl⟩
  · cases run
    exact .inr (.inl ⟨rfl, .inr rfl⟩)
  · cases run
    rcases x.joinQuietEnds_cases with same | ⟨joining, start, timer, due, opened⟩
    · exact .inl (congrArg (fun t : Station => t.link.gateOpen) same)
    · exact .inr (.inr ⟨opened, rfl, joining, (x.joinQuietEnds_changes .stationState (by decide)).trans joining, start, timer, due⟩)
  · cases run
    rcases x.frameEnds_cases bits with kept | ⟨_, _, state, gate, _⟩
    · exact .inl (kept .gate (by decide))
    · exact .inr (.inl ⟨gate, .inl state⟩)

/-- The moves of the station state, each with its command. -/
theorem exec_stationState {c : Instr} {x y : Station} {q : List Instr} (run : exec c ⟨x, q⟩ = .next ⟨y, q⟩)
    (moved : y.startup.state ≠ x.startup.state) :
    (c = .powerOn ∧ y.startup.state = .configLoad) ∨
    ((∃ b, c = .configReadComplete b) ∧ x.startup.state = .configLoad ∧
      (y.startup.state = .joining ∨ y.startup.state = .listenOnly)) ∨
    (c = .attemptComplete ∧ x.startup.state = .joining ∧ y.startup.state = .active) ∨
    ((∃ bits, c = .frameReceived bits) ∧ (x.startup.state = .joining ∨ x.startup.state = .active) ∧
      y.startup.state = .listenOnly) := by
  have moves := stationStateMoves
  unfold Obligations.StationStateMoves at moves
  rcases moves.2.2 c ⟨x, q⟩ ⟨y, q⟩ run moved with on | read | ⟨done, joining, active, _⟩ | ⟨bits, _, event, _, _, _, ready, silent⟩
  · exact .inl on
  · exact .inr (.inl read)
  · exact .inr (.inr (.inl ⟨done, joining, active⟩))
  · exact .inr (.inr (.inr ⟨⟨bits, event⟩, ready, silent⟩))

/-- A station that sends, and sent only with the gate open, has the gate open still. -/
theorem exec_sends_with_gate_open {c : Instr} {x y : Station} {q : List Instr} (run : exec c ⟨x, q⟩ = .next ⟨y, q⟩)
    (open_ : x.link.sending ≠ .quiet → x.mayTransmit = true) (busy : y.link.sending ≠ .quiet) : y.mayTransmit = true := by
  have may : x.mayTransmit = true := by
    rcases exec_sending run with same | quiet | ⟨_, bits, sends⟩ | may
    · exact open_ (same ▸ busy)
    · exact absurd quiet busy
    · exact open_ (by simp [sends])
    · exact may
  obtain ⟨gate, ready⟩ := x.mayTransmit_iff.mp may
  have notPowerOn : c ≠ .powerOn := by
    rintro rfl
    cases run
    exact busy rfl
  have notSilenced : y.startup.state ≠ .listenOnly := by
    intro silent
    have moved : y.startup.state ≠ x.startup.state := by
      rw [silent]
      rcases ready with joining | active
      · simp [joining]
      · simp [active]
    rcases exec_stationState run moved with ⟨_, load⟩ | ⟨_, load, _⟩ | ⟨_, _, active⟩ | ⟨⟨bits, rfl⟩, _⟩
    · exact absurd (load.symm.trans silent) (by decide)
    · simp [load] at ready
    · exact absurd (active.symm.trans silent) (by decide)
    · cases run
      rcases x.frameEnds_cases bits with kept | ⟨quiet, _⟩
      · exact moved (kept .stationState (by decide))
      · exact busy ((x.frameEnds_sending bits).1.trans quiet)
  refine y.mayTransmit_iff.mpr ⟨?_, ?_⟩
  · rcases exec_gate run with same | ⟨_, silent | on⟩ | ⟨opened, _⟩
    · exact same.trans gate
    · exact absurd silent notSilenced
    · exact absurd on notPowerOn
    · exact opened
  · by_cases moved : y.startup.state = x.startup.state
    · rwa [moved]
    · rcases exec_stationState run moved with ⟨on, _⟩ | ⟨_, load, _⟩ | ⟨_, _, active⟩ | ⟨_, _, silent⟩
      · exact absurd on notPowerOn
      · simp [load] at ready
      · exact .inr active
      · exact absurd silent notSilenced

/-- Settles O51: the moves of the sending station, of the gate and of the station state, put together. -/
theorem transmitGate : Obligations.TransmitGate := by
  unfold Obligations.TransmitGate
  intro c s t run
  obtain ⟨x, q⟩ := s
  obtain ⟨y, answer, _⟩ := exec_frame c x q
  cases answer.symm.trans run
  refine ⟨fun bits sends => ?begins, fun shut opened => ?opens, fun opened shut => ?shuts,
    exec_sends_with_gate_open run, fun ready silent => ?flushes⟩
  case begins =>
    rcases exec_sending run with same | quiet | ⟨jams, _⟩ | may
    · exact .inl (same ▸ sends)
    · exact absurd (sends.symm.trans quiet) (by simp)
    · exact absurd (sends.symm.trans jams) (by simp)
    · exact .inr (x.mayTransmit_iff.mp may)
  case opens =>
    rcases exec_gate run with same | ⟨still, _⟩ | ⟨_, end_, joining, _, timer⟩
    · exact absurd (opened.symm.trans (same.trans shut)) (by decide)
    · exact absurd (opened.symm.trans still) (by decide)
    · exact ⟨end_, joining, timer⟩
  case shuts =>
    rcases exec_gate run with same | ⟨_, why⟩ | ⟨still, _⟩
    · exact absurd (shut.symm.trans (same.trans opened)) (by decide)
    · exact why
    · exact absurd (shut.symm.trans still) (by decide)
  case flushes =>
    have moved : y.startup.state ≠ x.startup.state := by
      intro same
      rw [← same, silent] at ready
      simp at ready
    rcases exec_stationState run moved with ⟨_, load⟩ | ⟨_, load, _⟩ | ⟨_, _, active⟩ | ⟨⟨bits, rfl⟩, _⟩
    · exact absurd (load.symm.trans silent) (by decide)
    · simp [load] at ready
    · exact absurd (active.symm.trans silent) (by decide)
    · cases run
      rcases x.frameEnds_cases bits with kept | ⟨_, _, _, _, flushed⟩
      · exact absurd (kept .stationState (by decide)) moved
      · exact flushed

/-! ### The backoff generator (R147) -/

theorem generator_mem_touches {c : Instr} : .generator ∈ touches c ↔
    c = .powerOn ∨ (∃ b, c = .configReadComplete b) ∨ c = .jamEnd := by
  cases c <;> simp [touches]

/-- The generator never runs into 0: its one step that could lose the last bit sets the top bit. -/
theorem backoffStep_ne_zero {g : BitVec 16} (nonzero : g ≠ 0) : backoffStep g ≠ 0 := by
  unfold backoffStep
  split_ifs with odd
  · intro zero
    have top := congrArg (fun v : BitVec 16 => v.getLsbD 15) zero
    simp at top
  · intro zero
    refine nonzero (BitVec.eq_of_toNat_eq ?_)
    have even : g.toNat % 2 = 0 := by
      have bit : g.getLsbD 0 = false := by simpa using odd
      rw [BitVec.getLsbD, Nat.testBit_zero] at bit
      simpa using bit
    have half : g.toNat / 2 = 0 := by
      have := congrArg BitVec.toNat zero
      simpa [Nat.shiftRight_eq_div_pow] using this
    have whole := Nat.div_add_mod g.toNat 2
    rw [even, half] at whole
    simpa using whole.symm

theorem backoffSeed_ne_zero {id : Nat} (range : id ≤ 31) : backoffSeed id ≠ 0 := by
  intro zero
  have value := congrArg BitVec.toNat zero
  simp [backoffSeed] at value
  omega

/-- The end of a jam leaves the generator or steps it once. -/
theorem Station.jamEnds_generator :
    s.jamEnds.link.generator = s.link.generator ∨ s.jamEnds.link.generator = backoffStep s.link.generator := by
  unfold Station.jamEnds
  split_ifs
  · dsimp only
    split
    next => exact .inl rfl
    next f _ =>
      split_ifs
      · exact .inl (Station.departOnLine_changes _ .generator (by decide))
      · exact .inr rfl
      · exact .inl (Station.abandon_changes _ f.body .generator (by decide))
      · exact .inr rfl
  · exact .inl rfl

/-! ### The start-up order -/

theorem settings_mem_touches {c : Instr} : .settings ∈ touches c ↔ c = .powerOn ∨ ∃ b, c = .configReadComplete b := by
  cases c <;> simp [touches]

theorem configuredId_range {block : ConfigBlock} {id : Nat} (named : configuredId block = some id) : 1 ≤ id ∧ id ≤ 31 := by
  unfold configuredId at named
  split_ifs at named with range
  cases named
  exact range

/-- The values are handed out with the rest of the station as it was, but for the flag. -/
theorem Station.configured_rest (block : ConfigBlock) :
    (s.configured block).startup.stationId = s.startup.stationId ∧ (s.configured block).link.gateOpen = s.link.gateOpen ∧
      (s.configured block).startup.state = s.startup.state := by
  unfold Station.configured
  split <;> exact ⟨rfl, rfl, rfl⟩

theorem Station.takeSettings_enterListenOnly_started (started : s.Started) (loading : s.startup.state = .configLoad) {c : Settings}
    (limits : c.InLimits) : (s.takeSettings c).enterListenOnly.Started where
  limits := fun c' taken => by
    cases taken
    exact limits
  configured := fun _ => rfl
  idRange := started.idRange
  idHeld := fun ready => by simp at ready
  seeded := fun ready => by simp at ready
  gate := fun gate => by
    have ready := started.gate gate
    simp [loading] at ready

/-- The end of the configuration read starts the station in order. -/
theorem Station.configRead_started (block : ConfigBlock) (started : s.Started) : (s.configRead block).Started := by
  by_cases loading : s.startup.state = .configLoad
  case neg => rwa [s.configRead_of_not_configLoad block loading]
  case pos =>
    have shut : s.link.gateOpen = true → False := fun gate => by
      have ready := started.gate gate
      simp [loading] at ready
    cases signature : signatureRight block with
    | false =>
      rw [s.configRead_of_signatureWrong loading signature]
      exact s.takeSettings_enterListenOnly_started started loading Settings.defaults_inLimits
    | true =>
      have settings := s.configured_settings block
      obtain ⟨stationId, gate, _⟩ := s.configured_rest block
      have limits : ∀ c, (s.configured block).startup.settings = some c → c.InLimits := fun c taken => by
        cases settings.symm.trans taken
        exact configuredSettings_inLimits block
      cases named : configuredId block with
      | none =>
        have silent : s.configRead block = (s.configured block).enterListenOnly := by
          simp [Station.configRead, Station.configured, loading, signature, named]
        rw [silent]
        exact {
          limits := limits
          configured := fun _ => by simp [Station.enterListenOnly, settings]
          idRange := fun id held => started.idRange id (stationId ▸ held)
          idHeld := fun ready => by simp [Station.enterListenOnly] at ready
          seeded := fun ready => by simp [Station.enterListenOnly] at ready
          gate := fun opened => absurd (gate ▸ opened) shut }
      | some id =>
        have joins : s.configRead block = (s.configured block).enterJoining id := by
          simp [Station.configRead, Station.configured, loading, signature, named]
        obtain ⟨low, high⟩ := configuredId_range named
        rw [joins]
        exact {
          limits := limits
          configured := fun _ => by simp [Station.enterJoining, settings]
          idRange := fun id' held => by
            cases held
            exact ⟨low, high⟩
          idHeld := fun _ => rfl
          seeded := fun _ => backoffSeed_ne_zero high
          gate := fun opened => absurd (gate ▸ opened) shut }

theorem Station.powersOn_started : s.powersOn.Started where
  limits := fun _ none => by cases none
  configured := fun ready => absurd rfl ready
  idRange := fun _ none => by cases none
  idHeld := fun ready => by rcases ready with ready | ready <;> cases ready
  seeded := fun ready => by rcases ready with ready | ready <;> cases ready
  gate := fun shut => by cases shut

/-- Every command keeps the start-up order. -/
theorem exec_started {c : Instr} {x y : Station} {q : List Instr} (started : x.Started) (run : exec c ⟨x, q⟩ = .next ⟨y, q⟩) :
    y.Started := by
  by_cases on : c = .powerOn
  · subst on
    cases run
    exact x.powersOn_started
  rcases Classical.em (∃ block, c = .configReadComplete block) with read | read
  · obtain ⟨block, rfl⟩ := read
    cases run
    exact x.configRead_started block started
  have untouched : .settings ∉ touches c := fun touched => (settings_mem_touches.mp touched).elim on read
  obtain ⟨settings, stationId, _⟩ : y.startup.settings = x.startup.settings ∧ y.startup.stationId = x.startup.stationId ∧
    y.startup.portSelect = x.startup.portSelect := exec_changes run .settings untouched
  have state : y.startup.state = x.startup.state ∨ (x.startup.state = .joining ∧ y.startup.state = .active) ∨
      ((x.startup.state = .joining ∨ x.startup.state = .active) ∧ y.startup.state = .listenOnly ∧ y.link.gateOpen = false) := by
    by_cases moved : y.startup.state = x.startup.state
    · exact .inl moved
    · rcases exec_stationState run moved with ⟨h, _⟩ | ⟨h, _⟩ | ⟨_, joining, active⟩ | ⟨⟨bits, rfl⟩, ready, silent⟩
      · exact absurd h on
      · exact absurd h read
      · exact .inr (.inl ⟨joining, active⟩)
      · refine .inr (.inr ⟨ready, silent, ?_⟩)
        cases run
        rcases x.frameEnds_cases bits with kept | ⟨_, _, _, gate, _⟩
        · exact absurd (kept .stationState (by decide)) moved
        · exact gate
  have ready : y.startup.state = .joining ∨ y.startup.state = .active → x.startup.state = .joining ∨ x.startup.state = .active := by
    rcases state with same | ⟨joining, _⟩ | ⟨_, silent, _⟩
    · rw [same]
      exact id
    · exact fun _ => .inl joining
    · simp [silent]
  have generator : y.link.generator = x.link.generator ∨ y.link.generator = backoffStep x.link.generator := by
    by_cases touched : .generator ∈ touches c
    · rcases generator_mem_touches.mp touched with h | h | rfl
      · exact absurd h on
      · exact absurd h read
      · cases run
        exact x.jamEnds_generator
    · exact .inl (exec_changes run .generator touched)
  exact {
    limits := fun c held => started.limits c (settings ▸ held)
    configured := fun loaded => by
      rw [settings]
      refine started.configured fun loading => ?_
      rcases state with same | ⟨joining, _⟩ | ⟨ready, _⟩
      · exact loaded (same.trans loading)
      · exact absurd (joining.symm.trans loading) (by decide)
      · simp [loading] at ready
    idRange := fun id held => started.idRange id (stationId ▸ held)
    idHeld := fun h => stationId ▸ started.idHeld (ready h)
    seeded := fun h => by
      rcases generator with same | stepped
      · exact same ▸ started.seeded (ready h)
      · exact stepped ▸ backoffStep_ne_zero (started.seeded (ready h))
    gate := fun opened => by
      rcases exec_gate run with same | ⟨shut, _⟩ | ⟨_, _, _, joining, _⟩
      · rcases state with kept | ⟨_, active⟩ | ⟨_, _, shut⟩
        · exact kept ▸ started.gate (same ▸ opened)
        · exact .inr active
        · exact absurd (opened.symm.trans shut) (by decide)
      · exact absurd (opened.symm.trans shut) (by decide)
      · exact .inl joining }

/-- Settles O58: every command keeps the start-up order, and so does a step. -/
theorem startupOrderIsKept : Obligations.StartupOrderIsKept := by
  unfold Obligations.StartupOrderIsKept
  exact fun _ _ started run => step_keeps (P := Station.Started) (fun _ _ _ _ => exec_started) started run

end Sys2Proof.Machine
end

section
/-! SUPPORT. What an everyday operation keeps, said once for each operation: the capacities and the distinct keys (00_scope.md's
table of owners), the sticky flags (R173) and the number of frames ON LINE (section 8.2). -/

namespace Sys2Proof.Machine

/-! ### The capacities, block by block -/

/-- The part of the capacities that speaks of one piece of the state. -/
def Block.Bounded (b : Block) (s : Station) : Prop :=
  match b with
  | .items => s.lane.queue.length ≤ Config.itemCapacity
  | .receivers => ∀ h, (s.receivers.get h).fifo.length ≤ Config.fifoCapacity
  | .buffers => s.measurement.bufferA.samples.length ≤ Config.bufferCapacity ∧
      s.measurement.bufferB.samples.length ≤ Config.bufferCapacity
  | .tare => s.measurement.rejectedRun ≤ 3
  | .context => ∀ c, s.tracker.context = some c → c.roster.length ≤ Config.rosterCapacity
  | .entries => s.table.entries.length ≤ Config.tableCapacity ∧ (s.table.entries.map Entry.key).Nodup ∧
      ∀ e ∈ s.table.entries, e.Bounded
  | .txQueue => s.link.txQueue.length ≤ Config.txCapacity
  | .rxQueue => s.link.rxQueue.length ≤ Config.rxCapacity
  | _ => True

theorem Station.bounded_iff (s : Station) : s.Bounded ↔ ∀ b : Block, b.Bounded s := by
  constructor
  · intro h b
    cases b with
    | items => exact h.items
    | receivers => exact h.fifos
    | buffers => exact ⟨h.samplesA, h.samplesB⟩
    | tare => exact h.rejectedRun
    | context => exact h.roster
    | entries => exact ⟨h.entries, h.keys, h.entry⟩
    | txQueue => exact h.txQueue
    | rxQueue => exact h.rxQueue
    | _ => trivial
  · intro h
    obtain ⟨samplesA, samplesB⟩ := h .buffers
    obtain ⟨entries, keys, entry⟩ := h .entries
    exact ⟨h .items, h .receivers, samplesA, samplesB, h .tare, h .context, entries, keys, entry, h .txQueue, h .rxQueue⟩

/-- A piece left as it was keeps its capacities. -/
theorem Block.Bounded.of_same {b : Block} {s t : Station} (same : b.same s t) (h : b.Bounded s) : b.Bounded t := by
  cases b <;> simp only [Block.Bounded, Block.same] at same h ⊢ <;> simpa only [same] using h

/-! ### The relation -/

/-- From one station to the next the capacities are kept, and no sticky flag is lost. -/
structure Station.Secure (s t : Station) : Prop where
  bounded : s.Bounded → t.Bounded
  flags : ∀ f, s.flag f = true → t.flag f = true

/-- The same, with as many frames ON LINE as before. -/
structure Station.Steady (s t : Station) : Prop extends s.Secure t where
  onLine : t.framesOnLine.length = s.framesOnLine.length

namespace Station

variable {s t u : Station} {bs : List Block}

theorem Secure.refl (s : Station) : s.Secure s := ⟨id, fun _ => id⟩

theorem Secure.trans (h : s.Secure t) (k : t.Secure u) : s.Secure u :=
  ⟨k.bounded ∘ h.bounded, fun f => k.flags f ∘ h.flags f⟩

theorem Steady.refl (s : Station) : s.Steady s := ⟨.refl s, rfl⟩

theorem Steady.trans (h : s.Steady t) (k : t.Steady u) : s.Steady u :=
  ⟨h.toSecure.trans k.toSecure, k.onLine.trans h.onLine⟩

theorem Steady.foldl {α : Type} {f : Station → α → Station} (h : ∀ (s : Station) (a : α), s.Steady (f s a)) :
    ∀ (l : List α) (s : Station), s.Steady (l.foldl f s)
  | [], s => .refl s
  | a :: l, s => (h s a).trans (Steady.foldl h l (f s a))

/-- A change is secure where the pieces it touches keep their capacities and the flags. -/
theorem Secure.of_changes (h : Changes bs s t) (bounded : s.Bounded → ∀ b ∈ bs, b.Bounded t)
    (flags : .flags ∈ bs → ∀ f, s.flag f = true → t.flag f = true) : s.Secure t where
  bounded := fun within => t.bounded_iff.mpr fun b => by
    by_cases touched : b ∈ bs
    · exact bounded within b touched
    · exact .of_same (h b touched) (s.bounded_iff.mp within b)
  flags := fun f set => by
    by_cases touched : .flags ∈ bs
    · exact flags touched f set
    · have same : t.records.flags = s.records.flags := h .flags touched
      rwa [Station.flag, same]

theorem framesOnLine_of_same (same : t.link.txQueue = s.link.txQueue) : t.framesOnLine = s.framesOnLine := by
  rw [Station.framesOnLine, same, Station.framesOnLine]

/-- So it is steady where it keeps the number of frames ON LINE too. -/
theorem Steady.of_changes (h : Changes bs s t) (bounded : s.Bounded → ∀ b ∈ bs, b.Bounded t)
    (flags : .flags ∈ bs → ∀ f, s.flag f = true → t.flag f = true)
    (onLine : .txQueue ∈ bs → t.framesOnLine.length = s.framesOnLine.length) : s.Steady t where
  toSecure := .of_changes h bounded flags
  onLine := by
    by_cases touched : .txQueue ∈ bs
    · exact onLine touched
    · rw [framesOnLine_of_same (h .txQueue touched)]

/-- The pieces with a capacity, and the flags. -/
def heldBlocks : List Block :=
  [.items, .receivers, .buffers, .tare, .context, .entries, .txQueue, .rxQueue, .flags]

/-- A change of other pieces alone is steady. -/
theorem Steady.inert (h : Changes bs s t) (apart : (bs.all fun b => decide (b ∉ heldBlocks)) = true) : s.Steady t := by
  have free : ∀ b ∈ bs, b ∉ heldBlocks := fun b listed => by simpa using List.all_eq_true.mp apart b listed
  refine .of_changes h (fun _ b listed => ?_) (fun listed => absurd (by decide) (free _ listed))
    (fun listed => absurd (by decide) (free _ listed))
  have outside := free b listed
  cases b <;> first | exact absurd (by decide) outside | trivial

/-- A change of one piece with a capacity, the flags and the transmit queue apart. -/
theorem Steady.of_block {b : Block} (h : Changes [b] s t) (other : b ≠ .flags ∧ b ≠ .txQueue)
    (bounded : s.Bounded → b.Bounded t) : s.Steady t := by
  refine .of_changes h (fun within a listed => ?_) (fun listed => ?_) (fun listed => ?_)
  · cases List.mem_singleton.mp listed
    exact bounded within
  · exact absurd (List.mem_singleton.mp listed).symm other.1
  · exact absurd (List.mem_singleton.mp listed).symm other.2

end Station

variable (s : Station)

/-! ### Flags, items and buffers -/

theorem Station.raise_steady (f : Flag) : s.Steady (s.raise f) :=
  .of_changes (s.raise_changes f) (fun _ b listed => by cases List.mem_singleton.mp listed; trivial)
    (fun _ g set => by rw [Station.flag_raise, set, Bool.true_or]) (fun listed => absurd listed (by decide))

theorem Station.queue_steady (l : List Item) (short : l.length ≤ s.lane.queue.length) :
    s.Steady { s with lane := { s.lane with queue := l } } :=
  .of_block (changes_items s l) (by decide) fun within => short.trans within.items

theorem Station.modifyItem_steady (r : ItemRef) (f : Item → Item) : s.Steady (s.modifyItem r f) :=
  s.queue_steady _ (by simp)

theorem Measurement.modifyBuffer_cases (r : ItemRef) (f : SampleBuffer → SampleBuffer) (m : Measurement) :
    m.modifyBuffer r f = m ∨ m.modifyBuffer r f = { m with bufferA := f m.bufferA } ∨
      m.modifyBuffer r f = { m with bufferB := f m.bufferB } := by
  unfold Measurement.modifyBuffer
  split_ifs <;> simp

/-- A change of an item's buffer that leaves it at most as many samples as it may hold. -/
theorem Station.modifyBuffer_steady (r : ItemRef) {f : SampleBuffer → SampleBuffer}
    (short : ∀ b : SampleBuffer, b.samples.length ≤ 64 → (f b).samples.length ≤ 64) :
    s.Steady { s with measurement := s.measurement.modifyBuffer r f } := by
  refine .of_block (b := .buffers) (changes_buffers s (by simp)) (by decide) fun within => ?_
  dsimp only [Block.Bounded]
  rcases s.measurement.modifyBuffer_cases r f with same | first | second
  · rw [same]
    exact ⟨within.samplesA, within.samplesB⟩
  · rw [first]
    exact ⟨short _ within.samplesA, within.samplesB⟩
  · rw [second]
    exact ⟨within.samplesA, short _ within.samplesB⟩

theorem Station.freeBuffer_steady (r : ItemRef) : s.Steady (s.freeBuffer r) :=
  s.modifyBuffer_steady r fun _ _ => by simp [SampleBuffer.free]

theorem Station.endCalibrationOf_steady (r : ItemRef) (g : Bool) : s.Steady (s.endCalibrationOf r g) := by
  unfold Station.endCalibrationOf
  split
  next =>
    have ended := Station.Steady.inert (changes_calibration s .none) rfl
    split_ifs
    · exact ended.trans (Station.raise_steady _ _)
    · exact ended
    · exact .refl s
  next => exact .refl s

theorem Station.removeItem_steady (r : ItemRef) (g : Bool) : s.Steady (s.removeItem r g) :=
  ((s.queue_steady _ (List.length_filter_le _ _)).trans (Station.freeBuffer_steady _ r)).trans
    (Station.endCalibrationOf_steady _ r g)

/-! ### Head Receivers -/

theorem PerHead.get_set {α : Type} (p : PerHead α) (h k : Head) (a : α) :
    (p.set h a).get k = if k = h then a else p.get k := by
  cases h <;> cases k <;> rfl

theorem Station.formatError_steady : s.Steady s.formatError :=
  (Station.Steady.inert (changes_headCounts s _) rfl).trans (Station.raise_steady _ _)

/-- A receiver put back with a FIFO no longer than it may be, or than it was. -/
theorem Station.withReceiver_steady (h : Head) {r : Receiver} (short : r.fifo.length ≤ max 64 (s.receivers.get h).fifo.length) :
    s.Steady (s.withReceiver h r) := by
  refine .of_block (s.withReceiver_changes h r) (by decide) fun within k => ?_
  rw [Station.withReceiver_receivers, PerHead.get_set]
  split_ifs
  · exact short.trans (max_le (by decide) (within.fifos h))
  · exact within.fifos k

theorem Station.acceptPacket_steady (h : Head) {r : Receiver} (short : r.fifo.length ≤ max 64 (s.receivers.get h).fifo.length)
    (t n : Byte) (c : Nat) (l : List Symbol) : s.Steady (s.acceptPacket h r t n c l) := by
  have moves (f : Framer) (last : Option Byte) : s.Steady (s.withReceiver h { r with framer := f, lastSequence := last }) :=
    s.withReceiver_steady h short
  unfold Station.acceptPacket
  dsimp only
  split
  · exact (moves _ _).trans (.inert (Station.countGap_changes _ h) rfl)
  · exact moves _ _

/-- The framer's move leaves the FIFO as it is. -/
theorem Station.frameSymbol_steady (h : Head) {r : Receiver} (short : r.fifo.length ≤ max 64 (s.receivers.get h).fifo.length)
    (x : Symbol) : s.Steady (s.frameSymbol h r x) := by
  have moves (f : Framer) : s.Steady (s.withReceiver h { r with framer := f }) := s.withReceiver_steady h short
  have spoils (f : Framer) : s.Steady (s.withReceiver h { r with framer := f }).formatError :=
    (moves f).trans (Station.formatError_steady _)
  unfold Station.frameSymbol
  split
  · exact moves _
  · split_ifs <;> exact moves _
  · exact moves _
  · split_ifs
    · exact moves _
    · exact moves _
    · exact spoils _
  · split_ifs <;> exact moves _
  · split_ifs
    · exact s.acceptPacket_steady h short ..
    · exact spoils _
  · exact .refl s

/-- An overrun mark spoils a packet and leaves the receivers' FIFOs. -/
theorem Station.overrunGap_steady (r : Receiver) :
    s.Steady (s.overrunGap r).1 ∧ (s.overrunGap r).2.fifo = r.fifo ∧ (s.overrunGap r).1.receivers = s.receivers := by
  unfold Station.overrunGap
  split
  case h_1 | h_2 => exact ⟨.refl s, rfl, rfl⟩
  all_goals exact ⟨s.formatError_steady, rfl, rfl⟩

theorem Station.framerTake_steady (h : Head) : s.Steady (s.framerTake h) := by
  unfold Station.framerTake
  dsimp only
  split
  next => exact .refl s
  next => exact .refl s
  next front rest waits _ =>
    have short : rest.length ≤ max 64 (s.receivers.get h).fifo.length := by
      rw [waits, List.length_cons]
      omega
    split_ifs
    · obtain ⟨spoiled, fifo, receivers⟩ := s.overrunGap_steady { s.receivers.get h with fifo := rest }
      exact spoiled.trans (Station.frameSymbol_steady _ h (by rw [fifo, receivers]; exact short) _)
    · exact s.frameSymbol_steady h short _

theorem Station.symbolArrives_steady (h : Head) (x : Symbol) : s.Steady (s.symbolArrives h x) := by
  unfold Station.symbolArrives
  dsimp only
  split_ifs with _ room
  · exact .refl s
  · refine s.withReceiver_steady h ?_
    rw [List.length_append, List.length_singleton]
    exact le_max_of_le_left room
  · have marked : s.Steady (s.withReceiver h { s.receivers.get h with markArmed := true }) :=
      s.withReceiver_steady h (le_max_right _ _)
    exact (marked.trans (Station.Steady.inert (changes_headCounts _ _) rfl)).trans (Station.raise_steady _ _)

end Sys2Proof.Machine
end

section
/-! SUPPORT. What the operations of the transmit queue, the Record Builder, the Correlation Table and the Claim Engine keep (chapters
6, 7 and 9): each is steady in the sense of `Station.Steady`. -/

namespace Sys2Proof.Machine

variable (s : Station)

/-! ### The transmit queue -/

theorem Station.txRoom_iff : s.txRoom = true ↔ s.link.txQueue.length < 16 :=
  decide_eq_true_iff

/-- Another transmit queue, no longer than may be and with as many frames ON LINE. -/
theorem Station.txQueue_steady (l : List TxFrame) (short : l.length ≤ max 16 s.link.txQueue.length)
    (onLine : (l.filter (fun f => f.standing = Standing.onLine)).length = s.framesOnLine.length) :
    s.Steady { s with link := { s.link with txQueue := l } } :=
  .of_changes (changes_txQueue s l)
    (fun within b listed => by
      cases List.mem_singleton.mp listed
      exact short.trans (max_le (by decide) within.txQueue))
    (fun listed => absurd listed (by decide)) (fun _ => onLine)

/-- A frame that joins a queue with room is not ON LINE. -/
theorem Station.txPush_steady (b : Body) (room : s.txRoom = true) : s.Steady (s.txPush b) := by
  refine s.txQueue_steady _ ?_ ?_
  · have := s.txRoom_iff.mp room
    rw [List.length_append, List.length_singleton]
    omega
  · simp [Station.framesOnLine]

theorem Station.countAbandon_steady : s.Steady s.countAbandon := .inert s.countAbandon_changes rfl

theorem Station.offerNotice_steady (b : Body) : s.Steady (s.offerNotice b) := by
  unfold Station.offerNotice
  split_ifs with room
  · exact s.txPush_steady b room
  · exact s.countAbandon_steady.trans (Station.raise_steady _ _)

theorem Station.offerWithdraw_steady (k : Key) (t : Tally) (r : ItemRef) : s.Steady (s.offerWithdraw k t r) :=
  (Station.Steady.inert (changes_claimCounts s _) rfl).trans (Station.offerNotice_steady _ _)

theorem Station.offerAnnounce_steady : s.Steady s.offerAnnounce :=
  (s.offerNotice_steady _).trans (Station.Steady.inert (changes_announce _ _) rfl)

theorem Station.txRoom_of_placing (queued : s.placing = .queued) : s.txRoom = true := by
  unfold Station.placing at queued
  split_ifs at queued with room
  exact room

theorem Station.offerRecord_steady (b : Body) : s.Steady (s.offerRecord b) := by
  unfold Station.offerRecord
  split
  next queued => exact s.txPush_steady b (s.txRoom_of_placing queued)
  · exact .inert (changes_overflow s _) rfl
  · exact .inert (changes_recordCounts s _) rfl

theorem Station.buildRecord_steady (b : Body) : s.Steady (s.buildRecord b) := by
  unfold Station.buildRecord
  split_ifs
  · exact .refl s
  · exact s.offerRecord_steady b

theorem Station.offerDeposit_steady (i : Item) (g : Bool) : s.Steady (s.offerDeposit i g) := by
  unfold Station.offerDeposit
  split
  next queued => exact (s.txPush_steady _ (s.txRoom_of_placing queued)).trans (Station.removeItem_steady _ _ g)
  · exact (Station.Steady.inert (changes_overflow s _) rfl).trans (Station.modifyItem_steady _ _ _)
  · exact .refl s

theorem Station.removeDeposited_steady (b : Body) (g : Bool) : s.Steady (s.removeDeposited b g) := by
  unfold Station.removeDeposited
  split
  · split
    · split_ifs
      · exact s.removeItem_steady _ g
      · exact .refl s
    · exact .refl s
  · exact .refl s

theorem Station.moveOverflow_steady (restarting : Bool) : s.Steady (s.moveOverflow restarting) := by
  unfold Station.moveOverflow
  split
  next => exact .refl s
  next b _ =>
    split
    next room =>
      have moved : s.Steady (({ s with records := { s.records with overflow := none } }.txPush b).removeDeposited b !restarting) :=
        ((Station.Steady.inert (changes_overflow s none) rfl).trans (Station.txPush_steady _ b room)).trans
          (Station.removeDeposited_steady _ b _)
      dsimp only
      split
      next => exact moved
      next =>
        split
        · exact moved.trans (Station.offerDeposit_steady _ _ true)
        · exact moved
    next => exact .refl s

theorem Station.roomReport_steady (restarting : Bool) : s.Steady (s.roomReport restarting) := by
  unfold Station.roomReport
  dsimp only
  split_ifs
  · exact (s.moveOverflow_steady restarting).trans (Station.offerAnnounce_steady _)
  · exact s.moveOverflow_steady restarting

/-- A frame that waits taken out of the queue leaves the frames ON LINE. -/
theorem length_filter_onLine_eraseP {p : TxFrame → Bool} {f : TxFrame} {l : List TxFrame} (found : l.find? p = some f)
    (waits : f.standing ≠ .onLine) :
    ((l.eraseP p).filter (fun g => g.standing = Standing.onLine)).length =
      (l.filter (fun g => g.standing = Standing.onLine)).length := by
  induction l with
  | nil => rfl
  | cons g l ih =>
    by_cases here : p g = true
    · have same : g = f := by simpa [List.find?_cons, here] using found
      rw [List.eraseP_cons_of_pos here, List.filter_cons_of_neg (by simpa [same] using waits)]
    · rw [Bool.not_eq_true] at here
      rw [List.find?_cons, here] at found
      rw [List.eraseP_cons_of_neg (by simp [here]), List.filter_cons, List.filter_cons]
      split_ifs
      · rw [List.length_cons, List.length_cons, ih found]
      · exact ih found

theorem Station.takeBack_steady (r : ItemRef) (restarting : Bool) : s.Steady (s.takeBack r restarting) := by
  unfold Station.takeBack
  split
  next => exact .refl s
  next f found =>
    split_ifs with onLine
    · refine s.txQueue_steady _ (by simp) ?_
      rw [List.filter_map, List.length_map, Station.framesOnLine]
      congr 2
      funext g
      by_cases own : g.isClaimOf r = true <;> simp [own]
    · refine (s.txQueue_steady _ ?_ (length_filter_onLine_eraseP found onLine)).trans (Station.roomReport_steady _ restarting)
      exact le_max_of_le_right List.length_eraseP_le

/-! ### Entries inside their limits -/

theorem length_insertLimited_le {c : Claim} {l : List Claim} (short : l.length ≤ 6) : (insertLimited c l).1.length ≤ 6 := by
  have place (m : List Claim) : (insertClaim c m).length = m.length + 1 := (insertClaim_perm c m).length_eq
  rcases insertLimited_cases c l with ⟨room, same⟩ | ⟨_, _, same⟩ | ⟨_, _, same⟩ | ⟨_, x, listed, _, same⟩
  · rw [same]
    exact (place l).trans_le room
  · rwa [same]
  · rwa [same]
  · have pos := List.length_pos_of_mem listed
    rw [same, place, length_inClaimOrder, List.length_erase_of_mem listed]
    omega

namespace Entry

variable {e : Entry}

theorem Bounded.insert (h : e.Bounded) (c : Claim) : (e.insert c).1.Bounded :=
  ⟨h.committed, length_insertLimited_le h.pending, h.ownCommitted⟩

theorem length_removeClaims_le (p : Claim → Bool) (e : Entry) : (e.removeClaims p).pending.length ≤ e.pending.length :=
  (e.removeClaims_perm p).length_eq.trans_le (List.length_filter_le _ _)

theorem Bounded.removeClaims (h : e.Bounded) (p : Claim → Bool) : (e.removeClaims p).Bounded :=
  ⟨h.committed, (length_removeClaims_le p e).trans h.pending, h.ownCommitted⟩

theorem length_addRecord_le (e : Entry) (r : CommitRecord) : (e.addRecord r).ownCommitted.length ≤ 4 := by
  unfold Entry.addRecord Config.committedCapacity
  dsimp only
  rw [List.length_append, List.length_singleton]
  split_ifs with room
  · omega
  · rw [List.length_drop]
    omega

theorem Bounded.addRecord (h : e.Bounded) (r : CommitRecord) : (e.addRecord r).Bounded :=
  ⟨h.committed, h.pending, length_addRecord_le e r⟩

theorem Bounded.raiseCommitted (h : e.Bounded) {n : Nat} (byte : n ≤ 255) : ({ e with committed := max e.committed n }).Bounded :=
  ⟨max_le h.committed byte, h.pending, h.ownCommitted⟩

theorem Bounded.withHoldings (h : e.Bounded) (x : Holdings) : ({ e with holdings := x }).Bounded :=
  ⟨h.committed, h.pending, h.ownCommitted⟩

theorem Bounded.commitOwn (h : e.Bounded) (r : ItemRef) {n : Nat} (byte : n ≤ 255) (t : Tally) : (e.commitOwn r n t).Bounded :=
  ((h.raiseCommitted byte).removeClaims _).addRecord _

end Entry

theorem newEntry_bounded (k : Key) {n : Nat} (byte : n ≤ 255) (h : Holdings) : (newEntry k n h).Bounded :=
  ⟨byte, Nat.zero_le _, Nat.zero_le _⟩

theorem commitOrdinal_le (committed ahead : Nat) : commitOrdinal committed ahead ≤ 255 := Nat.min_le_left ..

/-! ### The table -/

/-- Other entries in the table, inside the limits where those before them were. -/
theorem Station.entries_steady (l : List Entry)
    (within : s.Bounded → l.length ≤ 4096 ∧ (l.map Entry.key).Nodup ∧ ∀ e ∈ l, e.Bounded) :
    s.Steady { s with table := { s.table with entries := l } } :=
  .of_block (changes_entries s l) (by decide) within

/-- Entries written in their places, each with its key. -/
theorem Station.mapEntries_steady (f : Entry → Entry) (keepsKey : ∀ e, (f e).key = e.key)
    (bounded : ∀ e : Entry, e.Bounded → (f e).Bounded) :
    s.Steady { s with table := { s.table with entries := s.table.entries.map f } } := by
  refine s.entries_steady _ fun within => ⟨?_, ?_, ?_⟩
  · rw [List.length_map]
    exact within.entries
  · rw [List.map_map, show Entry.key ∘ f = Entry.key from funext keepsKey]
    exact within.keys
  · intro e listed
    obtain ⟨a, there, rfl⟩ := List.mem_map.mp listed
    exact bounded a (within.entry a there)

theorem Station.modifyEntry_steady (k : Key) {f : Entry → Entry} (keepsKey : ∀ e, e.key = k → (f e).key = k)
    (bounded : ∀ e : Entry, e.Bounded → (f e).Bounded) : s.Steady (s.modifyEntry k f) := by
  refine s.mapEntries_steady _ (fun e => ?_) (fun e within => ?_)
  · by_cases own : e.key = k
    · rw [if_pos own, keepsKey e own, own]
    · rw [if_neg own]
  · split_ifs
    · exact bounded e within
    · exact within

/-- The element found first, moved to the end. -/
theorem eraseP_append_perm {α : Type} {p : α → Bool} {l : List α} {a : α} (found : l.find? p = some a) :
    (l.eraseP p ++ [a]).Perm l := by
  obtain ⟨holds, front, back, rfl, before⟩ := List.find?_eq_some_iff_append.mp found
  rw [List.eraseP_append_right _ (fun b listed => by simpa using before b listed), List.eraseP_cons_of_pos holds]
  exact (List.perm_append_singleton a _).trans List.perm_middle.symm

theorem Station.touch_steady (k : Key) : s.Steady (s.touch k) := by
  unfold Station.touch
  split
  next => exact .refl s
  next e found =>
    refine s.entries_steady _ fun within => ?_
    have moved : (s.table.entries.eraseP (fun x => x.key = k) ++ [e]).Perm s.table.entries :=
      eraseP_append_perm found
    exact ⟨moved.length_eq.trans_le within.entries, (moved.map Entry.key).nodup_iff.mpr within.keys,
      fun a listed => within.entry a (moved.mem_iff.mp listed)⟩

end Sys2Proof.Machine
end

section
/-! SUPPORT. What the operations of the Correlation Table and the Claim Engine keep (chapters 6 and 7), and those of the Consignment
Tracker (chapter 5): each is steady in the sense of `Station.Steady`. -/

namespace Sys2Proof.Machine

variable (s : Station)

/-! ### Writes and creation -/

theorem Station.writeEntry_steady (k : Key) {f : Entry → Entry} (keepsKey : ∀ e, e.key = k → (f e).key = k)
    (bounded : ∀ e : Entry, e.Bounded → (f e).Bounded) : s.Steady (s.writeEntry k f) :=
  (s.modifyEntry_steady k keepsKey bounded).trans (Station.touch_steady _ k)

theorem Station.removeOwnClaim_steady (k : Key) (r : ItemRef) : s.Steady (s.removeOwnClaim k r) :=
  s.writeEntry_steady k (fun _ own => own) fun _ within => within.removeClaims _

theorem Station.removeOwnClaims_steady : s.Steady s.removeOwnClaims :=
  s.mapEntries_steady _ (fun _ => rfl) fun _ within => within.removeClaims _

theorem Station.entry_eq_none_iff (k : Key) : s.entry k = none ↔ ∀ e ∈ s.table.entries, e.key ≠ k := by
  simp [Station.entry]

/-- A new entry joins a table with a free place, its key held by none. -/
theorem Station.addEntry_steady {e : Entry} (place : s.table.entries.length < 4096) (fresh : s.entry e.key = none)
    (within : e.Bounded) : s.Steady (s.addEntry e) := by
  refine s.entries_steady _ fun held => ⟨?_, ?_, ?_⟩
  · rwa [List.length_append, List.length_singleton]
  · rw [List.map_append, List.map_singleton, List.nodup_append']
    refine ⟨held.keys, List.nodup_singleton _, ?_⟩
    simpa using fun a listed => (s.entry_eq_none_iff e.key).mp fresh a listed
  · intro a listed
    rcases List.mem_append.mp listed with old | new
    · exact held.entry a old
    · exact List.mem_singleton.mp new ▸ within

/-- An eviction takes an entry out, and its reference off the roster. -/
theorem Station.evict_steady (e : Entry) : s.Steady (s.evict e) := by
  refine .of_changes (s.evict_changes e) (fun within b listed => ?_) (fun listed => absurd listed (by decide))
    (fun listed => absurd listed (by decide))
  rw [List.mem_cons, List.mem_cons, List.mem_singleton] at listed
  rcases listed with rfl | rfl | rfl
  · have fewer : (s.table.entries.eraseP (fun x => x.key = e.key)).Sublist s.table.entries := List.eraseP_sublist
    exact ⟨fewer.length_le.trans within.entries, within.keys.sublist (fewer.map _),
      fun a left => within.entry a (fewer.subset left)⟩
  · trivial
  · intro c opened
    obtain ⟨c', held, rfl⟩ := Option.map_eq_some_iff.mp opened
    exact (List.length_filter_le _ _).trans (within.roster c' held)

theorem Station.entry_evict (e : Entry) {k : Key} (fresh : s.entry k = none) : (s.evict e).entry k = none := by
  rw [Station.entry_eq_none_iff] at fresh ⊢
  exact fun a left => fresh a (List.mem_of_mem_eraseP left)

theorem Station.createEntry_steady {e : Entry} (fresh : s.entry e.key = none) (within : e.Bounded) :
    s.Steady (s.createEntry e).1 := by
  unfold Station.createEntry Config.tableCapacity
  split_ifs with place
  · exact s.addEntry_steady place fresh within
  · split
    next x chosen =>
      refine ⟨⟨fun held => ?_, fun f set => ?_⟩, ?_⟩
      · have there := List.mem_of_find?_eq_some chosen
        have free : (s.evict x).table.entries.length < 4096 := by
          have full : s.table.entries.length ≤ 4096 := held.entries
          have pos := List.length_pos_of_mem there
          have fewer : (s.table.entries.eraseP (fun a => a.key = x.key)).length = s.table.entries.length - 1 :=
            List.length_eraseP_of_mem there (by simp)
          rw [Station.evict_table_entries, fewer]
          omega
        exact ((s.evict_steady x).trans (Station.addEntry_steady _ free (s.entry_evict x fresh) within)).bounded held
      · exact set
      · rfl
    next =>
      exact (Station.Steady.inert (changes_tableCounts s _) rfl).trans (Station.raise_steady _ _)

theorem Station.ensureEntry_steady (k : Key) {n : Nat} (byte : n ≤ 255) (h : Holdings) : s.Steady (s.ensureEntry k n h).1 := by
  unfold Station.ensureEntry
  split
  · exact .refl s
  next fresh => exact s.createEntry_steady fresh (newEntry_bounded k byte h)

/-! ### Commits and their re-tests -/

theorem Station.countCommit_steady (r : Bool) : s.Steady (s.countCommit r) := .inert (s.countCommit_changes r) rfl

theorem Station.commitAs_steady (k : Key) (c : Claim) {n : Nat} (byte : n ≤ 255) (isRanked ranked holdingsUnconfirmed : Bool) :
    s.Steady (s.commitAs k c n isRanked ranked holdingsUnconfirmed) :=
  (((s.writeEntry_steady (f := Entry.commitOwn c.ref n c.tally) k (fun _ own => own) fun _ within =>
    within.commitOwn _ byte _).trans (Station.modifyItem_steady _ _ _)).trans (Station.countCommit_steady _ _)).trans (Station.offerNotice_steady _ _)

theorem Station.commitOrdinary_steady (k : Key) (e : Entry) (c : Claim) : s.Steady (s.commitOrdinary k e c) :=
  s.commitAs_steady k c (commitOrdinal_le _ _) ..

theorem Station.retest_steady (k : Key) : s.Steady (s.retest k) :=
  s.retest_keeps (P := s.Steady) (fun t e c held _ _ _ _ => held.trans (t.commitOrdinary_steady k e c)) (.refl s)

theorem Station.markOverfull_steady (k : Key) : s.Steady (s.markOverfull k) := by
  unfold Station.markOverfull
  split
  · exact .refl s
  · exact s.queue_steady _ (by simp)

theorem Station.report_steady (k : Key) (before : Option Entry) (overfullSet : Bool) : s.Steady (s.report k before overfullSet) := by
  unfold Station.report
  split
  · exact .refl s
  · split_ifs
    · exact (s.markOverfull_steady k).trans (Station.retest_steady _ k)
    · exact s.retest_steady k
    · exact .refl s

/-! ### Claims -/

theorem Station.countDropped_steady (dropped : Bool) : s.Steady (s.countDropped dropped) := .inert (s.countDropped_changes dropped) rfl

theorem Station.takeTally_steady : s.Steady s.takeTally := .inert s.takeTally_changes rfl

theorem Station.offerClaim_steady (r : ItemRef) (k : Key) (e : Entry) : s.Steady (s.offerClaim r k e) := by
  unfold Station.offerClaim
  dsimp only
  split
  next room =>
    have offered := s.takeTally_steady.trans (Station.txPush_steady _ (.claim k s.takeTally.claims.tally r e.committed
      (decide (e.holdings = .unknown))) room)
    refine ((offered.trans (Station.writeEntry_steady _ k ?_ ?_)).trans
      ((Station.countDropped_steady _ _).trans (Station.modifyItem_steady _ _ _))).trans (Station.report_steady _ _ _ _)
    · exact fun _ own => own
    · exact fun _ within => (within.insert _).withHoldings _
  next => exact s.takeTally_steady.trans (Station.modifyItem_steady _ _ _)

theorem Station.takeKey_steady (r : ItemRef) (k : Key) : s.Steady (s.takeKey r k) := by
  unfold Station.takeKey
  split
  next => exact .refl s
  next i _ =>
    have made := s.ensureEntry_steady k (Nat.zero_le 255) s.freshHoldings
    have touched := made.trans (Station.touch_steady _ k)
    dsimp only
    split_ifs
    · exact .refl s
    · exact .refl s
    · exact s.modifyItem_steady _ _
    · exact made.trans (Station.modifyItem_steady _ _ _)
    · split
      · exact touched
      · split_ifs
        · exact touched.trans (Station.modifyItem_steady _ _ _)
        · exact touched.trans (Station.offerClaim_steady _ _ _ _)

theorem Station.claimAbandoned_steady (k : Key) (r : ItemRef) : s.Steady (s.claimAbandoned k r) :=
  ((s.modifyItem_steady r _).trans (Station.removeOwnClaim_steady _ k r)).trans (Station.report_steady _ _ _ _)

theorem Station.settleExpires_steady (r : ItemRef) : s.Steady (s.settleExpires r) := by
  unfold Station.settleExpires
  split
  next => exact .refl s
  next =>
    split
    next =>
      split_ifs
      · split
        · exact s.modifyItem_steady _ _
        · split
          · split_ifs
            · exact (s.commitOrdinary_steady _ _ _).trans (Station.retest_steady _ _)
            · exact s.modifyItem_steady _ _
          · exact s.modifyItem_steady _ _
      · exact .refl s
    next => exact .refl s

theorem Station.finalizeWaiting_steady (i : Item) (k : Key) : s.Steady (s.finalizeWaiting i k) := by
  unfold Station.finalizeWaiting
  split
  · exact .refl s
  · split
    · exact .refl s
    · split_ifs
      · exact (s.commitOrdinary_steady _ _ _).trans (Station.retest_steady _ _)
      · exact (s.commitAs_steady _ _ (commitOrdinal_le _ _) ..).trans (Station.retest_steady _ _)

theorem Station.finalizeItem_steady (r : ItemRef) : s.Steady (s.finalizeItem r) := by
  unfold Station.finalizeItem
  split
  · exact .refl s
  · split
    · exact s.finalizeWaiting_steady _ _
    · exact (((s.modifyItem_steady r _).trans (Station.removeOwnClaim_steady _ _ r)).trans
        (Station.takeBack_steady _ r false)).trans (Station.report_steady _ _ _ _)
    · exact (((s.modifyItem_steady r _).trans (Station.removeOwnClaim_steady _ _ r)).trans
        (Station.offerWithdraw_steady _ _ _ r)).trans (Station.report_steady _ _ _ _)
    · exact .refl s

theorem Station.handCorrection_steady (c : Correction) : s.Steady (s.handCorrection c) :=
  (Station.Steady.inert (changes_claimCounts s _) rfl).trans (Station.buildRecord_steady _ _)

theorem Station.clashTest_steady (k : Key) (t : Tally) (n : Nat) (r : ItemRef) (o : Nat) : s.Steady (s.clashTest k t n r o) := by
  unfold Station.clashTest
  split
  · exact .refl s
  · refine Station.Steady.foldl (fun u record => ?_) _ s
    unfold Station.clashTestOne
    split_ifs
    · exact (u.handCorrection_steady _).trans (Station.raise_steady _ _)
    · exact .refl u

theorem Station.lateHoldings_steady (k : Key) (count n : Nat) (t : Tally) : s.Steady (s.lateHoldings k count n t) := by
  unfold Station.lateHoldings
  split_ifs
  · split
    · exact .refl s
    · split
      · exact .refl s
      · split_ifs
        · exact s.handCorrection_steady _
        · exact .refl s
  · exact .refl s

/-! ### Merges -/

/-- The entry of a key written over. -/
theorem Station.putEntry_steady (k : Key) {e : Entry} (own : e.key = k) (within : s.Bounded → e.Bounded) :
    s.Steady (s.writeEntry k fun _ => e) := by
  refine Station.Steady.trans (s.entries_steady _ fun held => ⟨?_, ?_, ?_⟩) (Station.touch_steady _ k)
  · rw [List.length_map]
    exact held.entries
  · rw [List.map_map, List.map_congr_left (g := Entry.key)]
    · exact held.keys
    · intro a _
      dsimp only [Function.comp]
      split_ifs with same
      · exact own.trans same.symm
      · rfl
  · intro a listed
    obtain ⟨b, there, rfl⟩ := List.mem_map.mp listed
    dsimp only
    split_ifs
    · exact within held
    · exact held.entry b there

theorem Station.countMerge_steady : s.Steady s.countMerge := .inert s.countMerge_changes rfl

theorem Station.mergeClaim_steady (k : Key) (t : Tally) (n : Nat) (r : ItemRef) {known : Nat} (byte : known ≤ 255)
    (wanted : Bool) : s.Steady (s.mergeClaim k t n r known wanted) := by
  unfold Station.mergeClaim
  have made := s.ensureEntry_steady k (Nat.zero_le 255) s.freshHoldings
  dsimp only
  split
  next => exact made
  next =>
    split
    next => exact made
    next e found =>
      refine (made.trans ?_).trans (Station.report_steady _ _ _ _)
      refine (Station.Steady.trans ?_ (Station.countDropped_steady _ _)).trans (Station.countMerge_steady _)
      refine Station.putEntry_steady _ k ?_ fun held => ?_
      · have own : e.key = k := Station.entry_key _ found
        split_ifs <;> exact own
      · have within : e.Bounded := held.entry e (List.mem_of_find?_eq_some found)
        have taken : ∀ ins : Entry × Bool, ins.1.Bounded → ∀ x : Holdings,
            ({ ins.1 with holdings := x, committed := max e.committed known }).Bounded := fun ins inside x =>
          ⟨max_le within.committed byte, inside.pending, inside.ownCommitted⟩
        refine taken _ ?_ _
        split_ifs
        · exact within
        · exact within.insert _

theorem Station.mergeCommit_steady (k : Key) (t : Tally) (n : Nat) (r : ItemRef) {o : Nat} (byte : o ≤ 255) :
    s.Steady (s.mergeCommit k t n r o) := by
  unfold Station.mergeCommit
  have made := s.ensureEntry_steady k byte s.freshHoldings
  dsimp only
  split
  · exact made
  · refine (((made.trans (Station.writeEntry_steady _ k ?_ ?_)).trans (Station.countMerge_steady _)).trans
      (Station.clashTest_steady _ ..)).trans (Station.report_steady _ ..)
    · exact fun _ own => own
    · exact fun _ within => (within.removeClaims _).raiseCommitted byte

theorem Station.mergeWithdraw_steady (k : Key) (n : Nat) (r : ItemRef) : s.Steady (s.mergeWithdraw k n r) := by
  unfold Station.mergeWithdraw
  split
  · exact .refl s
  · refine ((s.writeEntry_steady k ?_ ?_).trans (Station.countMerge_steady _)).trans (Station.report_steady _ ..)
    · exact fun _ own => own
    · exact fun _ within => within.removeClaims _

theorem Station.mergeHoldings_steady (k : Key) {count : Nat} (byte : count ≤ 255) (n : Nat) (t : Tally) :
    s.Steady (s.mergeHoldings k count n t) := by
  unfold Station.mergeHoldings
  have made := s.ensureEntry_steady k byte .known
  dsimp only
  split
  · exact made
  · refine (((made.trans (Station.writeEntry_steady _ k ?_ ?_)).trans (Station.countMerge_steady _)).trans
      (Station.lateHoldings_steady _ ..)).trans (Station.report_steady _ ..)
    · exact fun _ own => own
    · exact fun _ within => (within.raiseCommitted byte).withHoldings _

/-! ### Expiry, lapse and the clock -/

theorem Station.claimExpires_steady (k : Key) (n : Nat) (r : ItemRef) : s.Steady (s.claimExpires k n r) := by
  unfold Station.claimExpires
  split
  · exact .refl s
  · split_ifs
    · refine ((s.modifyEntry_steady k ?_ ?_).trans (.inert (changes_tableCounts _ _) rfl)).trans (Station.report_steady _ ..)
      · exact fun _ own => own
      · exact fun _ within => within.removeClaims _
    · exact .refl s

theorem Station.requestLapses_steady (k : Key) : s.Steady (s.requestLapses k) := by
  unfold Station.requestLapses
  split
  · exact .refl s
  · split
    · split_ifs
      · exact .refl s
      · exact s.modifyEntry_steady k (fun _ own => own) fun _ within => within.withHoldings _
    · exact .refl s

theorem Entry.noteAge_key (n : Nat) (now : Millis) (e : Entry) : (e.noteAge n now).key = e.key := by
  unfold Entry.noteAge
  split <;> rfl

theorem Entry.Bounded.noteAge {e : Entry} (h : e.Bounded) (n : Nat) (now : Millis) : (e.noteAge n now).Bounded := by
  unfold Entry.noteAge
  split
  · exact h.withHoldings _
  · exact h

theorem Station.tick_steady : s.Steady s.tick := by
  have noted := s.mapEntries_steady (Entry.noteAge s.cfg.claimLifetime (s.clock + 1)) (Entry.noteAge_key _ _)
    fun _ within => within.noteAge _ _
  refine .of_changes s.tick_changes (fun within b listed => ?_) (fun listed => absurd listed (by decide))
    (fun listed => absurd listed (by decide))
  rw [List.mem_cons, List.mem_singleton] at listed
  rcases listed with rfl | rfl
  · trivial
  · exact (Station.bounded_iff _).mp (noted.bounded within) .entries

/-! ### Every claim at once -/

theorem Station.restartClaim_steady (i : Item) : s.Steady (s.restartClaim i) := by
  unfold Station.restartClaim
  split
  · exact s.takeBack_steady _ _
  · exact s.offerWithdraw_steady _ _ _
  · exact s.offerWithdraw_steady _ _ _
  · exact .refl s

theorem Station.markAllUnconfirmed_steady : s.Steady s.markAllUnconfirmed := s.queue_steady _ (by simp)

theorem Station.adopt_steady (t : Tally) : s.Steady (s.adopt t) := .inert (s.adopt_changes t) rfl

theorem Station.countUnusable_steady : s.Steady s.countUnusable := .inert s.countUnusable_changes rfl

end Sys2Proof.Machine
end

section
/-! SUPPORT. What the operations of the Consignment Tracker, the Measurement Unit and the Lane Tracker keep (chapters 1, 4 and 5): each
is steady in the sense of `Station.Steady`. -/

namespace Sys2Proof.Machine

variable (s : Station)

/-! ### Contexts -/

theorem Station.modifyContext_steady {f : Consignment → Consignment}
    (short : ∀ c : Consignment, c.roster.length ≤ 64 → (f c).roster.length ≤ 64) : s.Steady (s.modifyContext f) := by
  refine .of_block (s.modifyContext_changes f) (by decide) fun within c opened => ?_
  obtain ⟨c', held, rfl⟩ := Option.map_eq_some_iff.mp opened
  exact short c' (within.roster c' held)

theorem Station.markItem_steady (r : ItemRef) (m : TrackerMark) : s.Steady (s.markItem r m) := s.modifyItem_steady r _

theorem Station.closeContext_steady (cause : EndCause) : s.Steady (s.closeContext cause) := by
  unfold Station.closeContext
  split
  · exact .refl s
  · have closed : s.Steady { s with tracker := { s.tracker with context := none } } :=
      .of_block (changes_context s none) (by decide) fun _ _ opened => by simp at opened
    exact closed.trans (Station.buildRecord_steady _ _)

theorem Station.openContext_steady (x : Slip) : s.Steady (s.openContext x) :=
  .of_block (s.openContext_changes x) (by decide) fun _ c opened => by
    cases opened
    exact Nat.zero_le 64

theorem Station.takeSlip_steady (x : Slip) : s.Steady (s.takeSlip x) := by
  unfold Station.takeSlip
  split
  · exact s.openContext_steady x
  · exact (s.closeContext_steady _).trans (Station.openContext_steady _ x)

/-! ### Matching -/

theorem Station.commitProvisional_steady (r : ItemRef) (k : Key) : s.Steady (s.commitProvisional r k) := by
  unfold Station.commitProvisional
  split
  · exact .refl s
  · refine (s.writeEntry_steady k ?_ ?_).trans (Station.modifyItem_steady _ _ _)
    · exact fun _ own => own
    · exact fun _ within => within.raiseCommitted (commitOrdinal_le _ _)

theorem Station.countTracker_steady (a b : Count) :
    s.Steady { s with tracker := { s.tracker with matches_ := a, issued := b } } := .inert (changes_trackerCounts s a b) rfl

/-- An index below 4095 that the search finds is one whose key the table does not hold. -/
theorem Station.freeIndex_fresh (number : Nat) {n i : Nat} (fuel : 4095 ≤ n + i) (below : s.freeIndex number n i < 4095) :
    s.entry (provisionalKey number (s.freeIndex number n i)) = none := by
  induction n generalizing i with
  | zero =>
    rw [Station.freeIndex] at below
    omega
  | succ n ih =>
    rw [Station.freeIndex, Config.lastProvisionalIndex] at below ⊢
    split_ifs at below ⊢ with last held
    · omega
    · exact ih (by omega) below
    · simpa using held

theorem length_addToRoster_le (k : Key) (l : List Key) : (addToRoster k l).length ≤ 64 := by
  unfold addToRoster Config.rosterCapacity
  rw [List.length_append, List.length_singleton]
  split_ifs
  · omega
  · rw [List.length_drop]
    omega

theorem Station.issueProvisional_steady (r : ItemRef) (n : Nat) (p : Stored) (c : Consignment) :
    s.Steady (s.issueProvisional r n p c) := by
  unfold Station.issueProvisional
  dsimp only
  have kept (f : Consignment → Consignment) (same : ∀ c, (f c).roster = c.roster) : s.Steady (s.modifyContext f) :=
    s.modifyContext_steady fun c short => by rwa [same]
  split
  · refine (kept _ ?_).trans (Station.markItem_steady _ _ _)
    exact fun _ => rfl
  next more =>
    have within : ({ newEntry (provisionalKey n (s.freeIndex n (Config.lastProvisionalIndex + 1) c.nextIndex)) 0 .known with
        stored := some p }).Bounded :=
      ⟨Nat.zero_le _, Nat.zero_le _, Nat.zero_le _⟩
    have fresh := s.freeIndex_fresh n (show 4095 ≤ Config.lastProvisionalIndex + 1 + c.nextIndex by
      rw [Config.lastProvisionalIndex]; omega) (not_le.mp more)
    have made := (kept (fun x => { x with nextIndex := s.freeIndex n (Config.lastProvisionalIndex + 1) c.nextIndex })
      fun _ => rfl).trans (Station.createEntry_steady _
        fresh within)
    split
    · exact made.trans (Station.markItem_steady _ _ _)
    · refine ((made.trans (Station.modifyContext_steady _ ?_)).trans (Station.modifyItem_steady _ _ _)).trans
        ((Station.countTracker_steady _ _ _).trans (Station.commitProvisional_steady _ _ _))
      exact fun _ _ => length_addToRoster_le _ _

theorem Station.matchRoster_steady (i : Item) (g : Nat) (c : Consignment) : s.Steady (s.matchRoster i g c) := by
  unfold Station.matchRoster
  split
  · exact ((s.modifyItem_steady _ _).trans (Station.touch_steady _ _)).trans
      ((Station.countTracker_steady _ _ _).trans (Station.commitProvisional_steady _ _ _))
  · exact s.issueProvisional_steady _ _ _ c

theorem Station.runMatching_steady (r : ItemRef) : s.Steady (s.runMatching r) := by
  unfold Station.runMatching
  have ended := s.modifyItem_steady r fun x => { x with matching := false }
  have marked (m : TrackerMark) := ended.trans (Station.markItem_steady _ r m)
  split
  · exact .refl s
  · dsimp only
    split
    · exact ended
    · split
      · exact marked _
      · split
        · exact marked _
        · split
          · exact marked _
          · split
            · exact ended
            · split
              · exact marked _
              · exact ended.trans (Station.matchRoster_steady _ _ _ _)

theorem Station.takeIntoMatching_steady (r : ItemRef) : s.Steady (s.takeIntoMatching r) := by
  unfold Station.takeIntoMatching
  split
  · exact .refl s
  · split_ifs
    · exact s.runMatching_steady r
    · exact s.modifyItem_steady r _

theorem Station.weightArrives_steady (r : ItemRef) : s.Steady (s.weightArrives r) := by
  unfold Station.weightArrives
  split
  · exact .refl s
  · split_ifs
    · exact s.runMatching_steady r
    · exact .refl s

theorem Station.stampItem_steady (r : ItemRef) (unidentified : Bool) : s.Steady (s.stampItem r unidentified) := by
  unfold Station.stampItem
  split
  · split_ifs
    · exact s.markItem_steady r _
    · exact .refl s
  next c _ =>
    dsimp only
    have stamped := (s.modifyItem_steady r fun i => { i with consignment := some c.number }).trans
      (Station.modifyContext_steady _ (f := fun x =>
        { x with counted := saturate16 c.counted, members := x.members ++ [r] }) fun _ short => short)
    have matched := stamped.trans (Station.takeIntoMatching_steady _ r)
    split_ifs
    · exact matched.trans (Station.closeContext_steady _ _)
    · exact stamped.trans (Station.closeContext_steady _ _)
    · exact matched
    · exact stamped

/-! ### Weighing -/

theorem Station.countMeasure_steady (f : MeasureCounts → MeasureCounts) : s.Steady (s.countMeasure f) :=
  .inert (s.countMeasure_changes f) rfl

theorem Station.calibration_steady (c : Calibration) : s.Steady { s with measurement := { s.measurement with calibration := c } } :=
  .inert (changes_calibration s c) rfl

theorem Station.storeSamples_steady (r : ItemRef) (xs : List Int) (g : Bool) : s.Steady (s.storeSamples r xs g) := by
  refine (s.modifyBuffer_steady r fun b _ => ?_).trans (Station.modifyItem_steady _ _ _)
  simp only [SampleBuffer.append, Config.bufferCapacity, List.length_drop]
  omega

theorem Station.refuseBuffer_steady (r : ItemRef) : s.Steady (s.refuseBuffer r) :=
  (s.modifyItem_steady r _).trans (Station.countMeasure_steady _ _)

/-- A buffer taken for an item is an empty one. -/
theorem Station.takeBuffer_steady {r : ItemRef} {m : Measurement} (taken : s.measurement.takeBuffer r = some m) :
    s.Steady { s with measurement := m } := by
  unfold Measurement.takeBuffer at taken
  split_ifs at taken <;> cases taken
  · exact .of_block (b := .buffers) (changes_buffers s (by simp)) (by decide) fun within =>
      ⟨Nat.zero_le 64, within.samplesB⟩
  · exact .of_block (b := .buffers) (changes_buffers s (by simp)) (by decide) fun within =>
      ⟨within.samplesA, Nat.zero_le 64⟩

theorem Station.scalePacket_steady (i : Item) (xs : List Int) (g : Bool) : s.Steady (s.scalePacket i xs g) := by
  unfold Station.scalePacket
  split
  · exact s.refuseBuffer_steady _
  · split
    · exact s.storeSamples_steady _ _ _
    · split
      next taken => exact (s.takeBuffer_steady taken).trans (Station.storeSamples_steady _ _ _ _)
      · exact s.refuseBuffer_steady _

theorem Station.scaleWindowOpens_steady (r : ItemRef) : s.Steady (s.scaleWindowOpens r) := by
  unfold Station.scaleWindowOpens
  split
  · exact (s.calibration_steady _).trans (Station.modifyItem_steady _ _ _)
  · exact .refl s

/-- A calibration's end is of its own record, its factor and two flags. -/
theorem Station.endCalibration_steady (r : ItemRef) (n : Option Int) : s.Steady (s.endCalibration r n) := by
  have ended (c : Calibration) (f : Nat) :
      s.Steady { s with measurement := { s.measurement with calibration := c, factor := f } } :=
    .inert (bs := [.calibration, .factor]) (fun b apart => by
      cases b
      case calibration | factor => exact absurd (by decide) apart
      all_goals simp [Block.same]) rfl
  unfold Station.endCalibration
  split
  next =>
    split
    · dsimp only
      generalize newFactor _ _ n = set
      cases set with
      | some f => exact (ended _ f).trans (Station.raise_steady _ _)
      | none => exact (s.calibration_steady _).trans (Station.raise_steady _ _)
    · exact .refl s
  next => exact .refl s

theorem Station.weightOutcome_steady (r : ItemRef) (w : WeightRecord) (n : Option Int) : s.Steady (s.weightOutcome r w n) :=
  (((s.modifyItem_steady r _).trans (Station.freeBuffer_steady _ r)).trans (Station.weightArrives_steady _ r)).trans
    (Station.endCalibration_steady _ r n)

theorem Station.startComputation_steady (r : ItemRef) (c : Computation) : s.Steady (s.startComputation r c) :=
  s.modifyBuffer_steady r fun _ short => short

theorem Station.scaleClose_steady (r : ItemRef) : s.Steady (s.scaleClose r) := by
  unfold Station.scaleClose
  split
  · exact .refl s
  · split_ifs
    · exact s.weightOutcome_steady ..
    · exact s.weightOutcome_steady ..
    · split
      · exact s.weightOutcome_steady ..
      · split_ifs
        · exact (s.countMeasure_steady _).trans (Station.weightOutcome_steady ..)
        · split
          · exact s.weightOutcome_steady ..
          · exact s.startComputation_steady r _

theorem Station.lateScaleClose_steady (r : ItemRef) : s.Steady (s.lateScaleClose r) := by
  unfold Station.lateScaleClose
  split
  · exact .refl s
  · exact s.weightOutcome_steady ..

theorem Station.weightCompletes_steady (r : ItemRef) : s.Steady (s.weightCompletes r) := by
  unfold Station.weightCompletes
  split
  · exact .refl s
  · split
    · exact .refl s
    · exact s.weightOutcome_steady ..

theorem tareStep_run_le {limit : Nat} {t : Option Int} {run : Nat} {m : Int} (few : run ≤ 3) : (tareStep limit t run m).run ≤ 3 := by
  unfold tareStep
  split
  · exact few
  · split_ifs <;> dsimp only <;> omega

theorem Station.emptyPacket_steady (xs : List Int) : s.Steady (s.emptyPacket xs) := by
  unfold Station.emptyPacket
  split_ifs
  · exact .refl s
  · dsimp only
    set t := tareStep s.cfg.tareLimit s.measurement.tare s.measurement.rejectedRun (roundedMean xs) with step
    have set : s.Steady { s with measurement := { s.measurement with tare := some t.tare, rejectedRun := t.run } } := by
      refine .of_block (b := .tare) (fun b apart => ?_) (by decide) fun within => step ▸ tareStep_run_le within.rejectedRun
      cases b
      case tare => exact absurd (by decide) apart
      all_goals simp [Block.same]
    have counted := set.trans (Station.countMeasure_steady _ fun c => { c with tareRezeros := c.tareRezeros + 1 })
    split_ifs
    · exact counted.trans (Station.raise_steady _ _)
    · exact set.trans (Station.raise_steady _ _)
    · exact counted
    · exact set

theorem Station.calibrateRequest_steady (g : Nat) : s.Steady (s.calibrateRequest g) := by
  unfold Station.calibrateRequest
  split
  · exact s.raise_steady _
  · split_ifs
    · exact s.raise_steady _
    · exact s.calibration_steady _

/-! ### Identifier closes and edges -/

theorem Station.identifierClose_steady (r : ItemRef) (late : Bool) : s.Steady (s.identifierClose r late) := by
  unfold Station.identifierClose
  have written (o : IdOutcome) (k : Option Key) (m : Bool) : s.Steady (s.writeOutcome r o k m) := s.modifyItem_steady r _
  split
  · exact .refl s
  · split
    · exact (written _ _ _).trans (Station.stampItem_steady _ _ _)
    · split
      · exact ((written _ _ _).trans (Station.stampItem_steady _ _ _)).trans (Station.takeKey_steady _ _ _)
      · exact (written _ _ _).trans (Station.takeSlip_steady _ _)
      · exact (written _ _ _).trans (Station.stampItem_steady _ _ _)
      · exact ((written _ _ _).trans (.inert (changes_keyCounts _ _) rfl)).trans (Station.stampItem_steady _ _ _)

theorem Station.countLane_steady (f : LaneCounts → LaneCounts) : s.Steady (s.countLane f) := .inert (s.countLane_changes f) rfl

/-- A new item joins a queue with a free place. -/
theorem Station.createItem_steady (place : s.lane.queue.length < 8) : s.Steady s.createItem := by
  unfold Station.createItem
  dsimp only
  have made : s.Steady { s with lane := { s.lane with
      queue := s.lane.queue ++ [newItem s.cfg s.lane.nextRef s.lane.pos], nextRef := s.lane.nextRef + 1
      sensorOwner := some s.lane.nextRef } } := by
    refine .of_changes (bs := [.items, .nextRef, .sensorOwner]) (fun b apart => ?_) (fun _ b listed => ?_)
      (fun listed => absurd listed (by decide)) (fun listed => absurd listed (by decide))
    · cases b
      case items | nextRef | sensorOwner => exact absurd (by decide) apart
      all_goals simp [Block.same]
    · rw [List.mem_cons, List.mem_cons, List.mem_singleton] at listed
      rcases listed with rfl | rfl | rfl
      · dsimp only [Block.Bounded]
        rw [List.length_append, List.length_singleton]
        exact place
      · trivial
      · trivial
  split_ifs
  · exact made.trans (Station.scaleWindowOpens_steady _ _)
  · exact made

theorem Station.leadingEdge_steady : s.Steady s.leadingEdge := by
  unfold Station.leadingEdge
  split_ifs with _ place
  · exact .refl s
  · exact s.createItem_steady place
  · exact (s.countLane_steady _).trans (Station.raise_steady _ _)

theorem Station.sensorOwner_steady (o : Option ItemRef) : s.Steady { s with lane := { s.lane with sensorOwner := o } } :=
  .inert (changes_sensorOwner s o) rfl

theorem Station.trailingEdge_steady : s.Steady s.trailingEdge := by
  have given (i : Item) (t : Station) : t.Steady (t.trailingEdgeOf i) := by
    unfold Station.trailingEdgeOf
    split
    · split_ifs
      · exact (t.removeItem_steady _ _).trans (Station.countLane_steady _ _)
      · exact t.modifyItem_steady _ _
    · exact t.modifyItem_steady _ _
    · exact t.modifyItem_steady _ _
    · exact .refl t
    · exact .refl t
  unfold Station.trailingEdge
  split_ifs
  · exact .refl s
  · split
    · exact .refl s
    · dsimp only
      split
      · exact s.sensorOwner_steady none
      · exact (s.sensorOwner_steady none).trans (given _ _)

theorem Station.overlongCloseOff_steady : s.Steady s.overlongCloseOff := by
  unfold Station.overlongCloseOff
  split
  · exact .refl s
  · split
    · exact .refl s
    · split_ifs
      · exact (s.sensorOwner_steady none).trans (Station.modifyItem_steady _ _ _)
      · exact .refl s

/-! ### Windows and packets -/

theorem Station.windowOpens_steady (r : ItemRef) (h : Head) : s.Steady (s.windowOpens r h) := by
  unfold Station.windowOpens
  split
  · exact .refl s
  · have opened := s.modifyItem_steady r fun x => { x with windows := x.windows.set h .opened }
    dsimp only
    split_ifs
    · split
      · exact opened.trans (Station.scaleWindowOpens_steady _ r)
      all_goals exact opened
    · exact .refl s

theorem Station.deliverClose_steady (i : Item) (h : Head) : s.Steady (s.deliverClose i h) := by
  unfold Station.deliverClose
  split
  · split_ifs
    · exact s.identifierClose_steady _ _
    · exact .refl s
  · split_ifs
    · exact s.identifierClose_steady _ _
    · exact .refl s
  · exact s.scaleClose_steady _
  · exact s.modifyItem_steady _ _

theorem Station.windowCloses_steady (r : ItemRef) (h : Head) : s.Steady (s.windowCloses r h) := by
  unfold Station.windowCloses
  split
  · exact .refl s
  · split
    · exact .refl s
    · split_ifs
      · exact (s.modifyItem_steady r _).trans (Station.deliverClose_steady _ _ h)
      · exact .refl s

theorem Station.givePacket_steady (i : Item) (h : Head) (p : Packet) : s.Steady (s.givePacket i h p) := by
  have read : s.Steady (s.identifierPacket i h p) := by
    unfold Station.identifierPacket
    dsimp only
    have stored := s.modifyItem_steady i.ref
      (Item.storeReading h { subtype := p.second, symbols := p.symbols, verdict := verdictOf p.second p.symbols })
    split_ifs
    · exact stored.trans (.inert (changes_keyCounts _ _) rfl)
    · exact stored
  unfold Station.givePacket
  split
  · exact read
  · exact read
  · exact s.scalePacket_steady i _ _
  · exact s.modifyItem_steady _ _

theorem Station.strayPacket_steady (h : Head) (p : Packet) : s.Steady (s.strayPacket h p) := by
  unfold Station.strayPacket
  split
  · exact s.emptyPacket_steady _
  all_goals exact s.countLane_steady _

theorem Station.crowdedPacket_steady (h : Head) (p : Packet) : s.Steady (s.crowdedPacket h p) :=
  (s.queue_steady (s.lane.queue.map (Item.crowdBy s.cfg h p.stamp)) (by simp)).trans (Station.countLane_steady _ _)

/-- The station with a line's framer back in HUNT. -/
def Station.hunting (h : Head) (s : Station) : Station :=
  s.withReceiver h { s.receivers.get h with framer := .hunt .zero }

/-- The items whose window of a head holds a packet's stamp. -/
def Station.holders (h : Head) (p : Packet) (s : Station) : List Item := s.lane.queue.filter (fun i => i.windowHolds s.cfg h p.stamp)

/-- The hand-over of a packet goes by the number of windows that hold its stamp (R12 to R14). -/
theorem Station.handsOver_of_packet {h : Head} {p : Packet} (holds : (s.receivers.get h).framer = .handOver p) :
    s.handsOver h = match (s.hunting h).holders h p with
      | [] => (s.hunting h).strayPacket h p
      | [i] => if i.windows.get h = .forceClosed then (s.hunting h).countStray else (s.hunting h).givePacket i h p
      | _ => (s.hunting h).crowdedPacket h p := by
  rw [Station.handsOver, holds]
  rfl

theorem Station.handsOver_of_idle {h : Head} (idle : ∀ p, (s.receivers.get h).framer ≠ .handOver p) : s.handsOver h = s := by
  unfold Station.handsOver
  split
  next p holds => exact absurd holds (idle p)
  all_goals rfl

theorem Station.handsOver_steady (h : Head) : s.Steady (s.handsOver h) := by
  by_cases idle : ∀ p, (s.receivers.get h).framer ≠ .handOver p
  · rw [s.handsOver_of_idle idle]
    exact .refl s
  obtain ⟨p, holds⟩ := not_forall_not.mp idle
  have hunts : s.Steady (s.hunting h) := s.withReceiver_steady h (le_max_right _ _)
  rw [s.handsOver_of_packet holds]
  split
  · exact hunts.trans (Station.strayPacket_steady _ h p)
  · split_ifs
    · exact hunts.trans (Station.countLane_steady _ _)
    · exact hunts.trans (Station.givePacket_steady _ _ h p)
  · exact hunts.trans (Station.crowdedPacket_steady _ h p)

/-! ### Decision, divert and departure -/

theorem Consignment.classify_roster (r : ItemRef) (cl : ItemClass) (c : Consignment) : (c.classify r cl).roster = c.roster := by
  unfold Consignment.classify
  split_ifs
  · cases cl <;> rfl
  · rfl

theorem Station.fixChute_steady (r : ItemRef) : s.Steady (s.fixChute r) := by
  unfold Station.fixChute
  split
  next => exact .refl s
  next i _ =>
    dsimp only
    have written := s.modifyItem_steady r fun x => { x with chute := some (i.fixedChute s.cfg.chuteMap), review := i.reviewReason }
    split
    next cl _ =>
      have classified := written.trans (Station.modifyContext_steady _ (f := Consignment.classify r cl) fun c short => by
        rwa [c.classify_roster])
      exact classified.trans (.inert (Station.countDisposed_changes _ _) rfl)
    next => exact written.trans (.inert (Station.countDisposed_changes _ _) rfl)

theorem Station.lateCloses_steady (i : Item) : s.Steady (s.lateCloses i) := by
  unfold Station.lateCloses
  have forced := s.modifyItem_steady i.ref fun x => { x with lateReadings := true, windows := x.windows.map forceOpen }
  have read := forced.trans (Station.identifierClose_steady _ i.ref true)
  dsimp only
  split_ifs
  · exact (read.trans (Station.lateScaleClose_steady _ _)).trans (Station.modifyItem_steady _ _ _)
  · exact (forced.trans (Station.lateScaleClose_steady _ _)).trans (Station.modifyItem_steady _ _ _)
  · exact read.trans (Station.modifyItem_steady _ _ _)
  · exact forced.trans (Station.modifyItem_steady _ _ _)
  · exact read.trans (Station.lateScaleClose_steady _ _)
  · exact forced.trans (Station.lateScaleClose_steady _ _)
  · exact read
  · exact forced

theorem Station.decisionDue_steady (r : ItemRef) : s.Steady (s.decisionDue r) := by
  unfold Station.decisionDue
  split
  · exact .refl s
  next i _ =>
    have rest (t : Station) : t.Steady ((((t.finalizeItem r).endWait r).fixChute r).modifyItem r fun x =>
        { x with lane := .decided }) :=
      (((t.finalizeItem_steady r).trans (Station.modifyItem_steady _ r _)).trans (Station.fixChute_steady _ r)).trans
        (Station.modifyItem_steady _ r _)
    dsimp only
    split_ifs
    · exact rest s
    · exact (s.lateCloses_steady i).trans (rest _)
    · exact .refl s

theorem Station.diverter_steady (c : Chute) (o : Option ItemRef) :
    s.Steady { s with lane := { s.lane with diverterChute := c, diverterHolder := o } } := .inert (changes_diverter s c o) rfl

theorem Station.divertPoint_steady (r : ItemRef) : s.Steady (s.divertPoint r) := by
  have checked (i : Item) : s.Steady (s.checkHolder i) := by
    unfold Station.checkHolder
    split
    · exact .refl s
    · exact s.modifyItem_steady _ _
  unfold Station.divertPoint
  split
  · exact .refl s
  · split_ifs
    · exact ((checked _).trans (Station.modifyItem_steady _ r _)).trans (Station.diverter_steady _ _ _)
    · exact .refl s

theorem Station.departs_steady (r : ItemRef) : s.Steady (s.departs r) := by
  have released (t : Station) : t.Steady (t.releaseDiverter r) := by
    unfold Station.releaseDiverter
    split_ifs
    · exact t.diverter_steady _ _
    · exact .refl t
  have disposed (i : Item) (t : Station) : t.Steady (t.disposeDeparted i) := by
    unfold Station.disposeDeparted
    split_ifs
    · exact t.removeItem_steady _ _
    · exact t.offerDeposit_steady _ _
  unfold Station.departs
  split
  · exact .refl s
  · split
    · exact .refl s
    · split_ifs
      · exact ((s.modifyItem_steady r _).trans (released _)).trans (disposed _ _)
      · exact .refl s

end Sys2Proof.Machine
end

section
/-! SUPPORT. What the operations of the Start-up Controller and the Link Controller keep (chapters 8 and 10), the commands one by one,
and the statements on the capacities, the sticky flags and the line with its queue. -/

namespace Sys2Proof.Machine

variable (s : Station)

/-! ### Start-up, receptions and deliveries -/

theorem Station.configRead_steady (block : ConfigBlock) : s.Steady (s.configRead block) := by
  have taken (c : Settings) : s.Steady (s.takeSettings c) := .inert (s.takeSettings_changes c) rfl
  unfold Station.configRead
  split_ifs
  · exact .refl s
  · exact (taken _).trans (.inert (Station.enterListenOnly_changes _) rfl)
  · dsimp only
    have read := (taken (configuredSettings block)).trans (Station.raise_steady _ .configAdjusted)
    split
    · exact read.trans (.inert (Station.enterListenOnly_changes _) rfl)
    · exact read.trans (.inert (Station.enterJoining_changes _ _) rfl)
  · dsimp only
    have read := taken (configuredSettings block)
    split
    · exact read.trans (.inert (Station.enterListenOnly_changes _) rfl)
    · exact read.trans (.inert (Station.enterJoining_changes _ _) rfl)

/-- Two stations that differ in the gate and the join-quiet timer. -/
theorem changes_gate_joinTimer (g : Bool) (t : Option Millis) : Changes [.gate, .joinTimer] s
    { s with link := { s.link with gateOpen := g }, startup := { s.startup with joinTimer := t } } := by
  intro b apart
  cases b
  case gate | joinTimer => exact absurd (by decide) apart
  all_goals simp [Block.same]

theorem Station.joinQuietEnds_steady : s.Steady s.joinQuietEnds := by
  unfold Station.joinQuietEnds
  split
  · exact .refl s
  · split_ifs
    · exact (Station.Steady.inert (changes_gate_joinTimer s true none) rfl).trans (Station.offerAnnounce_steady _)
    · exact .refl s

/-- A lane restart empties the Item Queue, the receivers and the buffers. -/
theorem Station.laneRestart_steady : s.Steady s.laneRestart := by
  have ended := (Station.Steady.foldl (f := Station.restartClaim) (fun t i => t.restartClaim_steady i) s.lane.queue s).trans
    (Station.removeOwnClaims_steady _)
  have cleared (t : Station) : t.Steady t.clearLane :=
    .of_changes t.clearLane_changes (fun _ b listed => by
        rw [List.mem_cons, List.mem_cons, List.mem_singleton] at listed
        rcases listed with rfl | rfl | rfl
        · exact Nat.zero_le 8
        · trivial
        · trivial)
      (fun listed => absurd listed (by decide)) (fun listed => absurd listed (by decide))
  have restarted (t : Station) : t.Steady { t with
      receivers := PerHead.same Receiver.restarted, measurement := t.measurement.restarted } := by
    refine .of_changes (bs := [.receivers, .buffers, .calibration]) (fun b apart => ?_) (fun _ b listed => ?_)
      (fun listed => absurd listed (by decide)) (fun listed => absurd listed (by decide))
    · cases b
      case receivers | buffers | calibration => exact absurd (by decide) apart
      all_goals simp [Block.same, Measurement.restarted]
    · rw [List.mem_cons, List.mem_cons, List.mem_singleton] at listed
      rcases listed with rfl | rfl | rfl
      · intro h
        cases h <;> exact Nat.zero_le 64
      · exact ⟨Nat.zero_le 64, Nat.zero_le 64⟩
      · trivial
  exact ((ended.trans (cleared _)).trans (Station.closeContext_steady _ _)).trans (restarted _)

theorem Station.restartPressed_steady : s.Steady s.restartPressed := by
  have pressed : s.Steady { s with startup := { s.startup with restartInput := true } } :=
    .inert (bs := [.restartInput]) (fun b apart => by
      cases b
      case restartInput => exact absurd (by decide) apart
      all_goals simp [Block.same]) rfl
  unfold Station.restartPressed
  dsimp only
  split_ifs
  · exact .refl s
  · exact pressed.trans (Station.laneRestart_steady _)
  · exact pressed

theorem Station.enqueueReceived_steady (f : RxFrame) : s.Steady (s.enqueueReceived f) := by
  unfold Station.enqueueReceived
  split_ifs with room
  · refine .of_block (changes_rxQueue s (s.link.rxQueue ++ [f])) (by decide) fun _ => ?_
    dsimp only [Block.Bounded]
    rw [List.length_append, List.length_singleton]
    exact room
  · exact ((Station.Steady.inert (s.countLink_changes _) rfl).trans (Station.raise_steady _ _)).trans
      (Station.markAllUnconfirmed_steady _)

theorem Station.stopClaims_steady : s.Steady s.stopClaims :=
  (s.queue_steady (s.lane.queue.map Item.rejectInFlight) (by simp)).trans (Station.removeOwnClaims_steady _)

theorem Station.stopRecords_steady : s.Steady s.stopRecords := by
  have stopped : s.Steady { s with records := { s.records with
      overflow := none, pending := { sensing := none, correlation := none, link := none } } } :=
    .inert (bs := [.overflow, .pendingStatus]) (fun b apart => by
      cases b
      case overflow | pendingStatus => exact absurd (by decide) apart
      all_goals simp [Block.same]) rfl
  exact stopped.trans (Station.Steady.foldl (fun t (i : Item) => t.removeItem_steady i.ref true) _ _)

/-- The queue flushed, and nothing of the rest that has a capacity moved. -/
theorem Station.flushTransmit_secure : s.Secure s.flushTransmit :=
  .of_changes s.flushTransmit_changes (fun _ b listed => by
      rw [List.mem_cons, List.mem_singleton] at listed
      rcases listed with rfl | rfl
      · exact Nat.zero_le 16
      · trivial)
    (fun listed => absurd listed (by decide))

theorem Station.duplicateId_secure : s.Secure s.duplicateId := by
  have silenced : s.Steady { s with startup := { s.startup with state := .listenOnly, joinTimer := none, announce := .none } } :=
    .inert (bs := [.stationState, .joinTimer, .announce]) (fun b apart => by
      cases b
      case stationState | joinTimer | announce => exact absurd (by decide) apart
      all_goals simp [Block.same]) rfl
  unfold Station.duplicateId
  split_ifs
  · exact ((silenced.trans (Station.raise_steady _ _)).toSecure.trans (Station.flushTransmit_secure _)).trans
      ((Station.stopClaims_steady _).trans (Station.stopRecords_steady _)).toSecure
  · exact .refl s

theorem Station.reception_steady (r : Reception) : s.Steady { s with link := { s.link with reception := r } } :=
  .inert (changes_line s _ _ _ _ r) rfl

theorem Station.checkFails_steady : s.Steady s.checkFails := .inert s.checkFails_changes rfl

theorem Station.frameEnds_secure (bits : List Bool) : s.Secure (s.frameEnds bits) := by
  have taken (f : RxFrame) : s.Secure (s.frameTaken f) := by
    have silenced (t : Station) : t.Secure (t.ownIdReport f) := by
      unfold Station.ownIdReport
      split_ifs
      · exact t.duplicateId_secure
      · exact .refl t
    unfold Station.frameTaken
    split_ifs
    · exact ((s.reception_steady .seeking).toSecure.trans (silenced _)).trans (Station.enqueueReceived_steady _ f).toSecure
    · exact s.checkFails_steady.toSecure
  unfold Station.frameEnds
  split_ifs
  · split
    · exact taken _
    · exact s.checkFails_steady.toSecure
    · exact (s.reception_steady .seeking).toSecure
    · exact .refl s
  · exact .refl s

theorem Station.takeFront_steady {d : Delivery} {f : RxFrame} {t : Station} (front : s.takeFront d = some (f, t)) : s.Steady t := by
  refine .of_block (s.takeFront_changes front) (by decide) fun within => ?_
  unfold Station.takeFront at front
  split at front
  · cases front
  next waits =>
    split_ifs at front
    cases front
    have held : s.link.rxQueue.length ≤ 32 := within.rxQueue
    rw [waits, List.length_cons] at held
    exact (Nat.le_succ _).trans held

theorem Station.deliver_steady (d : Delivery) {use : RxFrame → Station → Station} (used : ∀ f (t : Station), t.Steady (use f t)) :
    s.Steady (s.deliver d use) := by
  unfold Station.deliver
  split
  · exact .refl s
  next front => exact (s.takeFront_steady front).trans (used _ _)

/-- A field of one byte is at most 255. -/
theorem payloadField_byte_le (p : List Byte) (place : Nat) : payloadField p place 1 ≤ 255 := by
  unfold payloadField beValue
  cases p.drop place with
  | nil => exact Nat.zero_le _
  | cons b _ =>
    have byte := b.isLt
    simp only [List.take_succ_cons, List.take_zero, List.foldl_cons, List.foldl_nil]
    omega

theorem Station.stationFrame_steady (f : RxFrame) (usable : Bool) {merge : Key → Station → Station}
    (merged : ∀ k (t : Station), t.Steady (merge k t)) : s.Steady (s.stationFrame f usable merge) := by
  unfold Station.stationFrame
  split_ifs
  · exact s.countUnusable_steady
  · dsimp only
    split
    · exact (s.adopt_steady _).trans (merged _ _)
    · exact (s.adopt_steady _).trans (Station.countUnusable_steady _)

theorem Station.deliverHoldings_steady (f : RxFrame) : s.Steady (s.deliverHoldings f) := by
  unfold Station.deliverHoldings
  dsimp only
  split
  · exact (s.adopt_steady _).trans (Station.mergeHoldings_steady _ _ (payloadField_byte_le _ _) _ _)
  · exact (s.adopt_steady _).trans (Station.countUnusable_steady _)

theorem Station.requestStatus_steady (g : StatusGroup) (m : BitVec 13) : s.Steady (s.requestStatus g m) := by
  have marks (t : Station) (p : PendingStatus) : t.Steady { t with records := { t.records with pending := p } } :=
    .inert (changes_pendingStatus t p) rfl
  unfold Station.requestStatus
  split
  · exact .refl s
  · split
    · exact marks s _
    · dsimp only
      split
      · exact s.offerRecord_steady _
      · exact (s.offerRecord_steady _).trans (marks _ _)

theorem Station.countLink_steady (f : LinkCounts → LinkCounts) : s.Steady (s.countLink f) := .inert (s.countLink_changes f) rfl

/-! ### The line -/

theorem Station.line_steady (a : Sending) (b : Bool) (c : Nat) (d : Bool) (e : Reception) : s.Steady { s with link := { s.link with
    sending := a, holding := b, chain := c, lineIdle := d, reception := e } } := .inert (changes_line s a b c d e) rfl

/-- What a list selects, with one element in another's place. -/
theorem length_filter_set {α : Type} {p : α → Bool} {l : List α} {n : Nat} {a : α} (b : α) (there : l[n]? = some a) :
    ((l.set n b).filter p).length = (l.filter p).length - (if p a = true then 1 else 0) + if p b = true then 1 else 0 := by
  obtain ⟨inside, rfl⟩ := List.getElem?_eq_some_iff.mp there
  simp only [← List.countP_eq_length_filter, List.countP_set inside]

theorem Station.backoffExpires_steady (place : Nat) : s.Steady (s.backoffExpires place) := by
  unfold Station.backoffExpires
  split
  · exact .refl s
  next f there =>
    split
    next standing =>
      refine s.txQueue_steady _ (by simp) ?_
      rw [length_filter_set _ there]
      simp [standing, Station.framesOnLine]
    · exact .refl s
    · exact .refl s

/-- The one frame ON LINE, if there is one, is gone; otherwise the station is as steady as ever. -/
structure Station.Cleared (s t : Station) : Prop extends s.Secure t where
  gone : s.framesOnLine.length = 1 → t.framesOnLine.length = 0

theorem Station.Cleared.trans {s t u : Station} (h : s.Cleared t) (k : t.Steady u) : s.Cleared u :=
  ⟨h.toSecure.trans k.toSecure, fun one => k.onLine.trans (h.gone one)⟩

theorem Station.Steady.cleared {s t u : Station} (h : s.Steady t) (k : t.Cleared u) : s.Cleared u :=
  ⟨h.toSecure.trans k.toSecure, fun one => k.gone (h.onLine.trans one)⟩

theorem onLine_eq_none_iff : s.onLine = none ↔ s.framesOnLine.length = 0 := by
  rw [List.length_eq_zero_iff]
  simp [Station.onLine, Station.framesOnLine, List.filter_eq_nil_iff]

theorem length_filter_eraseP {α : Type} (p : α → Bool) (l : List α) : ((l.eraseP p).filter p).length = (l.filter p).length - 1 := by
  induction l with
  | nil => rfl
  | cons a l ih =>
    by_cases held : p a = true
    · rw [List.eraseP_cons_of_pos held, List.filter_cons_of_pos held, List.length_cons, Nat.add_sub_cancel]
    · rw [List.eraseP_cons_of_neg held, List.filter_cons_of_neg held, List.filter_cons_of_neg held, ih]

theorem Station.departOnLine_cleared : s.Cleared s.departOnLine := by
  unfold Station.departOnLine
  refine Station.Cleared.trans ⟨?_, fun one => ?_⟩ (Station.roomReport_steady _ _)
  · exact .of_changes (changes_txQueue s _) (fun within b listed => by
        cases List.mem_singleton.mp listed
        exact List.length_eraseP_le.trans within.txQueue)
      (fun listed => absurd listed (by decide))
  · rw [Station.framesOnLine, length_filter_eraseP]
    exact Nat.sub_eq_zero_of_le one.le

theorem Station.backOff_cleared (n : Nat) : s.Cleared (s.backOff n) := by
  refine ⟨.of_changes (s.backOff_changes n) (fun within b listed => ?_) (fun listed => absurd listed (by decide)), fun _ => ?_⟩
  · rw [List.mem_cons, List.mem_singleton] at listed
    rcases listed with rfl | rfl
    · exact (List.length_map _).trans_le within.txQueue
    · trivial
  · rw [List.length_eq_zero_iff, Station.framesOnLine, List.filter_eq_nil_iff]
    intro f listed
    obtain ⟨g, _, rfl⟩ := List.mem_map.mp listed
    split_ifs with sent
    · simp
    · simpa using sent

theorem Station.abandon_cleared (b : Body) : s.Cleared (s.abandon b) := by
  have left := s.countAbandon_steady.cleared (Station.departOnLine_cleared _)
  unfold Station.abandon
  dsimp only
  split
  · exact left.trans (Station.claimAbandoned_steady _ _ _)
  · exact left.trans (Station.raise_steady _ _)
  · exact left.trans (Station.raise_steady _ _)
  · exact (left.trans (Station.raise_steady _ _)).trans (Station.offerAnnounce_steady _)
  all_goals exact left

/-- With no frame ON LINE there is none to clear. -/
theorem Station.Steady.cleared_of_none {s t : Station} (h : s.Steady t) (none : t.onLine = none) : s.Cleared t :=
  ⟨h.toSecure, fun _ => (onLine_eq_none_iff t).mp none⟩

theorem Station.jamEnds_cleared (jams : s.link.sending = .jam) : s.Cleared s.jamEnds := by
  unfold Station.jamEnds
  rw [if_pos jams]
  dsimp only
  have quiet := s.line_steady .quiet s.link.holding s.link.chain s.link.lineIdle .seeking
  split
  next none => exact quiet.cleared_of_none none
  next =>
    split_ifs
    · exact quiet.cleared (Station.departOnLine_cleared _)
    · exact quiet.cleared (Station.backOff_cleared _ _)
    · exact quiet.cleared (Station.abandon_cleared _ _)
    · exact quiet.cleared (Station.backOff_cleared _ _)

theorem Station.tellCompleted_steady (f : TxFrame) : s.Steady (s.tellCompleted f) := by
  unfold Station.tellCompleted
  split
  · split_ifs
    · exact s.offerWithdraw_steady _ _ _
    · exact s.modifyItem_steady _ _
  · exact .inert s.announced_changes rfl
  all_goals exact .refl s

theorem Station.attemptCompletes_cleared {bits : List Bool} (sends : s.link.sending = .frame bits) :
    s.Cleared s.attemptCompletes := by
  unfold Station.attemptCompletes
  rw [sends]
  dsimp only
  have sent : s.Steady (Station.countChain { s with link := { s.link with
      sending := .quiet, reception := .seeking, counts := { s.link.counts with sent := s.link.counts.sent + 1 } } }) :=
    (Station.Steady.inert (changes_line_counts s _ _ _ _ _ _) rfl).trans (.inert (Station.countChain_changes _) rfl)
  split
  next none => exact sent.cleared_of_none none
  next => exact (sent.cleared (Station.departOnLine_cleared _)).trans (Station.tellCompleted_steady _ _)

/-! ### The commands -/

/-- The commands that send a frame, take one from the line, end one or start the station again. -/
def movesFrame (c : Instr) : Bool :=
  match c with
  | .powerOn | .attemptBegin | .chainContinuation | .jamEnd | .attemptComplete | .frameReceived _ => true
  | _ => false

/-- Every other command is steady. -/
theorem exec_steady {c : Instr} {x y : Station} {q : List Instr} (other : movesFrame c = false)
    (run : exec c ⟨x, q⟩ = .next ⟨y, q⟩) : x.Steady y := by
  cases c with
  | configReadComplete block => cases run; exact x.configRead_steady block
  | millisecondTick => cases run; exact x.tick_steady
  | encoderForwardCount => cases run; exact .inert x.forwardCount_changes rfl
  | encoderReverseCount => cases run; exact .refl x
  | leadingEdge => cases run; exact x.leadingEdge_steady
  | trailingEdge => cases run; exact x.trailingEdge_steady
  | overlongCloseOff => cases run; exact x.overlongCloseOff_steady
  | windowOpen r h => cases run; exact x.windowOpens_steady r h
  | windowClose r h => cases run; exact x.windowCloses_steady r h
  | weightCompletion r => cases run; exact x.weightCompletes_steady r
  | decisionDue r => cases run; exact x.decisionDue_steady r
  | divertPoint r => cases run; exact x.divertPoint_steady r
  | departure r => cases run; exact x.departs_steady r
  | headSymbolArrival h a => cases run; exact x.symbolArrives_steady h a
  | framerTakeSymbol h => cases run; exact x.framerTake_steady h
  | handOver h => cases run; exact x.handsOver_steady h
  | settleExpiry r => cases run; exact x.settleExpires_steady r
  | claimExpiry k n r => cases run; exact x.claimExpires_steady k n r
  | requestedLapse k => cases run; exact x.requestLapses_steady k
  | joinQuietExpiry => cases run; exact x.joinQuietEnds_steady
  | lineIdle => cases run; exact .inert x.lineGoesIdle_changes rfl
  | collision => cases run; exact .inert x.collides_changes rfl
  | backoffExpiry place => cases run; exact x.backoffExpires_steady place
  | rxLineError => cases run; exact .inert x.lineError_changes rfl
  | heardClaim =>
    cases run
    exact x.deliver_steady _ fun f t => t.stationFrame_steady f _ fun k u => u.mergeClaim_steady k _ _ _ (payloadField_byte_le _ _) _
  | heardCommit =>
    cases run
    exact x.deliver_steady _ fun f t => t.stationFrame_steady f _ fun k u => u.mergeCommit_steady k _ _ _ (payloadField_byte_le _ _)
  | heardWithdraw =>
    cases run
    exact x.deliver_steady _ fun f t => t.stationFrame_steady f _ fun k u => u.mergeWithdraw_steady k _ _
  | heardHoldings => cases run; exact x.deliver_steady _ fun f t => t.deliverHoldings_steady f
  | heardAnnounce => cases run; exact x.deliver_steady _ fun f t => t.adopt_steady _
  | statusRequest => cases run; exact x.deliver_steady _ fun f t => t.requestStatus_steady _ _
  | calibrate => cases run; exact x.deliver_steady _ fun f t => t.calibrateRequest_steady _
  | restart => cases run; exact x.deliver_steady _ fun _ t => t.laneRestart_steady
  | localRestart => cases run; exact x.restartPressed_steady
  | misdirectedFrame => cases run; exact x.deliver_steady _ fun _ t => t.countLink_steady _
  | malformedFrame => cases run; exact x.deliver_steady _ fun _ t => t.countLink_steady _
  | unaddressedFrame => cases run; exact x.deliver_steady _ fun _ t => .refl t
  | localRestartRelease => cases run; exact .inert x.restartReleased_changes rfl
  | lineLeavesIdle => cases run; exact .inert x.lineLeaves_changes rfl
  | leadFound => cases run; exact .inert x.leadIsFound_changes rfl
  | _ => cases other

/-- The end of a jam and of an attempt clear the line, or nothing is sent and nothing happens. -/
theorem Station.jamEnds_secure : s.Secure s.jamEnds := by
  by_cases jams : s.link.sending = .jam
  · exact (s.jamEnds_cleared jams).toSecure
  · rw [s.jamEnds_of_no_jam jams]
    exact .refl s

theorem Station.attemptCompletes_secure : s.Secure s.attemptCompletes := by
  by_cases sends : ∃ bits, s.link.sending = .frame bits
  · obtain ⟨bits, sends⟩ := sends
    exact (s.attemptCompletes_cleared sends).toSecure
  · rw [s.attemptCompletes_of_not_sending (not_exists.mp sends)]
    exact .refl s

/-- Every command but power-on and those that begin an attempt keeps capacities and flags. -/
theorem exec_secure {c : Instr} {x y : Station} {q : List Instr}
    (other : c ≠ .powerOn ∧ c ≠ .attemptBegin ∧ c ≠ .chainContinuation) (run : exec c ⟨x, q⟩ = .next ⟨y, q⟩) : x.Secure y := by
  obtain ⟨notOn, notBegin, notChain⟩ := other
  by_cases moves : movesFrame c = false
  case pos => exact (exec_steady moves run).toSecure
  cases c with
  | jamEnd => cases run; exact x.jamEnds_secure
  | attemptComplete => cases run; exact x.attemptCompletes_secure
  | frameReceived bits => cases run; exact x.frameEnds_secure bits
  | powerOn => exact absurd rfl notOn
  | attemptBegin => exact absurd rfl notBegin
  | chainContinuation => exact absurd rfl notChain
  | _ => exact absurd rfl moves

/-! ### The beginning of an attempt -/

/-- An attempt leaves the length of the queue and every piece with a capacity. -/
theorem Station.beginAt_bounded (place : Nat) (within : s.Bounded) : (s.beginAt place).Bounded := by
  cases there : s.link.txQueue[place]? with
  | none => rwa [s.beginAt_of_absent there]
  | some f =>
    refine (Station.bounded_iff _).mpr fun b => ?_
    have old := s.bounded_iff.mp within b
    by_cases touched : b ∈ [Block.txQueue, .line, .pendingStatus, .flags]
    · rw [List.mem_cons, List.mem_cons, List.mem_cons, List.mem_singleton] at touched
      rcases touched with rfl | rfl | rfl | rfl
      · have same : (s.afterSampling f.body).link.txQueue = s.link.txQueue := s.afterSampling_changes f.body .txQueue (by decide)
        rw [s.beginAt_of_frame there, Block.Bounded, List.length_set, same]
        exact within.txQueue
      all_goals trivial
    · exact .of_same (s.beginAt_changes place b touched) old

theorem Station.powersOn_bounded : s.powersOn.Bounded where
  __ := Station.powerOn_bounded

theorem exec_bounded {c : Instr} {x y : Station} {q : List Instr} (within : x.Bounded) (run : exec c ⟨x, q⟩ = .next ⟨y, q⟩) :
    y.Bounded := by
  by_cases other : c ≠ .powerOn ∧ c ≠ .attemptBegin ∧ c ≠ .chainContinuation
  · exact (exec_secure other run).bounded within
  · simp only [ne_eq, not_and_or, not_not] at other
    rcases other with rfl | rfl | rfl
    · cases run
      exact x.powersOn_bounded
    · cases run
      rcases x.attemptBegins_cases with same | ⟨_, _, _, _, _, begun⟩
      · rwa [same]
      · rw [begun]
        exact Station.beginAt_bounded _ _ ((x.line_steady x.link.sending x.link.holding 0 x.link.lineIdle x.link.reception).bounded within)
    · cases run
      rcases x.chainContinues_cases with same | ⟨_, released⟩ | ⟨_, _, _, _, begun⟩
      · rwa [same]
      · rw [released]
        exact (Station.Steady.inert x.releaseLine_changes rfl).bounded within
      · rw [begun]
        exact x.beginAt_bounded _ within

/-- Settles O57: every operation keeps what has a capacity inside it, and an entry is created only for a key the table does not
hold. -/
theorem capacitiesAreKept : Obligations.CapacitiesAreKept := by
  unfold Obligations.CapacitiesAreKept
  exact fun _ _ within run => step_keeps (P := Station.Bounded) (fun _ _ _ _ => exec_bounded) within run

/-! ### The sticky flags -/

theorem Flag.index_lt (f : Flag) : f.index < 13 := by
  cases f <;> decide

theorem Station.applyMask_flag (g : StatusGroup) (f : Flag) :
    (s.applyMask g).flag f = (s.flag f && !((s.records.pending.get g).getD 0).getLsbD f.index) := by
  have clear : (s.applyMask g).flag f = (s.records.flags &&& ~~~((s.records.pending.get g).getD 0)).getLsbD f.index := rfl
  rw [clear, BitVec.getLsbD_and, BitVec.getLsbD_not, decide_eq_true f.index_lt, Bool.true_and, Station.flag]

/-- The beginning of an attempt keeps every flag but those a STATUS's pending mask names at its first attempt. -/
theorem Station.beginAt_flag {place : Nat} {flag : Flag} (set : s.flag flag = true) (lost : (s.beginAt place).flag flag = false) :
    ∃ f ∈ s.link.txQueue, ∃ g mask, f.body = .status g none ∧ s.records.pending.get g = some mask ∧
      mask.getLsbD flag.index = true := by
  cases there : s.link.txQueue[place]? with
  | none =>
    rw [s.beginAt_of_absent there, set] at lost
    cases lost
  | some f =>
    rw [s.beginAt_of_frame there] at lost
    have cleared : (s.afterSampling f.body).flag flag = false := lost
    unfold Station.afterSampling at cleared
    split at cleared
    next g status =>
      refine ⟨f, List.mem_of_getElem? there, g, ?_⟩
      rw [Station.applyMask_flag, set] at cleared
      cases marked : s.records.pending.get g with
      | none => simp [marked] at cleared
      | some mask => exact ⟨mask, status, rfl, by simpa [marked] using cleared⟩
    next =>
      rw [set] at cleared
      cases cleared

/-- Settles O54: the flags are lost by no other command, and there by the masks alone. -/
theorem stickyFlagsStay : Obligations.StickyFlagsStay := by
  unfold Obligations.StickyFlagsStay
  intro c s t flag run set lost
  obtain ⟨x, q⟩ := s
  obtain ⟨y, answer, _⟩ := exec_frame c x q
  cases answer.symm.trans run
  by_cases other : c ≠ .powerOn ∧ c ≠ .attemptBegin ∧ c ≠ .chainContinuation
  · rw [(exec_secure other run).flags flag set] at lost
    cases lost
  · simp only [ne_eq, not_and_or, not_not] at other
    rcases other with on | rfl | rfl
    · exact .inl on
    · refine .inr ⟨.inl rfl, ?_⟩
      cases run
      rcases x.attemptBegins_cases with same | ⟨_, _, _, _, _, begun⟩
      · rw [same, set] at lost
        cases lost
      · rw [begun] at lost
        exact Station.beginAt_flag { x with link := { x.link with chain := 0 } } (flag := flag) set lost
    · refine .inr ⟨.inr rfl, ?_⟩
      cases run
      rcases x.chainContinues_cases with same | ⟨_, released⟩ | ⟨_, _, _, _, begun⟩
      · rw [same, set] at lost
        cases lost
      · rw [released] at lost
        exact absurd (set.symm.trans lost) (by decide)
      · rw [begun] at lost
        exact x.beginAt_flag set lost

/-! ### The line and the queue -/

/-- An attempt of the frame selected puts it ON LINE besides those that are. -/
theorem Station.beginAt_framesOnLine {place : Nat} (selected : selectFrame s.link.txQueue = some place) :
    (s.beginAt place).framesOnLine.length = s.framesOnLine.length + 1 ∧ (s.beginAt place).link.sending ≠ .quiet ∧
      (s.beginAt place).link.holding = false := by
  obtain ⟨f, there, free, _⟩ := eligible_first_of_selectFrame selected
  have waits : f.standing = .ready := by
    simp only [eligible, Bool.and_eq_true, decide_eq_true_eq] at free
    exact free.1
  have same : (s.afterSampling f.body).link.txQueue = s.link.txQueue := s.afterSampling_changes f.body .txQueue (by decide)
  rw [s.beginAt_of_frame there]
  refine ⟨?_, (nomatch ·), rfl⟩
  rw [Station.framesOnLine, same, length_filter_set _ there]
  simp [waits, Station.framesOnLine]

/-- The line and the queue agree on the frame ON LINE, and a line held is a quiet one. -/
structure Station.Agrees (s : Station) : Prop where
  oneOnLine : s.framesOnLine.length = if s.link.sending = .quiet then 0 else 1
  held : s.link.holding → s.link.sending = .quiet

theorem Station.Agrees.of_quiet {t : Station} (quiet : t.link.sending = .quiet) (none : t.framesOnLine.length = 0) : t.Agrees :=
  ⟨by rw [if_pos quiet, none], fun _ => quiet⟩

/-- The beginning of an attempt from a quiet station. -/
theorem Station.Agrees.beginAt {t : Station} (h : t.Agrees) {place : Nat} (selected : selectFrame t.link.txQueue = some place)
    (quiet : t.link.sending = .quiet) : (t.beginAt place).Agrees := by
  obtain ⟨one, busy, released⟩ := t.beginAt_framesOnLine selected
  have none := h.oneOnLine
  rw [if_pos quiet] at none
  exact ⟨by rw [if_neg busy, one, none], fun held => absurd (released.symm.trans held) (by decide)⟩

/-- A steady command agrees where it keeps what is sent, or sends the jam for the frame, and holds no line but a quiet one. -/
theorem Station.Agrees.of_steady {s t : Station} (h : s.Agrees) (steady : s.Steady t)
    (sending : (t.link.sending = .quiet ↔ s.link.sending = .quiet)) (held : t.link.holding = true → s.link.holding = true ∨
      t.link.sending = .quiet) : t.Agrees where
  oneOnLine := by
    rw [steady.onLine, h.oneOnLine]
    exact if_congr sending.symm rfl rfl
  held := fun holds => by
    rcases held holds with before | quiet
    · exact sending.mpr (h.held before)
    · exact quiet

theorem Station.configRead_holding (block : ConfigBlock) : (s.configRead block).link.holding = s.link.holding := by
  unfold Station.configRead
  split_ifs
  · rfl
  · rfl
  · dsimp only
    split <;> rfl
  · dsimp only
    split <;> rfl

theorem Station.lineGoesIdle_holding : s.lineGoesIdle.link.holding = true → s.link.holding = true := by
  unfold Station.lineGoesIdle
  dsimp only
  split_ifs with _ held
  · exact fun _ => held
  · exact id
  · exact id

theorem Station.collides_holding : s.collides.link.holding = true → s.link.holding = true := by
  unfold Station.collides
  split
  · exact fun held => by cases held
  · exact id
  · exact id

theorem Station.lineLeaves_holding : s.lineLeaves.link.holding = s.link.holding := by
  unfold Station.lineLeaves
  split_ifs <;> rfl

theorem Station.leadIsFound_holding : s.leadIsFound.link.holding = s.link.holding := by
  unfold Station.leadIsFound
  split_ifs <;> rfl

theorem Station.lineError_holding : s.lineError.link.holding = s.link.holding := by
  unfold Station.lineError
  split_ifs <;> rfl

theorem Station.collides_quiet : s.collides.link.sending = .quiet ↔ s.link.sending = .quiet := by
  rcases s.collides_sending with same | ⟨jams, bits, sends⟩
  · rw [same]
  · simp [jams, sends]

/-- A steady command leaves the station quiet or busy as it was, and takes up no line. -/
theorem exec_line {c : Instr} {x y : Station} {q : List Instr} (other : movesFrame c = false)
    (run : exec c ⟨x, q⟩ = .next ⟨y, q⟩) :
    (y.link.sending = .quiet ↔ x.link.sending = .quiet) ∧ (y.link.holding = true → x.link.holding = true) := by
  have same (sending : y.link.sending = x.link.sending) : y.link.sending = .quiet ↔ x.link.sending = .quiet := by rw [sending]
  by_cases touched : .line ∈ touches c
  case neg =>
    obtain ⟨sending, holding, -⟩ := exec_changes run .line touched
    exact ⟨same sending, fun held => holding.symm.trans held⟩
  cases c with
  | configReadComplete block => cases run; exact ⟨same (x.configRead_sending block), (x.configRead_holding block).symm.trans⟩
  | lineIdle => cases run; exact ⟨same x.lineGoesIdle_sending, x.lineGoesIdle_holding⟩
  | lineLeavesIdle => cases run; exact ⟨same x.lineLeaves_sending, x.lineLeaves_holding.symm.trans⟩
  | leadFound => cases run; exact ⟨same x.leadIsFound_sending, x.leadIsFound_holding.symm.trans⟩
  | rxLineError => cases run; exact ⟨same x.lineError_sending, x.lineError_holding.symm.trans⟩
  | collision => cases run; exact ⟨x.collides_quiet, x.collides_holding⟩
  | powerOn | attemptBegin | chainContinuation | jamEnd | attemptComplete | frameReceived => cases other
  | _ => exact absurd touched (by simp [touches])

theorem exec_agrees {c : Instr} {x y : Station} {q : List Instr} (h : x.Agrees) (run : exec c ⟨x, q⟩ = .next ⟨y, q⟩) : y.Agrees := by
  by_cases moves : movesFrame c = false
  case pos =>
    obtain ⟨quiet, held⟩ := exec_line moves run
    exact h.of_steady (exec_steady moves run) quiet fun holds => .inl (held holds)
  cases c with
  | powerOn => cases run; exact .of_quiet rfl rfl
  | attemptBegin =>
    cases run
    rcases x.attemptBegins_cases with same | ⟨place, selected, _, quiet, _, begun⟩
    · rwa [same]
    · rw [begun]
      exact Station.Agrees.beginAt (t := { x with link := { x.link with chain := 0 } }) ⟨h.oneOnLine, h.held⟩ selected quiet
  | chainContinuation =>
    cases run
    rcases x.chainContinues_cases with same | ⟨_, released⟩ | ⟨place, selected, _, held, begun⟩
    · rwa [same]
    · rw [released]
      exact ⟨h.oneOnLine, fun holds => by cases holds⟩
    · rw [begun]
      exact h.beginAt selected (h.held held)
  | jamEnd =>
    cases run
    by_cases jams : x.link.sending = .jam
    · have one : x.framesOnLine.length = 1 := by simpa [jams] using h.oneOnLine
      exact .of_quiet (x.jamEnds_quiet jams).1 ((x.jamEnds_cleared jams).gone one)
    · rwa [x.jamEnds_of_no_jam jams]
  | attemptComplete =>
    cases run
    by_cases sends : ∃ bits, x.link.sending = .frame bits
    · obtain ⟨bits, sends⟩ := sends
      have one : x.framesOnLine.length = 1 := by simpa [sends] using h.oneOnLine
      exact .of_quiet (x.attemptCompletes_quiet sends) ((x.attemptCompletes_cleared sends).gone one)
    · rwa [x.attemptCompletes_of_not_sending (not_exists.mp sends)]
  | frameReceived bits =>
    cases run
    obtain ⟨sending, holding⟩ := x.frameEnds_sending bits
    rcases x.frameEnds_cases bits with plain | ⟨quiet, _, _, _, flushed⟩
    · exact ⟨by rw [Station.framesOnLine_of_same (plain .txQueue (by decide)), sending, h.oneOnLine],
        fun held => sending.trans (h.held (holding.symm.trans held))⟩
    · exact .of_quiet (sending.trans quiet) (by rw [Station.framesOnLine, flushed]; rfl)
  | _ => exact absurd rfl moves

/-- The diverter with no holder rests. -/
def Station.rests (s : Station) : Prop := s.lane.diverterHolder = none → s.lane.diverterChute = 0

theorem Station.rests_of_same {s t : Station} (same : Block.diverter.same s t) (h : s.rests) : t.rests := by
  obtain ⟨chute, holder⟩ := same
  exact fun free => chute.trans (h (holder.symm.trans free))

theorem Station.divertPoint_rests (r : ItemRef) (h : s.rests) : (s.divertPoint r).rests := by
  unfold Station.divertPoint
  split
  · exact h
  · split_ifs
    · exact fun free => by cases free
    · exact h

theorem Station.departs_rests (r : ItemRef) (h : s.rests) : (s.departs r).rests := by
  unfold Station.departs
  split
  · exact h
  · split
    · exact h
    · split_ifs
      · refine Station.rests_of_same (Station.disposeDeparted_changes _ _ .diverter (by decide)) ?_
        unfold Station.releaseDiverter
        split_ifs
        · exact fun _ => rfl
        · exact h
      · exact h

theorem Station.laneRestart_rests : s.laneRestart.rests :=
  Station.rests_of_same (s := Station.clearLane ((s.lane.queue.foldl Station.restartClaim s).removeOwnClaims))
    (Station.closeContext_changes _ _ .diverter (by decide)) fun _ => rfl

theorem exec_rests {c : Instr} {x y : Station} {q : List Instr} (h : x.rests) (run : exec c ⟨x, q⟩ = .next ⟨y, q⟩) : y.rests := by
  by_cases touched : .diverter ∈ touches c
  case neg => exact Station.rests_of_same (exec_changes run .diverter touched) h
  cases c with
  | powerOn => cases run; exact fun _ => rfl
  | divertPoint r => cases run; exact x.divertPoint_rests r h
  | departure r => cases run; exact x.departs_rests r h
  | restart =>
    cases run
    unfold Station.deliver
    split
    · exact h
    · exact Station.laneRestart_rests _
  | localRestart =>
    cases run
    unfold Station.restartPressed
    dsimp only
    split_ifs
    · exact h
    · exact Station.laneRestart_rests _
    · exact h
  | _ => exact absurd touched (by simp [touches])

/-- Settles O59: a steady command leaves line and queue, an attempt puts its one frame ON LINE, and its end takes it off. -/
theorem lineAndQueueAgree : Obligations.LineAndQueueAgree := by
  unfold Obligations.LineAndQueueAgree
  refine fun _ _ coherent run => step_keeps (P := Station.Coherent) (fun c x q y h answer => ?_) coherent run
  obtain ⟨oneOnLine, held⟩ := exec_agrees ⟨h.oneOnLine, h.held⟩ answer
  exact ⟨oneOnLine, held, exec_rests h.resting answer⟩

end Sys2Proof.Machine
end

section
/-! SUPPORT. Start-up (chapter 10), the clock and the encoder (R1, R90), and the statements these settle. -/

namespace Sys2Proof.Machine

variable (s : Station)

/-! ### The configuration read (R178 to R182) -/

/-- The read's end with a right signature, by the id the block names. -/
theorem Station.configRead_eq_of_signatureRight {block : ConfigBlock} (loading : s.startup.state = .configLoad)
    (right : signatureRight block = true) :
    s.configRead block = match configuredId block with
      | none => (s.configured block).enterListenOnly
      | some id => (s.configured block).enterJoining id := by
  simp [Station.configRead, Station.configured, loading, right] <;> rfl

/-- The values a block hands out, written out. -/
theorem Station.configured_eq (block : ConfigBlock) :
    s.configured block = { s with
      measurement := { s.measurement with factor := (configuredSettings block).scaleFactor }
      link := { s.link with lineIdle := false }
      records := { s.records with flags := if configAdjusted block then s.records.flags ||| 1#13 else s.records.flags }
      startup := { s.startup with settings := some (configuredSettings block), portSelect := false } } := by
  unfold Station.configured
  split <;> rfl

/-- Settles O7: the port's bytes, and the read's end by signature and by id. -/
theorem configReadComplete : Obligations.ConfigReadComplete := by
  unfold Obligations.ConfigReadComplete
  refine ⟨fun x => rfl, ?wrong, ?right⟩
  case wrong =>
    intro x q b byte loading wrong
    have signature : signatureRight b = false := by
      rw [← Bool.not_eq_true, signatureRight_iff]
      exact wrong
    rw [exec_configReadComplete, x.configRead_of_signatureWrong loading signature]
    rfl
  case right =>
    intro x q b byte loading first second id y
    rw [exec_configReadComplete, x.configRead_eq_of_signatureRight loading ((signatureRight_iff b).mpr ⟨first, second⟩),
      show x.configured b = y from x.configured_eq b]
    by_cases range : 1 ≤ id ∧ id ≤ 31
    · rw [show configuredId b = some id from if_pos range, if_pos range]
      rfl
    · rw [show configuredId b = none from if_neg range, if_neg range]
      rfl

/-! ### The clock and the encoder (R1, R90) -/

theorem position_mem_touches {c : Instr} : .position ∈ touches c ↔ c = .encoderForwardCount ∨ c = .powerOn := by
  cases c <;> simp [touches]

theorem Pos.succ_eq (p : Pos) : p + 1 = BitVec.ofNat 24 ((p.toNat + 1) % 16777216) := by
  apply BitVec.eq_of_toNat_eq
  simp

/-- Settles O9: the two counters by their operations, and P by the frames. -/
theorem clockAndEncoder : Obligations.ClockAndEncoder := by
  unfold Obligations.ClockAndEncoder
  refine ⟨fun x q => rfl, fun x q => ⟨?_, rfl⟩, fun c s t run moved => ?_⟩
  · rw [← Pos.succ_eq]
    rfl
  · by_contra other
    exact moved (exec_changes run .position (mt position_mem_touches.mp other))

/-! ### The end of the join-quiet interval (R183) -/

/-- Settles O10: the gate opens, and the ANNOUNCE is offered to a queue with room or to a full one. -/
theorem joinQuietExpiry : Obligations.JoinQuietExpiry := by
  unfold Obligations.JoinQuietExpiry
  intro x q start joining timer due
  have ends : x.joinQuietEnds = Station.offerAnnounce { x with
      link := { x.link with gateOpen := true }, startup := { x.startup with joinTimer := none } } := by
    simp [Station.joinQuietEnds, timer, joining, age, due]
  refine ⟨fun room => ?_, fun full => ?_⟩
  · rw [show exec .joinQuietExpiry ⟨x, q⟩ = .next ⟨x.joinQuietEnds, q⟩ from rfl, ends]
    simp [Station.offerAnnounce, Station.offerNotice, Station.txRoom, Config.txCapacity, room, Station.txPush, Station.cfg]
  · rw [show exec .joinQuietExpiry ⟨x, q⟩ = .next ⟨x.joinQuietEnds, q⟩ from rfl, ends]
    simp [Station.offerAnnounce, Station.offerNotice, Station.txRoom, Config.txCapacity, Nat.not_lt.mpr full,
      Station.countAbandon, Station.raise, Flag.bit, Flag.index]

end Sys2Proof.Machine
end

section
/-! SUPPORT. Edges, windows and the calibration item (sections 1.2, 1.5 and 4.5), and the statements these settle. -/

namespace Sys2Proof.Machine

variable (s : Station)

/-! ### The choice of the calibration item (R68) -/

theorem Station.scaleWindowOpens_of_pending (r : ItemRef) {g : Nat} (pending : s.measurement.calibration = .pending g) :
    s.scaleWindowOpens r = { s with measurement := { s.measurement with calibration := .chosen g r } }.modifyItem r
      (fun i => { i with calMark := true }) := by
  simp [Station.scaleWindowOpens, pending]

theorem Station.scaleWindowOpens_of_not_pending (r : ItemRef) (none : ∀ g, s.measurement.calibration ≠ .pending g) :
    s.scaleWindowOpens r = s := by
  unfold Station.scaleWindowOpens
  split
  next g pending => exact absurd pending (none g)
  next => rfl

/-! ### Leading edge (R3, R4) -/

/-- An item written at a fresh ref behind others is the new one alone. -/
theorem map_ref_append_fresh {r : ItemRef} {l : List Item} (fresh : ∀ i ∈ l, i.ref ≠ r) (f : Item → Item) {i : Item} (own : i.ref = r) :
    (l ++ [i]).map (fun k => if k.ref = r then f k else k) = l ++ [f i] := by
  have same : l.map (fun k => if k.ref = r then f k else k) = l.map id := List.map_congr_left fun k listed => if_neg (fresh k listed)
  rw [List.map_append, List.map_singleton, if_pos own, same, List.map_id]

/-- The station with an item created, and the sensor owner from then on. -/
def Station.created (i : Item) (m : Measurement) (s : Station) : Station :=
  { s with
    lane := { s.lane with queue := s.lane.queue ++ [i], nextRef := s.lane.nextRef + 1, sensorOwner := some s.lane.nextRef }
    measurement := m }

theorem Station.createItem_eq : s.createItem =
    if s.cfg.opensAtCreation .scale then
      (s.created (newItem s.cfg s.lane.nextRef s.lane.pos) s.measurement).scaleWindowOpens s.lane.nextRef
    else s.created (newItem s.cfg s.lane.nextRef s.lane.pos) s.measurement := rfl

theorem Station.createItem_of_pending {g : Nat} (fresh : ∀ i ∈ s.lane.queue, i.ref ≠ s.lane.nextRef)
    (pending : s.measurement.calibration = .pending g) (opens : s.cfg.distance.scale ≤ s.cfg.margin.scale) :
    s.createItem = s.created { newItem s.cfg s.lane.nextRef s.lane.pos with calMark := true }
      { s.measurement with calibration := .chosen g s.lane.nextRef } := by
  have opened : s.cfg.opensAtCreation .scale = true := decide_eq_true opens
  have marked := map_ref_append_fresh fresh (fun i => { i with calMark := true })
    (i := newItem s.cfg s.lane.nextRef s.lane.pos) rfl
  rw [Station.createItem_eq, if_pos opened, Station.scaleWindowOpens_of_pending _ _ (by exact pending)]
  simp only [Station.created, Station.modifyItem, marked]

theorem Station.createItem_of_not_chosen (none : (∀ g, s.measurement.calibration ≠ .pending g) ∨
    ¬ s.cfg.distance.scale ≤ s.cfg.margin.scale) :
    s.createItem = s.created (newItem s.cfg s.lane.nextRef s.lane.pos) s.measurement := by
  rw [Station.createItem_eq]
  rcases none with none | late
  · rw [Station.scaleWindowOpens_of_not_pending _ _ (by exact none), ite_self]
  · rw [if_neg (show ¬ s.cfg.opensAtCreation .scale = true from mt decide_eq_true_iff.mp late)]

theorem Station.leadingEdge_of_full (configured : s.startup.state ≠ .configLoad) (full : 8 ≤ s.lane.queue.length) :
    s.leadingEdge = (s.countLane (fun c => { c with untracked := c.untracked + 1 })).raise .queueOverrun := by
  simp [Station.leadingEdge, s.ready_iff.mpr configured, Config.itemCapacity, Nat.not_lt.mpr full]

theorem Station.ready_eq_false (loading : s.startup.state = .configLoad) : s.ready = false := by
  simp [Station.ready, loading]

/-- Settles O13: a leading edge by the room in the queue and the calibration record, and the new record by its definition. -/
theorem leadingEdge : Obligations.LeadingEdge := by
  unfold Obligations.LeadingEdge
  refine ⟨fun x q => ⟨fun loading => ?loading, fun configured place fresh => ?created, fun configured full => ?full⟩,
    fun c r p => ?record⟩
  case loading =>
    rw [exec_leadingEdge, Station.leadingEdge, x.ready_eq_false loading]
    rfl
  case created =>
    intro i created
    rw [exec_leadingEdge, x.leadingEdge_of_place configured place]
    congr 2
    split
    next g pending =>
      split_ifs with opens
      · exact x.createItem_of_pending fresh pending opens
      · exact x.createItem_of_not_chosen (.inr opens)
    next none => exact x.createItem_of_not_chosen (.inl none)
  case full =>
    rw [exec_leadingEdge, x.leadingEdge_of_full configured full]
    rfl
  case record =>
    refine ⟨rfl, rfl, rfl, rfl, fun h => ?_, fun h => ?_, ?_, ?_, ?_⟩
    · cases h <;> exact if_congr decide_eq_true_iff rfl rfl
    · cases h <;> rfl
    all_goals simp [newItem]

/-! ### Trailing edge and close-off (R5, R6) -/

theorem exec_trailingEdge (x : Station) (q : List Instr) : exec .trailingEdge ⟨x, q⟩ = .next ⟨x.trailingEdge, q⟩ := rfl

theorem Station.trailingEdge_of_owner {r : ItemRef} {i : Item} (configured : s.startup.state ≠ .configLoad)
    (owner : s.lane.sensorOwner = some r) (found : s.findItem r = some i) :
    s.trailingEdge = { s with lane := { s.lane with sensorOwner := none } }.trailingEdgeOf i := by
  simp [Station.trailingEdge, s.ready_iff.mpr configured, owner, found]

/-- Settles O14: the edge by the sensor owner's lane state, and the close-off as one write of its item. -/
theorem trailingEdgeAndCloseOff : Obligations.TrailingEdgeAndCloseOff := by
  unfold Obligations.TrailingEdgeAndCloseOff
  refine ⟨fun x q => ⟨fun ignored => ?ignored, fun r i configured owner found => ⟨fun entering short => ?blip, fun kept => ?trail⟩⟩,
    fun x q r i owner found due => ?closeOff⟩
  case ignored =>
    rw [exec_trailingEdge, Station.trailingEdge]
    rcases ignored with loading | none
    · rw [x.ready_eq_false loading]
      rfl
    · rw [none]
      split <;> rfl
  case blip =>
    have own : i.ref = r := x.findItem_ref found
    rw [exec_trailingEdge, x.trailingEdge_of_owner configured owner found]
    have removed (t : Station) (due : dist i.lead t.lane.pos < t.cfg.minLength) :
        t.trailingEdgeOf i = (t.removeItem r true).countLane fun c => { c with blips := c.blips + 1 } := by
      rw [Station.trailingEdgeOf, entering, ← own]
      exact if_pos due
    rw [removed { x with lane := { x.lane with sensorOwner := none } } short]
    set t : Station := { x with lane := { x.lane with sensorOwner := none } } with cleared
    have counts : (t.removeItem r true).lane.counts = t.lane.counts := t.removeItem_changes r true .laneCounts (by decide)
    have ownerCleared : (t.removeItem r true).lane.sensorOwner = t.lane.sensorOwner :=
      t.removeItem_changes r true .sensorOwner (by decide)
    obtain ⟨bufferA, bufferB⟩ := t.removeItem_buffers r true
    obtain ⟨factor, chosen, other⟩ := t.removeItem_calibrationFails r
    refine ⟨_, rfl, ownerCleared, t.removeItem_queue r true, ?_, bufferA, bufferB, factor, chosen, other⟩
    rw [Station.countLane_lane_counts, counts]
  case trail =>
    have own : i.ref = r := x.findItem_ref found
    rw [exec_trailingEdge, x.trailingEdge_of_owner configured owner found]
    have written (t : Station) (long : i.lane = .entering → t.cfg.minLength ≤ dist i.lead t.lane.pos) :
        t.trailingEdgeOf i = t.modifyItem r (Item.setTrail t.lane.pos) := by
      rw [Station.trailingEdgeOf, ← own]
      split
      next entering => rw [if_neg (Nat.not_lt.mpr (long entering))]
      next => rfl
      next => rfl
      all_goals simp_all
    rw [written _ fun entering => ?_]
    · rfl
    · rcases kept with ⟨_, long⟩ | decided | diverting
      · exact long
      · exact absurd (entering.symm.trans decided) (by decide)
      · exact absurd (entering.symm.trans diverting) (by decide)
  case closeOff =>
    have closed : x.overlongCloseOff = { x with lane := { x.lane with sensorOwner := none } }.modifyItem r (fun k =>
        { (k.setTrail (k.lead + BitVec.ofNat 24 x.cfg.maxLength)) with overlong := true }) := by
      simp [Station.overlongCloseOff, owner, found, due]
    rw [show exec .overlongCloseOff ⟨x, q⟩ = .next ⟨x.overlongCloseOff, q⟩ from rfl, closed]
    rfl

/-! ### Windows (R10, R11) -/

theorem exec_windowClose (r : ItemRef) (h : Head) (x : Station) (q : List Instr) :
    exec (.windowClose r h) ⟨x, q⟩ = .next ⟨x.windowCloses r h, q⟩ := rfl

theorem Station.windowCloses_due {r : ItemRef} {h : Head} {i : Item} {t : Pos} (found : s.findItem r = some i)
    (trail : i.trail = some t) (opened : i.windows.get h = .opened) (due : dist t s.lane.pos = s.cfg.closeDistance h + 1) :
    s.windowCloses r h = (s.modifyItem r (Item.closeWindow h)).deliverClose i h := by
  simp [Station.windowCloses, found, trail, opened, due]

theorem Station.windowOpens_due {r : ItemRef} {h : Head} {i : Item} (found : s.findItem r = some i)
    (shut : i.windows.get h = .notYetOpen) (due : dist i.lead s.lane.pos = s.cfg.openDistance h) :
    s.windowOpens r h = if h = .scale then
        (s.modifyItem r (fun x => { x with windows := x.windows.set h .opened })).scaleWindowOpens r
      else s.modifyItem r (fun x => { x with windows := x.windows.set h .opened }) := by
  cases h <;> simp [Station.windowOpens, found, shut, due]

/-- Two writes of one item are one write, the ref kept. -/
theorem Station.modifyItem_modifyItem (r : ItemRef) {f : Item → Item} (g : Item → Item) (keeps : ∀ i : Item, (f i).ref = i.ref) :
    (s.modifyItem r f).modifyItem r g = s.modifyItem r (g ∘ f) := by
  unfold Station.modifyItem
  simp only [List.map_map]
  congr 3
  funext i
  by_cases own : i.ref = r
  · simp [own, keeps]
  · simp [own]

/-- Settles O15: the window by its head and the calibration record, and the gauge close as one write of its item. -/
theorem windowOpenAndGaugeClose : Obligations.WindowOpenAndGaugeClose := by
  unfold Obligations.WindowOpenAndGaugeClose
  refine ⟨fun x q r h i found shut due => ?opens, fun x q r i t found trail opened due => ?closes⟩
  case opens =>
    intro opened
    have plain : x.modifyItem r (fun k => { k with windows := k.windows.set h .opened }) = opened false x.measurement := by
      simp [opened, Station.modifyItem]
    rw [show exec (.windowOpen r h) ⟨x, q⟩ = .next ⟨x.windowOpens r h, q⟩ from rfl, x.windowOpens_due found shut due]
    congr 2
    by_cases scale : h = .scale
    · rw [if_pos scale]
      split
      next g pending =>
        have chosen := Station.modifyItem_modifyItem { x with measurement := { x.measurement with calibration := .chosen g r } } r
          (f := fun k => { k with windows := k.windows.set h .opened }) (fun k => { k with calMark := true }) fun _ => rfl
        rw [Station.scaleWindowOpens_of_pending _ _ (by exact pending), if_pos scale]
        refine chosen.trans ?_
        simp [opened, Station.modifyItem]
      next none => rw [Station.scaleWindowOpens_of_not_pending _ _ (by exact none), plain]
    · rw [if_neg scale, plain]
      split
      · rw [if_neg scale]
      · rfl
  case closes =>
    rw [exec_windowClose, x.windowCloses_due (h := .gauge) found trail opened due]
    have own : i.ref = r := x.findItem_ref found
    rw [Station.deliverClose, own, Station.gaugeClose, Station.modifyItem_modifyItem (f := Item.closeWindow .gauge) _ _ _ fun _ => rfl,
      Station.modifyItem]
    simp only [Function.comp_def, Item.closeWindow, PerHead.set, PerHead.toList, List.all_cons, List.all_nil,
      show WindowState.over .closed = true from rfl,
      Bool.and_true, Bool.and_eq_true]

end Sys2Proof.Machine
end

section
/-! SUPPORT. The head lines (chapter 2): symbols stored or dropped, the framer's moves one symbol at a time and over a whole packet,
and the statements these settle. -/

namespace Sys2Proof.Machine

variable (s : Station)

/-! ### Receivers put back -/

theorem PerHead.set_get {α : Type} (p : PerHead α) (h : Head) : p.set h (p.get h) = p := by
  cases h <;> rfl

theorem PerHead.set_set {α : Type} (p : PerHead α) (h : Head) (a b : α) : (p.set h a).set h b = p.set h b := by
  cases h <;> rfl

theorem PerHead.get_set_same {α : Type} (p : PerHead α) (h : Head) (a : α) : (p.set h a).get h = a := by
  cases h <;> rfl

theorem Station.withReceiver_get (h : Head) : s.withReceiver h (s.receivers.get h) = s := by
  rw [Station.withReceiver, PerHead.set_get]

theorem Station.withReceiver_withReceiver (h : Head) (a b : Receiver) : (s.withReceiver h a).withReceiver h b = s.withReceiver h b := by
  simp only [Station.withReceiver, PerHead.set_set]

/-! ### Arrivals (R23, R24) -/

theorem lineDisabled_iff (c : Settings) (h : Head) :
    lineDisabled c h = true ↔ c.acceptValue.get h &&& ~~~(c.acceptMask.get h) ≠ 0 := by
  simp [lineDisabled]

/-- Settles O25: a symbol by the station state, the line and the room in its FIFO. -/
theorem headSymbolArrival : Obligations.HeadSymbolArrival := by
  unfold Obligations.HeadSymbolArrival
  intro x q h sym r disabled
  have arrives : exec (.headSymbolArrival h sym) ⟨x, q⟩ = .next ⟨x.symbolArrives h sym, q⟩ := rfl
  rw [arrives]
  have enabled (apart : ¬ disabled) : lineDisabled x.cfg h = false := by
    rwa [← Bool.not_eq_true, lineDisabled_iff]
  refine ⟨fun ignored => ?_, fun configured apart room => ?_, fun configured apart full => ?_⟩
  · have discards : (!x.ready || lineDisabled x.cfg h) = true := by
      rw [Bool.or_eq_true, lineDisabled_iff]
      exact ignored.imp (fun loading => by rw [x.ready_eq_false loading]; rfl) id
    rw [Station.symbolArrives, if_pos discards]
  · simp [Station.symbolArrives, x.ready_iff.mpr configured, enabled apart, Config.fifoCapacity, r, room, Station.withReceiver]
  · simp [Station.symbolArrives, x.ready_iff.mpr configured, enabled apart, Config.fifoCapacity, r, Nat.not_lt.mpr full,
      Station.withReceiver, Station.raise, Flag.bit, Flag.index]

/-! ### The framer's moves (R25 to R32) -/

theorem exec_framerTakeSymbol (h : Head) (x : Station) (q : List Instr) :
    exec (.framerTakeSymbol h) ⟨x, q⟩ = .next ⟨x.framerTake h, q⟩ := rfl

section take

variable {h : Head} {sym : Symbol} {mark : Bool} {rest : List FifoSymbol}

/-- A symbol without an overrun mark is framed as it is. -/
theorem Station.framerTake_of_unmarked (front : (s.receivers.get h).fifo = ⟨sym, false⟩ :: rest)
    (takes : ∀ p, (s.receivers.get h).framer ≠ .handOver p) :
    s.framerTake h = s.frameSymbol h { s.receivers.get h with fifo := rest } sym := by
  unfold Station.framerTake
  dsimp only
  split
  next p holding => exact absurd holding (takes p)
  next empty _ => cases front.symm.trans empty
  next same _ =>
    cases front.symm.trans same
    rfl

/-- A symbol with one is framed behind the gap it marks. -/
theorem Station.framerTake_of_marked (front : (s.receivers.get h).fifo = ⟨sym, true⟩ :: rest)
    (takes : ∀ p, (s.receivers.get h).framer ≠ .handOver p) :
    s.framerTake h = (s.overrunGap { s.receivers.get h with fifo := rest }).1.frameSymbol h
      (s.overrunGap { s.receivers.get h with fifo := rest }).2 sym := by
  unfold Station.framerTake
  dsimp only
  split
  next p holding => exact absurd holding (takes p)
  next empty _ => cases front.symm.trans empty
  next same _ =>
    cases front.symm.trans same
    rfl

/-- A gap in HUNT takes the lead progress to 0. -/
theorem Station.overrunGap_of_hunt {r : Receiver} {p : LeadProgress} (hunts : r.framer = .hunt p) :
    s.overrunGap r = (s, { r with framer := .hunt .zero }) := by
  simp [Station.overrunGap, hunts]

/-- A gap in a packet spoils it. -/
theorem Station.overrunGap_of_packet {r : Receiver} (apart : ∀ p, r.framer ≠ .hunt p) (takes : ∀ p, r.framer ≠ .handOver p) :
    s.overrunGap r = (s.formatError, { r with framer := .hunt .zero }) := by
  unfold Station.overrunGap
  split
  next p hunts => exact absurd hunts (apart p)
  next p holding => exact absurd holding (takes p)
  all_goals rfl

end take

theorem Station.frameSymbol_of_hunt (h : Head) {r : Receiver} {p : LeadProgress} (hunts : r.framer = .hunt p) (sym : Symbol) :
    s.frameSymbol h r sym = s.withReceiver h { r with framer := huntStep p sym } := by
  simp [Station.frameSymbol, hunts]

theorem huntStep_eq (p : LeadProgress) (sym : Symbol) : huntStep p sym =
    if sym = 0x3FF then (if p = .two then .type else .hunt .one) else if sym = 0 ∧ p = .one then .hunt .two else .hunt .zero := by
  cases p <;> simp [huntStep]

/-- The count of one bits of a code, as a count of places. -/
theorem typeCheck_eq (code : Byte) : typeCheck code = (List.range 8).countP (fun i => code.getLsbD i) % 4 := by
  rw [typeCheck, List.countP_eq_length_filter]

theorem qualified_iff (c : Settings) (h : Head) (sym : Symbol) : qualified c h sym = true ↔
    sym.toNat / 256 = (List.range 8).countP (fun i => (BitVec.ofNat 8 sym.toNat).getLsbD i) % 4 ∧
      BitVec.ofNat 8 sym.toNat &&& c.acceptMask.get h = c.acceptValue.get h &&& c.acceptMask.get h := by
  simp [qualified, typeCodeOf, typeCheck_eq]

/-- Settles O26: the moves in HUNT, and each way a packet in assembly ends. -/
theorem framerTakes : Obligations.FramerTakes := by
  unfold Obligations.FramerTakes
  refine ⟨fun x q h p sym mark rest hunts front => ?hunt, fun x q h sym mark rest => ?packet⟩
  case hunt =>
    have takes : ∀ p', (x.receivers.get h).framer ≠ .handOver p' := fun p' holding => by cases hunts.symm.trans holding
    rw [exec_framerTakeSymbol]
    cases mark with
    | false =>
      rw [x.framerTake_of_unmarked front takes, x.frameSymbol_of_hunt h (by exact hunts), huntStep_eq]
      simp [Station.withReceiver]
    | true =>
      rw [x.framerTake_of_marked front takes, x.overrunGap_of_hunt (by exact hunts), Station.frameSymbol_of_hunt _ h rfl, huntStep_eq]
      simp [Station.withReceiver]
  case packet =>
    intro r spoiled front
    rw [exec_framerTakeSymbol]
    have spoils (f : Framer) : (x.withReceiver h { r with fifo := rest, framer := f }).formatError = spoiled f := rfl
    refine ⟨fun t n count symbols sum checks unmarked wrong => ?check, fun t n sum counts unmarked forbidden => ?count,
      fun types unmarked unqualified => ?type, fun marked apart takes => ?gap⟩
    case check =>
      subst unmarked
      rw [x.framerTake_of_unmarked front fun p holding => by cases checks.symm.trans holding]
      rw [Station.frameSymbol, show ({ x.receivers.get h with fifo := rest } : Receiver).framer = _ from checks]
      dsimp only
      rw [if_neg wrong]
      exact congrArg _ (congrArg (State.mk · q) (spoils _))
    case count =>
      subst unmarked
      have refused : ¬ countAllowed x.cfg h t sym.toNat = true := by
        cases h with
        | scale => cases wide : x.cfg.wide <;> simp [countAllowed, wide] at forbidden ⊢ <;> omega
        | _ => simp [countAllowed] at forbidden ⊢; omega
      rw [x.framerTake_of_unmarked front fun p holding => by cases counts.symm.trans holding]
      rw [Station.frameSymbol, show ({ x.receivers.get h with fifo := rest } : Receiver).framer = _ from counts]
      dsimp only
      rw [if_neg refused]
      exact congrArg _ (congrArg (State.mk · q) (spoils _))
    case type =>
      subst unmarked
      rw [x.framerTake_of_unmarked front fun p holding => by cases types.symm.trans holding]
      rw [Station.frameSymbol, show ({ x.receivers.get h with fifo := rest } : Receiver).framer = _ from types]
      dsimp only
      rw [if_neg (mt (qualified_iff x.cfg h sym).mp unqualified), huntStep_eq]
      simp [Station.withReceiver, r]
    case gap =>
      subst marked
      rw [x.framerTake_of_marked front takes, x.overrunGap_of_packet (by exact apart) (by exact takes), Station.frameSymbol_of_hunt _ h rfl, huntStep_eq,
        ← spoils]
      simp [r, Station.withReceiver, Station.formatError, Station.raise]

/-! ### A whole packet (R26 to R33) -/

/-- A symbol that waits without an overrun mark. -/
def unmarked (sym : Symbol) : FifoSymbol := ⟨sym, false⟩

section packet

variable (h : Head) (r : Receiver) {sym : Symbol} {rest : List FifoSymbol}

/-- One line's receiver with its FIFO and its framer's state put in place. -/
def Station.framing (fifo : List FifoSymbol) (f : Framer) (s : Station) : Station := s.withReceiver h { r with fifo := fifo, framer := f }

theorem Station.framerTake_framing {f : Framer} (takes : ∀ p, f ≠ .handOver p) :
    (s.framing h r (unmarked sym :: rest) f).framerTake h =
      (s.framing h r (unmarked sym :: rest) f).frameSymbol h { r with fifo := rest, framer := f } sym := by
  have put : (s.framing h r (unmarked sym :: rest) f).receivers.get h = { r with fifo := unmarked sym :: rest, framer := f } :=
    PerHead.get_set_same _ h _
  rw [Station.framerTake_of_unmarked _ (by rw [put]; rfl) (by rw [put]; exact takes), put]

theorem Station.framing_withReceiver (fifo fifo' : List FifoSymbol) (f f' : Framer) :
    (s.framing h r fifo f).withReceiver h { r with fifo := fifo', framer := f' } = s.framing h r fifo' f' :=
  s.withReceiver_withReceiver h _ _

theorem Station.framing_hunt (p : LeadProgress) : (s.framing h r (unmarked sym :: rest) (.hunt p)).framerTake h =
    s.framing h r rest (huntStep p sym) := by
  rw [Station.framerTake_framing _ _ _ fun _ => by simp]
  exact s.framing_withReceiver ..

theorem Station.framing_type (ok : qualified s.cfg h sym = true) : (s.framing h r (unmarked sym :: rest) .type).framerTake h =
    s.framing h r rest (.second (typeCodeOf sym) sym) := by
  rw [Station.framerTake_framing _ _ _ fun _ => by simp]
  exact (if_pos ok).trans (s.framing_withReceiver ..)

theorem Station.framing_second (t : Byte) (sum : Symbol) : (s.framing h r (unmarked sym :: rest) (.second t sum)).framerTake h =
    s.framing h r rest (.count t (BitVec.ofNat 8 sym.toNat) (sum + sym)) := by
  rw [Station.framerTake_framing _ _ _ fun _ => by simp]
  exact s.framing_withReceiver ..

/-- An allowed count is followed by its data symbols, or by the check where it is 0. -/
theorem Station.framing_count {t n : Byte} {sum : Symbol} (ok : countAllowed s.cfg h t sym.toNat = true) :
    (s.framing h r (unmarked sym :: rest) (.count t n sum)).framerTake h =
      s.framing h r rest (if sym.toNat = 0 then .check t n 0 [] (sum + sym)
        else .data t n sym.toNat [] sym.toNat (sum + sym)) := by
  rw [Station.framerTake_framing _ _ _ fun _ => by simp]
  refine (if_pos ok).trans ?_
  split_ifs <;> exact s.framing_withReceiver ..

theorem Station.framing_data (t n : Byte) (count remaining : Nat) (symbols : List Symbol) (sum : Symbol) :
    (s.framing h r (unmarked sym :: rest) (.data t n count symbols remaining sum)).framerTake h =
      s.framing h r rest (if remaining ≤ 1 then .check t n count (symbols ++ [sym]) (sum + sym)
        else .data t n count (symbols ++ [sym]) (remaining - 1) (sum + sym)) := by
  rw [Station.framerTake_framing _ _ _ fun _ => by simp, Station.frameSymbol]
  dsimp only
  split_ifs <;> exact s.framing_withReceiver ..

/-- The data symbols of a packet, one take each. -/
theorem Station.framing_iterate_data (t n : Byte) (count : Nat) (behind : List FifoSymbol) (data : List Symbol) (some : data ≠ []) :
    ∀ (symbols : List Symbol) (sum : Symbol),
      (Station.framerTake h)^[data.length] (s.framing h r (data.map unmarked ++ behind) (.data t n count symbols data.length sum)) =
        s.framing h r behind (.check t n count (symbols ++ data) (data.foldl (fun a b => a + b) sum)) := by
  induction data with
  | nil => exact absurd rfl some
  | cons a data ih =>
    intro symbols sum
    rw [List.length_cons, Function.iterate_succ_apply, List.map_cons, List.cons_append, Station.framing_data]
    cases data with
    | nil => rfl
    | cons b data =>
      rw [if_neg (by simp), Nat.add_sub_cancel, ih (by simp), List.append_assoc, List.singleton_append]
      rfl

/-- A count and its data symbols. -/
theorem Station.framing_iterate_count {t n : Byte} {sum count : Symbol} {behind : List FifoSymbol} {data : List Symbol}
    (ok : countAllowed s.cfg h t count.toNat = true) (length : count.toNat = data.length) :
    (Station.framerTake h)^[data.length + 1]
        (s.framing h r (unmarked count :: (data.map unmarked ++ behind)) (.count t n sum)) =
      s.framing h r behind (.check t n data.length data (data.foldl (fun a b => a + b) (sum + count))) := by
  rw [Function.iterate_succ_apply, s.framing_count h r ok, length]
  cases data with
  | nil => rfl
  | cons a data =>
    rw [if_neg (by simp), s.framing_iterate_data h r _ _ _ _ _ (by simp), List.nil_append]

/-- A packet of qualified type and allowed count, up to its check. -/
theorem Station.framing_iterate_packet {type second count : Symbol} {behind : List FifoSymbol} {data : List Symbol}
    (typed : qualified s.cfg h type = true) (ok : countAllowed s.cfg h (typeCodeOf type) count.toNat = true)
    (length : count.toNat = data.length) :
    (Station.framerTake h)^[data.length + 6]
        (s.framing h r (([0x3FF, 0x000, 0x3FF, type, second, count] ++ data).map unmarked ++ behind) (.hunt .zero)) =
      s.framing h r behind (.check (typeCodeOf type) (BitVec.ofNat 8 second.toNat) data.length data
        (data.foldl (fun a b => a + b) (type + second + count))) := by
  have lead : (Station.framerTake h)^[5]
      (s.framing h r (([0x3FF, 0x000, 0x3FF, type, second, count] ++ data).map unmarked ++ behind) (.hunt .zero)) =
      s.framing h r (unmarked count :: (data.map unmarked ++ behind))
        (.count (typeCodeOf type) (BitVec.ofNat 8 second.toNat) (type + second)) := by
    simp only [Function.iterate_succ_apply, Function.iterate_zero_apply, List.cons_append, List.nil_append, List.map_cons]
    rw [s.framing_hunt, show huntStep .zero 0x3FF = .hunt .one from rfl, s.framing_hunt,
      show huntStep .one 0x000 = .hunt .two from rfl, s.framing_hunt, show huntStep .two 0x3FF = .type from rfl,
      s.framing_type h r typed, s.framing_second]
  rw [show data.length + 6 = (data.length + 1) + 5 from rfl, Function.iterate_add_apply, lead, s.framing_iterate_count h r ok length]

/-- A right check symbol ends the packet. -/
theorem Station.framing_check (t n : Byte) (count : Nat) (symbols : List Symbol) (sum : Symbol) :
    (s.framing h r (unmarked sum :: rest) (.check t n count symbols sum)).framerTake h =
      (s.framing h r (unmarked sum :: rest) (.check t n count symbols sum)).acceptPacket h
        { r with fifo := rest, framer := .check t n count symbols sum } t n count symbols := by
  rw [Station.framerTake_framing _ _ _ fun _ => by simp]
  exact if_pos rfl

/-- The packet in HAND-OVER. -/
def Station.framedPacket (t n : Byte) (symbols : List Symbol) (s : Station) : Packet :=
  { typeCode := t, second := n, count := symbols.length, symbols := symbols, stamp := s.lane.pos
    gapMark := (sequenced h && sequenceGap r.lastSequence n) && decide (h = .scale) }

/-- The station with the packet accepted: its sequence number kept, and a gap counted. -/
theorem Station.framing_acceptPacket (fifo : List FifoSymbol) (f f' : Framer) (t n : Byte) (symbols : List Symbol) :
    (s.framing h r fifo f).acceptPacket h { r with fifo := rest, framer := f' } t n symbols.length symbols =
      if sequenced h && sequenceGap r.lastSequence n then
        (s.withReceiver h { r with
          fifo := rest, framer := .handOver (s.framedPacket h r t n symbols)
          lastSequence := if sequenced h then some n else r.lastSequence }).countGap h
      else s.withReceiver h { r with
        fifo := rest, framer := .handOver (s.framedPacket h r t n symbols)
        lastSequence := if sequenced h then some n else r.lastSequence } := by
  have put (r' : Receiver) : (s.framing h r fifo f).withReceiver h r' = s.withReceiver h r' := s.withReceiver_withReceiver h _ _
  simp only [Station.acceptPacket, put]
  rfl

end packet

/-- So many takes of one line's framer, as the machine runs them. -/
theorem run_framerTakes (h : Head) (n : Nat) : ∀ x : Station,
    Host.Core.run Sys2Proof.core n ⟨x, List.replicate n (.framerTakeSymbol h)⟩ = .next ⟨(Station.framerTake h)^[n] x, []⟩ := by
  induction n with
  | zero => exact fun _ => rfl
  | succ n ih => exact fun x => ih (x.framerTake h)

theorem sequenceGap_iff (last : Option Byte) (n : Byte) : sequenceGap last n = true ↔ ∃ l, last = some l ∧ n ≠ l + 1 := by
  cases last <;> simp [sequenceGap]

/-- Settles O27: the lead, the three fields, the data and the check, one take each. -/
theorem wellFormedPacketIsFramed : Obligations.WellFormedPacketIsFramed := by
  unfold Obligations.WellFormedPacketIsFramed
  intro x h type second count data behind r code sum hunts _ check accepted length allowed fifo
  have typed : qualified x.cfg h type = true := (qualified_iff x.cfg h type).mpr ⟨check, accepted⟩
  have ok : countAllowed x.cfg h (typeCodeOf type) count.toNat = true := by
    have same : typeCodeOf type = code := rfl
    rw [same]
    cases h with
    | scale => cases wide : x.cfg.wide <;> simp [countAllowed, wide] at allowed ⊢ <;> omega
    | _ => simpa [countAllowed, and_assoc] using allowed
  have start : x = x.framing h r (([0x3FF, 0x000, 0x3FF, type, second, count] ++ data).map unmarked ++ unmarked sum :: behind)
      (.hunt .zero) := by
    have same : r = { r with
        fifo := ([0x3FF, 0x000, 0x3FF, type, second, count] ++ data).map unmarked ++ unmarked sum :: behind
        framer := .hunt .zero } := by
      rw [← hunts, show ([0x3FF, 0x000, 0x3FF, type, second, count] ++ data).map unmarked ++ unmarked sum :: behind = r.fifo by
        rw [fifo]
        simp [unmarked]]
    rw [Station.framing, ← same]
    exact (x.withReceiver_get h).symm
  have framed : (Station.framerTake h)^[data.length + 7] x =
      (x.framing h r (unmarked sum :: behind) (.check code (BitVec.ofNat 8 second.toNat) data.length data sum)).acceptPacket h
        { r with fifo := behind, framer := .check code (BitVec.ofNat 8 second.toNat) data.length data sum }
        code (BitVec.ofNat 8 second.toNat) data.length data := by
    rw [Nat.add_succ, Function.iterate_succ_apply']
    conv_lhs => rw [start]
    rw [x.framing_iterate_packet h r typed ok length]
    exact x.framing_check h r ..
  rw [run_framerTakes, framed, x.framing_acceptPacket]
  refine ⟨_, x.framedPacket h r code (BitVec.ofNat 8 second.toNat) data, rfl, ?_, rfl, rfl, rfl, rfl, rfl, ?_⟩
  · intro gap
    have gapped : sequenceGap r.lastSequence (BitVec.ofNat 8 second.toNat) = true ↔ gap := sequenceGap_iff ..
    generalize sequenceGap r.lastSequence (BitVec.ofNat 8 second.toNat) = b at gapped
    cases b <;> cases h <;> simp [← gapped, sequenced, Station.withReceiver, Station.countGap]
  · rw [← sequenceGap_iff]
    cases h <;> simp [Station.framedPacket, sequenced]

end Sys2Proof.Machine
end

section
/-! SUPPORT. Attribution (R12 to R14, R39, R56, R57, R71): what a hand-over comes to by the windows that hold its stamp, and the
statements these settle. -/

namespace Sys2Proof.Machine

variable (s : Station)

/-! ### The hand-over -/

theorem exec_handOver (h : Head) (x : Station) (q : List Instr) : exec (.handOver h) ⟨x, q⟩ = .next ⟨x.handsOver h, q⟩ := rfl

section owners

variable {h : Head} {p : Packet}

theorem Station.handsOver_of_none (holds : (s.receivers.get h).framer = .handOver p) (none : (s.hunting h).holders h p = []) :
    s.handsOver h = (s.hunting h).strayPacket h p := by
  rw [s.handsOver_of_packet holds, none]

theorem Station.handsOver_of_one {i : Item} (holds : (s.receivers.get h).framer = .handOver p) (one : (s.hunting h).holders h p = [i]) :
    s.handsOver h = if i.windows.get h = .forceClosed then (s.hunting h).countStray else (s.hunting h).givePacket i h p := by
  rw [s.handsOver_of_packet holds, one]

theorem Station.handsOver_of_many (holds : (s.receivers.get h).framer = .handOver p) (many : 2 ≤ ((s.hunting h).holders h p).length) :
    s.handsOver h = (s.hunting h).crowdedPacket h p := by
  rw [s.handsOver_of_packet holds]
  split
  next none => rw [none] at many; simp at many
  next one => rw [one] at many; simp at many
  next => rfl

end owners

/-! ### A packet given to its item -/

/-- The pairs of a gauge packet, one maximum at a time. -/
theorem foldl_raiseGauge (l : List (Nat × Nat)) : ∀ i : Item, l.foldl Item.raiseGauge i =
    { i with
      maxThickness := l.foldl (fun m t => raiseMax m t.1) i.maxThickness
      maxWidth := l.foldl (fun m t => raiseMax m t.2) i.maxWidth } := by
  induction l with
  | nil => exact fun _ => rfl
  | cons a l ih => exact fun i => ih (i.raiseGauge a)

/-- The most recent 64 samples. -/
def recent64 (l : List Int) : List Int := l.drop (l.length - 64)

theorem SampleBuffer.append_eq (xs : List Int) (b : SampleBuffer) :
    b.append xs = { b with samples := recent64 (b.samples ++ xs) } := rfl

/-- The buffer an item's samples go to, with the samples stored: its own, or a free one, A first; none where both are taken. -/
def Measurement.stored (r : ItemRef) (xs : List Int) (m : Measurement) : Option Measurement :=
  if m.bufferA.holder = some r then some { m with bufferA := { m.bufferA with samples := recent64 (m.bufferA.samples ++ xs) } }
  else if m.bufferB.holder = some r then some { m with bufferB := { m.bufferB with samples := recent64 (m.bufferB.samples ++ xs) } }
  else if m.bufferA.holder = none then some { m with bufferA := ⟨some r, recent64 xs, none⟩ }
  else if m.bufferB.holder = none then some { m with bufferB := ⟨some r, recent64 xs, none⟩ }
  else none

/-- A scale packet given to an item: its samples stored and its gap noted, or the packet refused. -/
theorem Station.scalePacket_eq (i : Item) (xs : List Int) (g : Bool) : s.scalePacket i xs g =
    match (if i.bufferRefused then none else s.measurement.stored i.ref xs) with
    | some m => { s with measurement := m }.modifyItem i.ref (fun k => { k with gap := k.gap || g })
    | none => s.refuseBuffer i.ref := by
  unfold Station.scalePacket
  cases i.bufferRefused with
  | true => rfl
  | false =>
    rw [if_neg Bool.false_ne_true, if_neg Bool.false_ne_true]
    unfold Measurement.stored Measurement.bufferOf Measurement.takeBuffer
    by_cases ownA : s.measurement.bufferA.holder = some i.ref
    · simp [ownA, Station.storeSamples, Measurement.modifyBuffer, SampleBuffer.append_eq]
    by_cases ownB : s.measurement.bufferB.holder = some i.ref
    · simp [ownA, ownB, Station.storeSamples, Measurement.modifyBuffer, SampleBuffer.append_eq]
    by_cases freeA : s.measurement.bufferA.holder = none
    · simp [ownB, freeA, Station.storeSamples, Measurement.modifyBuffer, SampleBuffer.append_eq, SampleBuffer.free]
    by_cases freeB : s.measurement.bufferB.holder = none
    · simp [ownA, freeA, freeB, Station.storeSamples, Measurement.modifyBuffer, SampleBuffer.append_eq, SampleBuffer.free]
    · simp [ownA, ownB, freeA, freeB]

/-- Settles O28: the hand-over to the one item, by the head it is of and the buffer its samples find. -/
theorem packetToItsItem : Obligations.PacketToItsItem := by
  unfold Obligations.PacketToItsItem
  have toItem {x : Station} {h : Head} {p : Packet} {i : Item} (holds : (x.receivers.get h).framer = .handOver p)
      (one : x.holders h p = [i]) (live : i.windows.get h ≠ .forceClosed) :
      x.handsOver h = (x.hunting h).givePacket i h p := by
    rw [x.handsOver_of_one (i := i) holds (by exact one), if_neg live]
  refine ⟨fun x q h p i holds one live => ?plain, fun x q p i holds one live => ?scale⟩
  case plain =>
    intro hunting reading given counts
    rw [exec_handOver, toItem holds one live]
    have read (slot : Item → Item) (stored : Item.storeReading h reading = slot) :
        (x.hunting h).identifierPacket i h p = given slot counts := by
      subst stored
      unfold Station.identifierPacket
      dsimp only [counts]
      split_ifs <;> rfl
    refine ⟨fun isReader => ?_, fun isReader => ?_, fun isGauge => ?_⟩
    · subst isReader
      exact congrArg _ (congrArg (State.mk · q) (read _ rfl))
    · subst isReader
      exact congrArg _ (congrArg (State.mk · q) (read _ rfl))
    · subst isGauge
      simp only [Station.givePacket, Station.gaugePacket, foldl_raiseGauge]
      rfl
  case scale =>
    intro recent samples m given gap
    rw [exec_handOver, toItem holds one live, Station.givePacket, Station.scalePacket_eq]
    congr 2
    cases i.bufferRefused with
    | true => simp [given, m, Station.hunting, Station.refuseBuffer, Station.countMeasure, Station.modifyItem, Station.withReceiver]
    | false =>
      rw [if_neg Bool.false_ne_true, show (x.hunting .scale).measurement = m from rfl]
      unfold Measurement.stored
      simp only [true_and]
      split_ifs <;> rfl

/-! ### A packet no item takes -/

theorem Item.not_departed_of_windowHolds {i : Item} {c : Settings} {h : Head} {p : Pos} (holds : i.windowHolds c h p = true) :
    i.departed = false := by
  cases gone : i.departed with
  | false => rfl
  | true => simp [Item.windowHolds, gone] at holds

/-- A packet given to an item writes that item alone. -/
theorem Station.givePacket_queue (i : Item) (h : Head) (p : Packet) :
    ∃ f : Item → Item, (s.givePacket i h p).lane.queue = s.lane.queue.map (fun k => if k.ref = i.ref then f k else k) := by
  have read (h : Head) : (s.identifierPacket i h p).lane.queue = s.lane.queue.map (fun k => if k.ref = i.ref then
      k.storeReading h { subtype := p.second, symbols := p.symbols, verdict := verdictOf p.second p.symbols } else k) := by
    unfold Station.identifierPacket
    dsimp only
    split_ifs <;> rfl
  cases h with
  | reader0 => exact ⟨_, read _⟩
  | reader1 => exact ⟨_, read _⟩
  | gauge => exact ⟨_, rfl⟩
  | scale =>
    rw [Station.givePacket, Station.scalePacket_eq]
    split
    · exact ⟨_, rfl⟩
    · exact ⟨_, rfl⟩

/-- A packet of the scale for the tare leaves the lane. -/
theorem Station.strayPacket_queue (h : Head) (p : Packet) : (s.strayPacket h p).lane.queue = s.lane.queue := by
  cases h with
  | scale => exact s.emptyPacket_changes _ .items (by decide)
  | _ => rfl

/-- A departed item goes through a hand-over as it is. -/
theorem Station.mem_queue_handsOver {h : Head} {p : Packet} {i : Item} (packet : (s.receivers.get h).framer = .handOver p)
    (distinct : (s.lane.queue.map Item.ref).Nodup) (listed : i ∈ s.lane.queue) (gone : i.departed = true) :
    i ∈ (s.handsOver h).lane.queue := by
  have outside : i.windowHolds (s.hunting h).cfg h p.stamp = false := by
    by_contra holds
    rw [Item.not_departed_of_windowHolds (by simpa using holds)] at gone
    cases gone
  match held : (s.hunting h).holders h p with
  | [] =>
    rw [s.handsOver_of_none packet held, Station.strayPacket_queue]
    exact listed
  | [k] =>
    rw [s.handsOver_of_one packet held]
    split_ifs
    · exact listed
    · have among : k ∈ (s.hunting h).holders h p := by simp [held]
      obtain ⟨there, holds⟩ := List.mem_filter.mp among
      have other : i.ref ≠ k.ref := fun same => by
        have equal := List.inj_on_of_nodup_map distinct listed there same
        rw [equal, holds] at outside
        cases outside
      obtain ⟨f, written⟩ := (s.hunting h).givePacket_queue k h p
      rw [written, List.mem_map]
      exact ⟨i, listed, if_neg other⟩
  | a :: b :: l =>
    rw [s.handsOver_of_many packet (by simp [held])]
    refine List.mem_map.mpr ⟨i, listed, ?_⟩
    rw [Item.crowdBy, outside]
    rfl

/-- What an empty packet's mean makes of tare, run, counts and flags. -/
def Station.afterMean (mean : Int) (s : Station) : Station :=
  let moved (tare : Option Int) (run : Nat) : Measurement := { s.measurement with tare := tare, rejectedRun := run }
  let drifted (m : Measurement) : Station :=
    { s with measurement := m, records := { s.records with flags := s.records.flags ||| 16#13 } }
  match s.measurement.tare with
  | none => { s with measurement := moved (some mean) s.measurement.rejectedRun }
  | some t =>
    if (mean - t).natAbs ≤ s.cfg.tareLimit then { s with measurement := moved (some (t + (mean - t).tdiv 8)) 0 }
    else if s.measurement.rejectedRun = 3 then
      drifted { moved (some mean) 0 with counts := { s.measurement.counts with
        tareRezeros := s.measurement.counts.tareRezeros + 1 } }
    else drifted (moved (some t) (s.measurement.rejectedRun + 1))

theorem Station.emptyPacket_eq {xs : List Int} (filled : xs ≠ []) : s.emptyPacket xs = s.afterMean (roundedMean xs) := by
  unfold Station.emptyPacket Station.afterMean
  rw [if_neg filled]
  generalize roundedMean xs = mean
  cases s.measurement.tare with
  | none => rfl
  | some t =>
    dsimp only [tareStep]
    by_cases near : (mean - t).natAbs ≤ s.cfg.tareLimit
    · simp only [if_pos near]
      rfl
    · by_cases fourth : s.measurement.rejectedRun = 3
      · simp only [if_neg near, fourth, if_true]
        rfl
      · simp only [if_neg near, if_neg fourth, show ¬ s.measurement.rejectedRun + 1 = 4 from by omega, if_false]
        rfl

/-- Settles O29: the hand-over by the number of windows that hold the stamp, and what it leaves of departed items. -/
theorem packetToNoItem : Obligations.PacketToNoItem := by
  unfold Obligations.PacketToNoItem
  intro x q h p holds held hunting stray
  rw [exec_handOver]
  refine ⟨fun i listed => ?live, fun distinct => ⟨_, rfl, fun i listed gone => ?departed⟩, fun none other => ?stray,
    fun i one closed => ?closed, fun many => ?crowded, fun none scale => ?empty⟩
  case live => exact Item.not_departed_of_windowHolds (List.mem_filter.mp listed).2
  case departed => exact x.mem_queue_handsOver holds distinct listed gone
  case stray =>
    rw [x.handsOver_of_none holds (by exact none)]
    cases h with
    | scale => exact absurd rfl other
    | _ => rfl
  case closed =>
    rw [x.handsOver_of_one (i := i) holds (by exact one), if_pos closed]
    rfl
  case crowded =>
    rw [x.handsOver_of_many holds (by exact many)]
    rfl
  case empty =>
    intro xs mean moved drifted
    subst scale
    rw [x.handsOver_of_none holds (by exact none)]
    congr 2
    by_cases empty : xs = []
    · rw [if_pos empty]
      exact if_pos empty
    · rw [if_neg empty]
      exact Station.emptyPacket_eq (x.hunting .scale) empty

end Sys2Proof.Machine
end

section
/-! SUPPORT. Codes and keys (chapter 3): digits read and printed, the check sums, the verdicts of the subtypes, and the statements
these settle. -/

namespace Sys2Proof.Machine

/-! ### Digits (R40) -/

/-- A run of digits as the head prints them. -/
def printedDigits (l : List Nat) : List Symbol := l.map (fun d => BitVec.ofNat 10 (0x30 + d))

/-- Decimal digits. -/
def AllDigits (l : List Nat) : Prop := ∀ d ∈ l, d ≤ 9

theorem digitOf_eq_some (s : Symbol) (d : Nat) : digitOf s = some d ↔ d ≤ 9 ∧ s = BitVec.ofNat 10 (0x30 + d) := by
  rw [← BitVec.toNat_inj, BitVec.toNat_ofNat]
  simp only [digitOf, Option.ite_none_right_eq_some, Option.some.injEq]
  omega

theorem digitsOf_eq_some (symbols : List Symbol) (l : List Nat) :
    digitsOf symbols = some l ↔ AllDigits l ∧ symbols = printedDigits l := by
  induction symbols generalizing l with
  | nil => cases l <;> simp [digitsOf, AllDigits, printedDigits]
  | cons s symbols ih =>
    cases l with
    | nil =>
      simp only [digitsOf, printedDigits, List.map_nil, reduceCtorEq, and_false, iff_false]
      split <;> simp
    | cons d l =>
      have both : digitsOf (s :: symbols) = some (d :: l) ↔ digitOf s = some d ∧ digitsOf symbols = some l := by
        rw [digitsOf]
        split <;> simp_all
      rw [both, digitOf_eq_some, ih]
      simp only [AllDigits, printedDigits, List.forall_mem_cons, List.map_cons, List.cons.injEq]
      tauto

theorem length_printedDigits (l : List Nat) : (printedDigits l).length = l.length := List.length_map _

theorem AllDigits.append {a b : List Nat} (ha : AllDigits a) (hb : AllDigits b) : AllDigits (a ++ b) := fun d listed =>
  (List.mem_append.mp listed).elim (ha d) (hb d)

theorem AllDigits.of_subset {a b : List Nat} (h : AllDigits b) (sub : a ⊆ b) : AllDigits a := fun d listed => h d (sub listed)

theorem decimal_append (a b : List Nat) : decimal (a ++ b) = b.foldl (fun v d => v * 10 + d) (decimal a) := List.foldl_append

/-- A number of so many digits is below so many powers of ten. -/
theorem decimal_lt {l : List Nat} (h : AllDigits l) : decimal l < 10 ^ l.length := by
  induction l using List.reverseRecOn with
  | nil => decide
  | append_singleton l d ih =>
    have before := ih (h.of_subset (List.subset_append_left _ _))
    have digit : d ≤ 9 := h d (by simp)
    rw [decimal_append, List.foldl_cons, List.foldl_nil, List.length_append, List.length_singleton, Nat.pow_succ]
    omega

/-! ### Check sums (R41, R42) -/

/-- The sum of a list's values, each weighed by its place. -/
theorem sum_zipIdx_map (f : Nat × Nat → Nat) (l : List Nat) :
    (l.zipIdx.map f).sum = ((List.range l.length).map (fun n => f (l.getD n 0, n))).sum := by
  congr 1
  refine List.ext_getElem (by simp) fun n inside _ => ?_
  simp at inside
  simp [inside]

/-- One value's part in such a sum of a list's front. -/
theorem exists_sum_take_zipIdx_map (f : Nat × Nat → Nat) {m : Nat} {front : List Nat} (back : List Nat) (inside : front.length < m) :
    ∃ rest, ∀ d, (((front ++ d :: back).take m).zipIdx.map f).sum = rest + f (d, front.length) := by
  obtain ⟨n, rfl⟩ : ∃ n, m = front.length + (n + 1) := ⟨m - front.length - 1, by omega⟩
  refine ⟨(front.zipIdx.map f).sum + (((back.take n).zipIdx (front.length + 1)).map f).sum, fun d => ?_⟩
  rw [List.take_length_add_append, List.take_succ_cons, List.zipIdx_append, List.map_append, List.sum_append, List.zipIdx_cons,
    List.map_cons, List.sum_cons, Nat.zero_add]
  omega

/-- The value of a check character. -/
theorem checkValueOf_eq_some (c : Symbol) {v : Nat} (small : v ≤ 10) :
    checkValueOf c = some v ↔ c = if v = 10 then 0x58 else BitVec.ofNat 10 (0x30 + v) := by
  have isX : c.toNat = 0x58 ↔ c = 0x58 := by
    rw [← BitVec.toNat_inj]
    rfl
  unfold checkValueOf
  by_cases x : c.toNat = 0x58
  · have value := isX.mp x
    subst value
    rw [if_pos x, Option.some.injEq]
    split_ifs with ten
    · exact ⟨fun _ => rfl, fun _ => ten.symm⟩
    · refine ⟨fun same => absurd same.symm ten, fun same => ?_⟩
      have number := congrArg BitVec.toNat same
      simp at number
      omega
  · rw [if_neg x, digitOf_eq_some]
    split_ifs with ten
    · subst ten
      rw [← isX]
      exact ⟨fun h => absurd h.1 (by decide), fun h => absurd h x⟩
    · exact ⟨fun h => h.2, fun h => ⟨by omega, h⟩⟩

/-! ### 13-digit codes (R41, R44, R46) -/

section article

variable {code addOn : List Nat}

theorem articleSum_eq (length : code.length = 13) :
    articleSum (code ++ addOn) = ((List.range 13).map (fun n => (if n % 2 = 0 then 1 else 3) * code.getD n 0)).sum := by
  rw [articleSum, List.take_append_of_le_length length.ge, List.take_of_length_le length.le, sum_zipIdx_map, length]
  congr 2
  funext n
  split_ifs <;> simp

theorem decimalAt_code {place size : Nat} (length : code.length = 13) (inside : place + size ≤ 13) :
    decimalAt (code ++ addOn) place size = decimal ((code.drop place).take size) := by
  rw [decimalAt, List.drop_append_of_le_length (by omega), List.take_append_of_le_length (by rw [List.length_drop]; omega)]

theorem decimal_take_three_eq_iff (length : code.length = 13) (h : AllDigits code) :
    decimal (code.take 3) = 977 ↔ code.take 3 = [9, 7, 7] := by
  match code, length with
  | a :: b :: c :: l, _ =>
    have ha : a ≤ 9 := h a (by simp)
    have hb : b ≤ 9 := h b (by simp)
    have hc : c ≤ 9 := h c (by simp)
    simp only [List.take_succ_cons, List.take_zero, decimal, List.foldl_cons, List.foldl_nil, List.cons.injEq, and_true]
    omega

/-- The key of a valid 13-digit code. -/
theorem articleVerdict_printed {n : Nat} (length : code.length = 13) (h : AllDigits code) (more : addOn.length = n)
    (h' : AllDigits addOn) : articleVerdict n (printedDigits (code ++ addOn)) =
      if ((List.range 13).map (fun n => (if n % 2 = 0 then 1 else 3) * code.getD n 0)).sum % 10 = 0 then
        .valid (if code.take 3 = [9, 7, 7] then
          ⟨.serial, decimal ((code.drop 3).take 7) * 128 + (if n = 2 then decimal addOn else 100)⟩
        else ⟨.article, decimal code⟩)
      else .misread := by
  have whole : (code ++ addOn).length = 13 + n := by rw [List.length_append, length, more]
  have issue : (if n = 2 then decimalAt (code ++ addOn) 13 2 else 100) = if n = 2 then decimal addOn else 100 := by
    split_ifs with two
    · rw [decimalAt, List.drop_left' length, List.take_of_length_le (by omega)]
    · rfl
  rw [articleVerdict, (digitsOf_eq_some _ _).mpr ⟨h.append h', rfl⟩]
  simp only [whole, true_and, articleSum_eq length, articleKey, issue, decimalAt_code length (show 0 + 3 ≤ 13 by decide),
    decimalAt_code length (show 3 + 7 ≤ 13 by decide), decimalAt_code length (show 0 + 13 ≤ 13 by decide), List.drop_zero,
    decimal_take_three_eq_iff length h, List.take_of_length_le length.le]

/-- A reading of such a subtype that is no misread is 13 digits and the add-on. -/
theorem articleVerdict_ne_misread {n : Nat} {symbols : List Symbol} (read : articleVerdict n symbols ≠ .misread) :
    ∃ code addOn, symbols = printedDigits (code ++ addOn) ∧ (code.length = 13 ∧ AllDigits code) ∧ addOn.length = n ∧ AllDigits addOn := by
  unfold articleVerdict at read
  split at read
  next => exact absurd rfl read
  next digits printed =>
    obtain ⟨all, rfl⟩ := (digitsOf_eq_some _ _).mp printed
    split at read
    next valid =>
      refine ⟨digits.take 13, digits.drop 13, by rw [List.take_append_drop],
        ⟨?_, all.of_subset (List.take_subset _ _)⟩, ?_, all.of_subset (List.drop_subset _ _)⟩
      · rw [List.length_take, valid.1]
        omega
      · rw [List.length_drop, valid.1]
        omega
    next => exact absurd rfl read

end article

/-! ### 8-character codes (R42, R45) -/

section serial

variable {base addOn : List Nat}

/-- The check character of seven digits. -/
def checkSymbol (base : List Nat) : Symbol :=
  let v := (11 - ((List.range 7).map (fun n => (8 - n) * base.getD n 0)).sum % 11) % 11
  if v = 10 then 0x58 else BitVec.ofNat 10 (0x30 + v)

theorem serialSum_eq (length : base.length = 7) :
    serialSum base = ((List.range 7).map (fun n => (8 - n) * base.getD n 0)).sum := by
  rw [serialSum, List.take_of_length_le length.le, sum_zipIdx_map, length]

theorem checkValueOf_eq_check (length : base.length = 7) (c : Symbol) :
    checkValueOf c = some ((11 - serialSum base % 11) % 11) ↔ c = checkSymbol base := by
  rw [checkValueOf_eq_some c (by omega), serialSum_eq length, checkSymbol]

theorem serialVerdict_printed {n : Nat} (length : base.length = 7) (h : AllDigits base) (more : addOn.length = n)
    (h' : AllDigits addOn) (c : Symbol) : serialVerdict n (printedDigits base ++ c :: printedDigits addOn) =
      if c = checkSymbol base then .valid ⟨.serial, decimal base * 128 + (if n = 2 then decimal addOn else 100)⟩
      else .misread := by
  have seven : (printedDigits base).length = 7 := by rw [length_printedDigits, length]
  have front : (printedDigits base ++ c :: printedDigits addOn).take 7 = printedDigits base := List.take_left' seven
  have back : (printedDigits base ++ c :: printedDigits addOn).drop 8 = printedDigits addOn := by
    rw [List.append_cons, List.drop_left' (by rw [List.length_append, seven]; rfl)]
  have middle : (printedDigits base ++ c :: printedDigits addOn)[7]? = some c := by
    rw [List.getElem?_append_right seven.le, seven]
    rfl
  have whole : (printedDigits base ++ c :: printedDigits addOn).length = 8 + n := by
    rw [List.length_append, List.length_cons, seven, length_printedDigits, more]
    omega
  rw [serialVerdict, front, back, middle, (digitsOf_eq_some _ _).mpr ⟨h, rfl⟩, (digitsOf_eq_some _ _).mpr ⟨h', rfl⟩, Option.bind_some]
  cases value : checkValueOf c with
  | none =>
    have wrong : c ≠ checkSymbol base := fun same => by
      rw [(checkValueOf_eq_check length c).mpr same] at value
      cases value
    rw [if_neg wrong]
  | some v =>
    have right : v = (11 - serialSum base % 11) % 11 ↔ c = checkSymbol base := by
      rw [← checkValueOf_eq_check length, value, Option.some.injEq]
    simp only [whole, true_and, right]

theorem serialVerdict_ne_misread {n : Nat} {symbols : List Symbol} (read : serialVerdict n symbols ≠ .misread) :
    ∃ base addOn, symbols = printedDigits base ++ checkSymbol base :: printedDigits addOn ∧ (base.length = 7 ∧ AllDigits base) ∧
      addOn.length = n ∧ AllDigits addOn := by
  unfold serialVerdict at read
  split at read
  next base v addOn front middle back =>
    obtain ⟨all, front⟩ := (digitsOf_eq_some _ _).mp front
    obtain ⟨all', back⟩ := (digitsOf_eq_some _ _).mp back
    split at read
    next valid =>
      obtain ⟨length, rfl⟩ := valid
      obtain ⟨c, at7, value⟩ := Option.bind_eq_some_iff.mp middle
      have seven : base.length = 7 := by
        rw [← length_printedDigits, ← front, List.length_take]
        omega
      have check := (checkValueOf_eq_check seven c).mp value
      obtain ⟨inside, at7⟩ := List.getElem?_eq_some_iff.mp at7
      refine ⟨base, addOn, ?_, ⟨seven, all⟩, ?_, all'⟩
      · rw [← front, ← back, ← check, ← at7, List.getElem_cons_drop, List.take_append_drop]
      · rw [← length_printedDigits, ← back, List.length_drop]
        omega
    next => exact absurd rfl read
  next => exact absurd rfl read

end serial

/-! ### Slips (R43) -/

theorem slipVerdict_ne_misread {symbols : List Symbol} (read : slipVerdict symbols ≠ .misread) :
    ∃ l, symbols = [0x44, 0x53] ++ printedDigits l ∧ l.length = 17 ∧ AllDigits l := by
  unfold slipVerdict at read
  split at read
  next => exact absurd rfl read
  next digits back =>
    obtain ⟨all, back⟩ := (digitsOf_eq_some _ _).mp back
    split_ifs at read with valid
    · obtain ⟨length, front⟩ := valid
      have letters : symbols.take 2 = [0x44, 0x53] := by
        refine (List.map_injective_iff.mpr fun _ _ => BitVec.eq_of_toNat_eq) (?_ : (symbols.take 2).map BitVec.toNat = _)
        rw [front]
        rfl
      refine ⟨digits, by rw [← letters, ← back, List.take_append_drop], ?_, all⟩
      rw [← length_printedDigits, ← back, List.length_drop, length]
    · exact absurd rfl read

theorem slipVerdict_printed {consignment declared publisher : List Nat} (h : consignment.length = 8 ∧ AllDigits consignment)
    (h' : declared.length = 4 ∧ AllDigits declared) (h'' : publisher.length = 5 ∧ AllDigits publisher) :
    slipVerdict ([0x44, 0x53] ++ printedDigits (consignment ++ declared ++ publisher)) =
      .slip { number := decimal consignment, declared := decimal declared, publisher := decimal publisher } := by
  have whole : ([0x44, 0x53] ++ printedDigits (consignment ++ declared ++ publisher)).length = 19 := by
    simp [length_printedDigits, h.1, h'.1, h''.1]
  have number : decimalAt (consignment ++ declared ++ publisher) 0 8 = decimal consignment := by
    rw [decimalAt, List.drop_zero, List.append_assoc, List.take_left' h.1]
  have count : decimalAt (consignment ++ declared ++ publisher) 8 4 = decimal declared := by
    rw [decimalAt, List.append_assoc, List.drop_left' h.1, List.take_left' h'.1]
  have house : decimalAt (consignment ++ declared ++ publisher) 12 5 = decimal publisher := by
    rw [decimalAt, List.drop_left' (by rw [List.length_append, h.1, h'.1]), List.take_of_length_le h''.1.le]
  have read : digitsOf (([0x44, 0x53] ++ printedDigits (consignment ++ declared ++ publisher)).drop 2) =
      some (consignment ++ declared ++ publisher) :=
    (digitsOf_eq_some _ _).mpr ⟨(h.2.append h'.2).append h''.2, rfl⟩
  rw [slipVerdict, read]
  simp only [whole, number, count, house]
  rfl

/-! ### Verdicts by subtype (R39) -/

theorem verdictOf_cases (subtype : Byte) (symbols : List Symbol) :
    (subtype = 1 ∧ verdictOf subtype symbols = articleVerdict 0 symbols) ∨
    (subtype = 2 ∧ verdictOf subtype symbols = articleVerdict 2 symbols) ∨
    (subtype = 3 ∧ verdictOf subtype symbols = articleVerdict 5 symbols) ∨
    (subtype = 4 ∧ verdictOf subtype symbols = serialVerdict 0 symbols) ∨
    (subtype = 5 ∧ verdictOf subtype symbols = serialVerdict 2 symbols) ∨
    (subtype = 6 ∧ verdictOf subtype symbols = slipVerdict symbols) ∨ verdictOf subtype symbols = .misread := by
  have named {n : Nat} (h : subtype.toNat = n) : subtype = BitVec.ofNat 8 n := by rw [← h, BitVec.ofNat_toNat, BitVec.setWidth_eq]
  unfold verdictOf
  split
  next h => exact .inl ⟨named h, rfl⟩
  next h => exact .inr (.inl ⟨named h, rfl⟩)
  next h => exact .inr (.inr (.inl ⟨named h, rfl⟩))
  next h => exact .inr (.inr (.inr (.inl ⟨named h, rfl⟩)))
  next h => exact .inr (.inr (.inr (.inr (.inl ⟨named h, rfl⟩))))
  next h => exact .inr (.inr (.inr (.inr (.inr (.inl ⟨named h, rfl⟩)))))
  next => exact .inr (.inr (.inr (.inr (.inr (.inr rfl)))))

theorem decimal_eq_foldl (l : List Nat) : decimal l = l.foldl (fun v d => 10 * v + d) 0 := by
  simp only [decimal, Nat.mul_comm]

/-- Seven digits and an issue are inside the range of a SERIAL key. -/
theorem serial_inRange {base addOn : List Nat} {n : Nat} (length : base.length = 7) (h : AllDigits base) (more : addOn.length = n)
    (h' : AllDigits addOn) : Key.inRange ⟨.serial, decimal base * 128 + (if n = 2 then decimal addOn else 100)⟩ = true := by
  have small := decimal_lt h
  rw [length] at small
  have issue : (if n = 2 then decimal addOn else 100) ≤ 100 := by
    split_ifs with two
    · have few := decimal_lt h'
      rw [more, two] at few
      omega
    · rfl
  simp only [Key.inRange, decide_eq_true_eq]
  omega

theorem articleVerdict_key {n : Nat} {symbols : List Symbol} {k : Key} (read : articleVerdict n symbols = .valid k) :
    k.kind ≠ .provisional ∧ Key.inRange k = true := by
  obtain ⟨code, addOn, rfl, ⟨length, h⟩, more, h'⟩ := articleVerdict_ne_misread (n := n) (symbols := symbols) (by simp [read])
  rw [articleVerdict_printed length h more h'] at read
  split at read
  next =>
    cases read
    by_cases periodical : code.take 3 = [9, 7, 7]
    · rw [if_pos periodical]
      refine ⟨by simp, serial_inRange ?_ (h.of_subset fun d listed => List.drop_subset _ _ (List.take_subset _ _ listed)) more h'⟩
      rw [List.length_take, List.length_drop, length]
      rfl
    · rw [if_neg periodical]
      have small := decimal_lt h
      rw [length] at small
      simp only [Key.inRange, decide_eq_true_eq]
      exact ⟨by simp, by omega⟩
  next => cases read

theorem serialVerdict_key {n : Nat} {symbols : List Symbol} {k : Key} (read : serialVerdict n symbols = .valid k) :
    k.kind ≠ .provisional ∧ Key.inRange k = true := by
  obtain ⟨base, addOn, rfl, ⟨length, h⟩, more, h'⟩ := serialVerdict_ne_misread (n := n) (symbols := symbols) (by simp [read])
  rw [serialVerdict_printed length h more h', if_pos rfl] at read
  cases read
  exact ⟨by simp, serial_inRange length h more h'⟩

theorem slipVerdict_not_valid (symbols : List Symbol) (k : Key) : slipVerdict symbols ≠ .valid k := by
  unfold slipVerdict
  split
  · simp
  · split_ifs <;> simp

/-- Settles O30: each subtype's verdict on a printed code, and every other reading a misread. -/
theorem readKeysAreInRange : Obligations.ReadKeysAreInRange := by
  unfold Obligations.ReadKeysAreInRange
  intro digits printed number check
  have value (l : List Nat) : decimal l = number l := decimal_eq_foldl l
  refine ⟨?article, ?serial, ?slip, ?others, ?ranges⟩
  case article =>
    rintro subtype code addOn ⟨length, h⟩ (⟨rfl, more, h'⟩ | ⟨rfl, more, h'⟩ | ⟨rfl, more, h'⟩)
    all_goals
      refine (articleVerdict_printed length h more h').trans ?_
      simp only [value] <;> rfl
  case serial =>
    rintro subtype base addOn c ⟨length, h⟩ (⟨rfl, more, h'⟩ | ⟨rfl, more, h'⟩)
    all_goals
      refine (serialVerdict_printed length h more h' c).trans ?_
      rw [value base, value addOn]
      rfl
  case slip =>
    intro consignment declared publisher h h' h''
    exact (slipVerdict_printed h h' h'').trans (by simp only [value])
  case others =>
    intro subtype symbols read
    rcases verdictOf_cases subtype symbols with ⟨rfl, same⟩ | ⟨rfl, same⟩ | ⟨rfl, same⟩ | ⟨rfl, same⟩ | ⟨rfl, same⟩ |
      ⟨rfl, same⟩ | same
    · obtain ⟨code, addOn, rest, h, more⟩ := articleVerdict_ne_misread (same ▸ read)
      exact .inl ⟨code, addOn, rest, h, .inl ⟨rfl, more⟩⟩
    · obtain ⟨code, addOn, rest, h, more⟩ := articleVerdict_ne_misread (same ▸ read)
      exact .inl ⟨code, addOn, rest, h, .inr (.inl ⟨rfl, more⟩)⟩
    · obtain ⟨code, addOn, rest, h, more⟩ := articleVerdict_ne_misread (same ▸ read)
      exact .inl ⟨code, addOn, rest, h, .inr (.inr ⟨rfl, more⟩)⟩
    · obtain ⟨base, addOn, rest, h, more⟩ := serialVerdict_ne_misread (same ▸ read)
      exact .inr (.inl ⟨base, addOn, rest, h, .inl ⟨rfl, more⟩⟩)
    · obtain ⟨base, addOn, rest, h, more⟩ := serialVerdict_ne_misread (same ▸ read)
      exact .inr (.inl ⟨base, addOn, rest, h, .inr ⟨rfl, more⟩⟩)
    · obtain ⟨l, rest, h⟩ := slipVerdict_ne_misread (same ▸ read)
      exact .inr (.inr ⟨rfl, l, rest, h⟩)
    · exact absurd same read
  case ranges =>
    intro subtype symbols k read
    rcases verdictOf_cases subtype symbols with ⟨_, same⟩ | ⟨_, same⟩ | ⟨_, same⟩ | ⟨_, same⟩ | ⟨_, same⟩ | ⟨_, same⟩ | same
    · exact articleVerdict_key (same.symm.trans read)
    · exact articleVerdict_key (same.symm.trans read)
    · exact articleVerdict_key (same.symm.trans read)
    · exact serialVerdict_key (same.symm.trans read)
    · exact serialVerdict_key (same.symm.trans read)
    · exact absurd (same.symm.trans read) (slipVerdict_not_valid symbols k)
    · cases same.symm.trans read

end Sys2Proof.Machine
end

section
/-! SUPPORT. What the check computations find (R41, R42) and the arithmetic of a weight (R60 to R62), and the statements these settle. -/

namespace Sys2Proof.Machine

/-! ### One wrong digit (R41, R42) -/

/-- Two digits that weigh the same modulo the check's number are the same digit. -/
theorem digit_eq_of_weighed_mod {d e w m : Nat} (hd : d ≤ 9) (he : e ≤ 9) (large : 10 ≤ m) (prime : Nat.Coprime m w)
    (same : w * d ≡ w * e [MOD m]) : d = e :=
  Nat.ModEq.eq_of_lt_of_lt (same.cancel_left_of_coprime prime) (by omega) (by omega)

/-- A run of symbols that reads as digits, cut at one of them. -/
theorem digitsOf_split {front back : List Symbol} {a : Symbol} {l : List Nat} (read : digitsOf (front ++ a :: back) = some l) :
    ∃ d, digitOf a = some d ∧ ∃ f b, l = f ++ d :: b ∧ f.length = front.length ∧ digitsOf front = some f ∧ digitsOf back = some b := by
  obtain ⟨all, printed⟩ := (digitsOf_eq_some _ _).mp read
  obtain ⟨f, rest, rfl, hf, hrest⟩ := List.append_eq_map_iff.mp printed
  obtain ⟨d, b, rfl, ha, hb⟩ := List.map_eq_cons_iff.mp hrest
  refine ⟨d, (digitOf_eq_some _ _).mpr ⟨all d (by simp), ha.symm⟩, f, b, rfl, by rw [← hf, List.length_map],
    (digitsOf_eq_some _ _).mpr ⟨all.of_subset (List.subset_append_left _ _), hf.symm⟩,
    (digitsOf_eq_some _ _).mpr ⟨all.of_subset fun x listed => by simp [listed], hb.symm⟩⟩

/-- Two symbols that read as one digit are one. -/
theorem digitOf_inj {a b : Symbol} {d : Nat} (ha : digitOf a = some d) (hb : digitOf b = some d) : a = b :=
  ((digitOf_eq_some a d).mp ha).2.trans ((digitOf_eq_some b d).mp hb).2.symm

/-- Two runs of digits that differ in one place, weighed alike up to a common part. -/
theorem digit_eq_of_sums {f : Nat × Nat → Nat} {m n : Nat} {front back : List Symbol} {a b : Symbol} {la lb : List Nat}
    (inside : front.length < m) (ra : digitsOf (front ++ a :: back) = some la) (rb : digitsOf (front ++ b :: back) = some lb)
    (weight : Nat) (weighs : ∀ d, f (d, front.length) = weight * d) (large : 10 ≤ n) (prime : Nat.Coprime n weight)
    (same : ((la.take m).zipIdx.map f).sum ≡ ((lb.take m).zipIdx.map f).sum [MOD n]) : a = b := by
  obtain ⟨d, hd, fa, ba, rfl, place, front_a, back_a⟩ := digitsOf_split ra
  obtain ⟨e, he, fb, bb, rfl, _, front_b, back_b⟩ := digitsOf_split rb
  cases front_a.symm.trans front_b
  cases back_a.symm.trans back_b
  obtain ⟨rest, sums⟩ := exists_sum_take_zipIdx_map f ba (place.trans_lt inside)
  rw [sums, sums, place, weighs, weighs] at same
  have digits := digit_eq_of_weighed_mod ((digitOf_eq_some a d).mp hd).1 ((digitOf_eq_some b e).mp he).1 large prime
    (Nat.ModEq.add_left_cancel' rest same)
  subst digits
  exact digitOf_inj hd he

/-- What a valid 13-digit reading says of its digits. -/
theorem articleVerdict_valid {n : Nat} {symbols : List Symbol} {k : Key} (read : articleVerdict n symbols = .valid k) :
    ∃ digits, digitsOf symbols = some digits ∧ articleSum digits % 10 = 0 := by
  unfold articleVerdict at read
  split at read
  next => cases read
  next digits printed =>
    split at read
    next valid => exact ⟨digits, printed, valid.2⟩
    next => cases read

/-- What a valid 8-character reading says of its digits and its check character. -/
theorem serialVerdict_valid {n : Nat} {symbols : List Symbol} {k : Key} (read : serialVerdict n symbols = .valid k) :
    ∃ base, digitsOf (symbols.take 7) = some base ∧ base.length = 7 ∧ symbols[7]? = some (checkSymbol base) := by
  obtain ⟨base, addOn, rfl, ⟨length, all⟩, _⟩ := serialVerdict_ne_misread (n := n) (symbols := symbols) (by simp [read])
  have seven : (printedDigits base).length = 7 := by rw [length_printedDigits, length]
  refine ⟨base, ?_, length, ?_⟩
  · rw [List.take_left' seven]
    exact (digitsOf_eq_some _ _).mpr ⟨all, rfl⟩
  · rw [List.getElem?_append_right seven.le, seven]
    rfl

/-- The weights 1 and 3 find a wrong digit. -/
theorem articleVerdict_wrong_digit {n : Nat} {front back : List Symbol} {a b : Symbol} {k k' : Key} (inside : front.length < 13)
    (ra : articleVerdict n (front ++ a :: back) = .valid k) (rb : articleVerdict n (front ++ b :: back) = .valid k') : a = b := by
  obtain ⟨la, printed_a, sum_a⟩ := articleVerdict_valid ra
  obtain ⟨lb, printed_b, sum_b⟩ := articleVerdict_valid rb
  refine digit_eq_of_sums (n := 10) inside printed_a printed_b (if front.length % 2 = 0 then 1 else 3) (fun d => ?_) le_rfl ?_
    (sum_a.trans sum_b.symm)
  · dsimp only
    split_ifs <;> omega
  · split_ifs <;> decide

/-- The weights 8 down to 2 find a wrong digit, and the check character is its own check. -/
theorem serialVerdict_wrong_digit {n : Nat} {front back : List Symbol} {a b : Symbol} {k k' : Key} (inside : front.length < 8)
    (ra : serialVerdict n (front ++ a :: back) = .valid k) (rb : serialVerdict n (front ++ b :: back) = .valid k') : a = b := by
  obtain ⟨base, read_a, length_a, check_a⟩ := serialVerdict_valid ra
  obtain ⟨base', read_b, length_b, check_b⟩ := serialVerdict_valid rb
  by_cases last : front.length = 7
  · rw [List.take_left' last] at read_a read_b
    cases read_a.symm.trans read_b
    rw [List.getElem?_append_right last.le, last] at check_a check_b
    exact Option.some_injective _ (check_a.trans check_b.symm)
  · obtain ⟨m, length⟩ : ∃ m, 7 = front.length + (m + 1) := ⟨6 - front.length, by omega⟩
    have cut (c : Symbol) : (front ++ c :: back).take 7 = front ++ c :: back.take m := by
      rw [length, List.take_length_add_append, List.take_succ_cons]
    have same : (front ++ a :: back)[7]? = (front ++ b :: back)[7]? := by
      rw [List.getElem?_append_right (by omega), List.getElem?_append_right (by omega), show 7 - front.length = m + 1 by omega,
        List.getElem?_cons_succ, List.getElem?_cons_succ]
    rw [cut] at read_a read_b
    have checks : checkSymbol base = checkSymbol base' := Option.some_injective _ (check_a.symm.trans (same.trans check_b))
    have sums : serialSum base % 11 = serialSum base' % 11 := by
      have value := (checkValueOf_eq_check length_a _).mpr rfl
      have value' := (checkValueOf_eq_check length_b _).mpr rfl
      rw [← checks] at value'
      have equal := Option.some_injective _ (value.symm.trans value')
      omega
    refine digit_eq_of_sums (m := 7) (n := 11) (by omega) read_a read_b (8 - front.length) (fun d => rfl) (by decide) ?_ sums
    have few : front.length < 7 := by omega
    interval_cases front.length <;> decide

/-- Settles O31: of two readings that differ in one checked place both valid, the place would be the same. -/
theorem oneWrongDigitIsAMisread : Obligations.OneWrongDigitIsAMisread := by
  unfold Obligations.OneWrongDigitIsAMisread
  intro subtype front back a b k differ place read
  have article {n : Nat} (inside : front.length < 13) (same : ∀ s, verdictOf subtype s = articleVerdict n s) :
      verdictOf subtype (front ++ b :: back) = .misread := by
    by_contra other
    obtain ⟨code, addOn, printed, h, more⟩ := articleVerdict_ne_misread (same _ ▸ other)
    have valid : ∃ k', articleVerdict n (front ++ b :: back) = .valid k' := by
      rw [same] at other
      revert other
      unfold articleVerdict
      split
      · exact fun h => absurd rfl h
      · split
        · exact fun _ => ⟨_, rfl⟩
        · exact fun h => absurd rfl h
    obtain ⟨k', valid⟩ := valid
    exact differ (articleVerdict_wrong_digit inside ((same _).symm.trans read) valid)
  have serial {n : Nat} (inside : front.length < 8) (same : ∀ s, verdictOf subtype s = serialVerdict n s) :
      verdictOf subtype (front ++ b :: back) = .misread := by
    by_contra other
    obtain ⟨base, addOn, printed, ⟨length, h⟩, more, h'⟩ := serialVerdict_ne_misread (same _ ▸ other)
    have valid := serialVerdict_printed length h more h' (checkSymbol base)
    rw [← printed, if_pos rfl] at valid
    exact differ (serialVerdict_wrong_digit inside ((same _).symm.trans read) valid)
  have of_subtype {v : List Symbol → Verdict} {n : Nat} (named : subtype.toNat = n) (is : ∀ t : Byte, t.toNat = n → verdictOf t = v) :
      ∀ s, verdictOf subtype s = v s := fun s => congrFun (is subtype named) s
  rcases place with ⟨one | two | three, inside⟩ | ⟨four | five, inside⟩
  · exact article inside (of_subtype (v := articleVerdict 0) one fun t h => by funext s; simp [verdictOf, h])
  · exact article inside (of_subtype (v := articleVerdict 2) two fun t h => by funext s; simp [verdictOf, h])
  · exact article inside (of_subtype (v := articleVerdict 5) three fun t h => by funext s; simp [verdictOf, h])
  · exact serial inside (of_subtype (v := serialVerdict 0) four fun t h => by funext s; simp [verdictOf, h])
  · exact serial inside (of_subtype (v := serialVerdict 2) five fun t h => by funext s; simp [verdictOf, h])

/-! ### The arithmetic of a weight (R60 to R62) -/

theorem foldl_max_mem_and_le (l : List Int) (y : Int) : l.foldl max y ∈ y :: l ∧ ∀ a ∈ y :: l, a ≤ l.foldl max y := by
  induction l generalizing y with
  | nil => simp
  | cons b l ih =>
    obtain ⟨listed, upper⟩ := ih (max y b)
    rw [List.foldl_cons]
    refine ⟨?_, fun a there => ?_⟩
    · rcases List.mem_cons.mp listed with top | later
      · rw [top]
        rcases max_choice y b with first | second
        · simp [first]
        · simp [second]
      · simp [later]
    · have head := upper (max y b) (by simp)
      rcases List.mem_cons.mp there with rfl | rest
      · exact (le_max_left _ _).trans head
      · rcases List.mem_cons.mp rest with rfl | later
        · exact (le_max_right _ _).trans head
        · exact upper a (by simp [later])

theorem foldl_min_mem_and_le (l : List Int) (y : Int) : l.foldl min y ∈ y :: l ∧ ∀ a ∈ y :: l, l.foldl min y ≤ a := by
  induction l generalizing y with
  | nil => simp
  | cons b l ih =>
    obtain ⟨listed, lower⟩ := ih (min y b)
    rw [List.foldl_cons]
    refine ⟨?_, fun a there => ?_⟩
    · rcases List.mem_cons.mp listed with bottom | later
      · rw [bottom]
        rcases min_choice y b with first | second
        · simp [first]
        · simp [second]
      · simp [later]
    · have head := lower (min y b) (by simp)
      rcases List.mem_cons.mp there with rfl | rest
      · exact head.trans (min_le_left _ _)
      · rcases List.mem_cons.mp rest with rfl | later
        · exact head.trans (min_le_right _ _)
        · exact lower a (by simp [later])

/-- Largest less smallest passes a bound exactly where two values do. -/
theorem lt_spreadOf_iff (band : Int) (l : List Int) (filled : l ≠ []) :
    band < spreadOf l ↔ ∃ a ∈ l, ∃ b ∈ l, band < a - b := by
  cases l with
  | nil => exact absurd rfl filled
  | cons y l =>
    obtain ⟨top, upper⟩ := foldl_max_mem_and_le l y
    obtain ⟨bottom, lower⟩ := foldl_min_mem_and_le l y
    refine ⟨fun wide => ⟨_, top, _, bottom, wide⟩, fun ⟨a, ha, b, hb, wide⟩ => ?_⟩
    have above := upper a ha
    have below := lower b hb
    rw [spreadOf]
    omega

/-- The rounded mean is the whole number nearest to the mean, a tie going up. -/
theorem roundedMean_bounds {l : List Int} {n : Nat} (length : l.length = n) (pos : 0 < n) :
    2 * n * roundedMean l ≤ 2 * l.sum + n ∧ 2 * l.sum + n < 2 * n * (roundedMean l + 1) := by
  have divisor : (0 : Int) < 2 * n := by omega
  rw [roundedMean, length]
  exact ⟨Int.mul_ediv_self_le divisor.ne', by simpa [mul_add] using Int.lt_mul_ediv_self_add divisor⟩

/-- Settles O33: the mean, the grams and the spread, each by its own rounding or bound. -/
theorem weightArithmetic : Obligations.WeightArithmetic := by
  unfold Obligations.WeightArithmetic
  intro count band c xs pos enough ys
  have whole : (filtered xs).length = xs.length := by simp [filtered]
  have length : ys.length = count := by
    rw [List.length_drop, whole]
    omega
  have settled : lastOf count (filtered xs) = ys := by rw [lastOf, whole]
  obtain ⟨low, high⟩ := roundedMean_bounds length pos
  have filled : ys ≠ [] := List.ne_nil_of_length_pos (length ▸ pos)
  refine ⟨length, roundedMean ys, ?_⟩
  by_cases below : roundedMean ys - c.tare ≤ 0
  · refine ⟨0, decide ((band : Int) < spreadOf ys), low, high, ?_, by decide, fun _ => rfl, fun net => absurd below (not_le.mpr net),
      fun net => absurd below (not_le.mpr net), decide_eq_true_iff.trans (lt_spreadOf_iff _ _ filled)⟩
    simp [computeWeight, settled, below]
  · refine ⟨min 65535 (((roundedMean ys - c.tare) * c.factor + 512) / 1024).toNat, decide ((band : Int) < spreadOf ys), low, high, ?_,
      min_le_left _ _, fun net => absurd net below, fun _ fits => ?_, fun _ large => ?_,
      decide_eq_true_iff.trans (lt_spreadOf_iff _ _ filled)⟩
    · simp [computeWeight, settled, below]
    all_goals
      have product : 0 ≤ (roundedMean ys - c.tare) * (c.factor : Int) := mul_nonneg (by omega) (by omega)
      generalize (roundedMean ys - c.tare) * (c.factor : Int) = weight at *
      omega

end Sys2Proof.Machine
end

section
/-! SUPPORT. The dock link's line events, attempts and receptions (R140, R144 to R147, R153 to R156), and the statements these settle. -/

namespace Sys2Proof.Machine

variable (s : Station)

/-! ### Line events (R140, R146, R147) -/

theorem exec_backoffExpiry (place : Nat) (x : Station) (q : List Instr) :
    exec (.backoffExpiry place) ⟨x, q⟩ = .next ⟨x.backoffExpires place, q⟩ := rfl

theorem exec_collision (x : Station) (q : List Instr) : exec .collision ⟨x, q⟩ = .next ⟨x.collides, q⟩ := rfl

/-- The line's events leave a station still in CONFIG LOAD as it is. -/
theorem exec_lineEvent_of_configLoad {x : Station} (loading : x.startup.state = .configLoad) (q : List Instr) :
    ∀ c ∈ [Instr.lineIdle, .lineLeavesIdle, .leadFound, .rxLineError], exec c ⟨x, q⟩ = .next ⟨x, q⟩ := by
  have ready := x.ready_eq_false loading
  have still (y : Station) (same : y = x) : Host.Outcome.next (State.mk y q) = (.next ⟨x, q⟩ : Host.Outcome State Fault Refusal) := by
    rw [same]
  intro c listed
  simp only [List.mem_cons, List.not_mem_nil, or_false] at listed
  rcases listed with rfl | rfl | rfl | rfl
  · exact still x.lineGoesIdle (by simp [Station.lineGoesIdle, ready])
  · exact still x.lineLeaves (by simp [Station.lineLeaves, ready])
  · exact still x.leadIsFound (by simp [Station.leadIsFound, ready])
  · exact still x.lineError (by simp [Station.lineError, Station.takingFrame, ready])

/-- A line gone idle is held no more, its chain over (R150). -/
theorem Station.lineGoesIdle_of_quiet (configured : s.startup.state ≠ .configLoad) (quiet : s.link.sending = .quiet) :
    s.lineGoesIdle = { s with link := { s.link with
      lineIdle := true, holding := false, chain := if s.link.holding then 0 else s.link.chain } } := by
  cases held : s.link.holding <;>
    simp [Station.lineGoesIdle, s.ready_iff.mpr configured, quiet, held, Station.releaseLine]

/-- Settles O44: each event's own branch. -/
theorem lineEvents : Obligations.LineEvents := by
  unfold Obligations.LineEvents
  refine ⟨fun x q => ⟨fun loading => exec_lineEvent_of_configLoad loading q, fun configured => ?_⟩, fun x q bits sends => ?_,
    fun x q place f slots there backoff => ?_⟩
  · have ready := x.ready_iff.mpr configured
    refine ⟨congrArg (fun z => Host.Outcome.next (State.mk z q)) (?_ : x.lineLeaves = _), fun quiet => ⟨?_, ?_, fun taking => ?_⟩⟩
    · rw [Station.lineLeaves, if_pos ready]
    · exact congrArg (fun z => Host.Outcome.next (State.mk z q)) (x.lineGoesIdle_of_quiet configured quiet)
    · exact congrArg (fun z => Host.Outcome.next (State.mk z q)) (show x.leadIsFound = _ by simp [Station.leadIsFound, ready, quiet])
    · exact congrArg (fun z => Host.Outcome.next (State.mk z q))
        (show x.lineError = _ by simp [Station.lineError, Station.takingFrame, ready, quiet, taking, Station.checkFails])
  · rw [exec_collision, Station.collides, sends]
  · rw [exec_backoffExpiry, Station.backoffExpires, there]
    simp only [backoff]

/-! ### Attempts (R144, R145, R150, R172) -/

theorem Station.onLine_eq_none_of_framesOnLine (clear : s.framesOnLine = []) : s.onLine = none :=
  (onLine_eq_none_iff s).mpr (by rw [clear, List.length_nil])

/-- Settles O46: the attempt is `Station.beginAt` of the selected place, and a STATUS is sampled there. -/
theorem attemptsBegin : Obligations.AttemptsBegin := by
  unfold Obligations.AttemptsBegin
  intro x q gate state sent begun
  have may := x.mayTransmit_iff.mpr ⟨gate, state⟩
  have attempt (t : Station) (place : Nat) (f : TxFrame) (same : t = { x with link := { x.link with chain := t.link.chain } })
      (there : x.link.txQueue[place]? = some f) : t.beginAt place = begun place t.link.chain f := by
    rw [same, Station.beginAt_of_frame _ (f := f) (by exact there)]
    simp only [begun]
    split
    next g status =>
      rw [status]
      rfl
    next other =>
      have kept (u : Station) : u.bodyToSend f.body = f.body ∧ u.afterSampling f.body = u := by
        unfold Station.bodyToSend Station.afterSampling
        split
        next g status => exact absurd status (other g)
        next => exact ⟨rfl, rfl⟩
      rw [(kept _).1, (kept _).2]
      rfl
  refine ⟨fun place f selected there => ⟨fun idle free quiet clear => ?_, fun held => ?_⟩, fun unselected => ?_, fun unselected held => ?_⟩
  · rw [exec_attemptBegin, Station.attemptBegins, if_pos (by simp [may, idle, free, quiet, x.onLine_eq_none_of_framesOnLine clear])]
    rw [selected]
    exact congrArg (fun z => Host.Outcome.next (State.mk z q)) (attempt { x with link := { x.link with chain := 0 } } place f rfl there)
  · rw [exec_chainContinuation, Station.chainContinues, if_pos held, may, selected]
    exact congrArg (fun z => Host.Outcome.next (State.mk z q)) (attempt x place f rfl there)
  · rw [exec_attemptBegin, Station.attemptBegins, unselected, ite_self]
  · rw [exec_chainContinuation, Station.chainContinues, if_pos held, unselected]
    cases x.mayTransmit <;> rfl

/-! ### Receptions (R153 to R155) -/

/-- A receiver taking a frame reads what the line's bits say. -/
theorem Station.frameEnds_of_taking (bits : List Bool) (configured : s.startup.state ≠ .configLoad)
    (quiet : s.link.sending = .quiet) (taking : s.link.reception = .taking) :
    s.frameEnds bits = match receive bits with
      | .frame f => s.frameTaken f
      | .lineError => s.checkFails
      | .noLead => { s with link := { s.link with reception := .seeking } }
      | .unfinished => s := by
  unfold Station.frameEnds
  exact if_pos (by simp [Station.takingFrame, s.ready_iff.mpr configured, quiet, taking])

/-- The mark for every item that settles or waits (R126). -/
theorem Station.markAllUnconfirmed_eq : s.markAllUnconfirmed = { s with lane := { s.lane with queue := s.lane.queue.map (fun i =>
    match i.corr with
    | .settling _ => { i with unconfirmedMark := true }
    | .waiting => { i with unconfirmedMark := true }
    | _ => i) } } := by
  have each (i : Item) : (if i.settlingOrWaiting then { i with unconfirmedMark := true } else i) = (match i.corr with
      | .settling _ => { i with unconfirmedMark := true }
      | .waiting => { i with unconfirmedMark := true }
      | _ => i) := by
    unfold Item.settlingOrWaiting
    cases i.corr <;> rfl
  rw [Station.markAllUnconfirmed, funext each]

/-- Settles O49: what the bits say, and the receive queue's capacity. -/
theorem frameReceived : Obligations.FrameReceived := by
  unfold Obligations.FrameReceived
  intro x q bits configured quiet taking
  rw [exec_frameReceived, x.frameEnds_of_taking bits configured quiet taking]
  refine ⟨fun said => ?_, fun said => ?_, fun said => ?_, fun f said good foreign => ?_⟩
  · rw [said]
  · rw [said]
  · rcases said with said | ⟨f, said, bad⟩
    · rw [said]
      rfl
    · rw [said]
      simp [Station.frameTaken, bad, Station.checkFails]
  · have unreported (t : Station) (same : t.startup = x.startup) : t.ownIdReport f = t := by
      rw [Station.ownIdReport, same]
      rcases foreign with other | silent
      · rw [if_neg other]
      · rw [Station.duplicateId_of_not_ready _ (by simp [same, silent]), ite_self]
    rw [said]
    dsimp only
    rw [Station.frameTaken, if_pos good, unreported { x with link := { x.link with reception := .seeking } } rfl, Station.enqueueReceived]
    refine ⟨fun room => ?_, fun full => ?_⟩
    · rw [if_pos (by exact room)]
    · rw [if_neg (by exact full.not_gt), Station.markAllUnconfirmed_eq]
      rfl

/-! ### Deliveries with no other effect (R103, R116, R156, R157) -/

/-- Adoption takes the later of the two tallies (R116). -/
theorem Station.adopt_eq (t : Tally) :
    s.adopt t = { s with claims := { s.claims with tally := laterTally s.claims.tally t } } := by
  unfold Station.adopt laterTally
  split_ifs with h k k
  · rfl
  · exact absurd h k
  · exact absurd k h
  · rfl

/-- A station's frame of an unusable key or content (R103). -/
theorem Station.stationFrame_of_unusable {f : RxFrame} {usable : Bool} (merge : Key → Station → Station)
    (unusable : heardKey f.payload 0 = none ∨ usable = false) (source : 1 ≤ f.source.toNat) :
    s.stationFrame f usable merge = (s.adopt (tallyField f.payload 7)).countUnusable := by
  rw [Station.stationFrame, if_neg (by omega)]
  rcases unusable with noKey | empty
  · rw [noKey]
  · rw [empty]
    cases heardKey f.payload 0 <;> rfl

/-- A station's frame from source 0 (R103). -/
theorem Station.stationFrame_of_source_zero {f : RxFrame} (usable : Bool) (merge : Key → Station → Station) (source : f.source = 0) :
    s.stationFrame f usable merge = s.countUnusable := if_pos (by simp [source])

theorem stationKind_of_le {n : Nat} (low : n ≤ 31) (d : Delivery) : stationKind n d = d := if_pos low

/-- Frames of a kind and length the table of section 11.2 has, but from the wrong side, are misdirected. -/
theorem classify_misdirected {own : Option Nat} {f : RxFrame} (known : kindLength f.kind.toNat = some f.payload.length)
    (astray : (f.kind = 0x21 ∧ f.source ≠ 0) ∨ (f.kind = 0x14 ∧ f.source = 0) ∨
      ((f.kind = 0x11 ∨ f.kind = 0x12 ∨ f.kind = 0x13 ∨ f.kind = 0x14) ∧ 32 ≤ f.source.toNat) ∨
      ((f.kind = 0x22 ∨ f.kind = 0x23 ∨ f.kind = 0x24) ∧ f.source ≠ 0 ∧ own = some f.dest.toNat)) :
    classify own f = .misdirected := by
  have sourced (n : f.source ≠ 0) : f.source.toNat ≠ 0 := fun h => n (BitVec.eq_of_toNat_eq h)
  rw [classify, if_neg (not_not.mpr known)]
  rcases astray with ⟨kind, other⟩ | ⟨kind, zero⟩ | ⟨kind | kind | kind | kind, high⟩ | ⟨kind | kind | kind, other, addressed⟩ <;> rw [kind]
  · exact if_neg (sourced other)
  · exact if_pos (by rw [zero]; rfl)
  · exact if_neg (by omega)
  · exact if_neg (by omega)
  · exact if_neg (by omega)
  · exact (if_neg (by omega)).trans (if_neg (by omega))
  · exact (if_pos addressed).trans (if_neg (sourced other))
  · exact (if_pos addressed).trans (if_neg (sourced other))
  · exact (if_pos addressed).trans (if_neg (sourced other))

/-- Records, and requests to another station, are not addressed to this one. -/
theorem classify_unaddressed {own : Option Nat} {f : RxFrame} (known : kindLength f.kind.toNat = some f.payload.length)
    (elsewhere : (f.kind = 0x31 ∨ f.kind = 0x32 ∨ f.kind = 0x33 ∨ f.kind = 0x34) ∨
      ((f.kind = 0x22 ∨ f.kind = 0x23 ∨ f.kind = 0x24) ∧ own ≠ some f.dest.toNat)) :
    classify own f = .unaddressed := by
  rw [classify, if_neg (not_not.mpr known)]
  rcases elsewhere with (kind | kind | kind | kind) | ⟨kind | kind | kind, other⟩ <;> rw [kind]
  · rfl
  · rfl
  · rfl
  · rfl
  · exact if_neg other
  · exact if_neg other
  · exact if_neg other

/-- A station's frame of a known kind is delivered as its kind. -/
theorem classify_stationFrame {own : Option Nat} {f : RxFrame} (known : kindLength f.kind.toNat = some f.payload.length)
    (source : f.source.toNat ≤ 31) :
    (f.kind = 0x11 → classify own f = .claim) ∧ (f.kind = 0x12 → classify own f = .commit) ∧
      (f.kind = 0x13 → classify own f = .withdraw) := by
  rw [classify, if_neg (not_not.mpr known)]
  refine ⟨fun kind => ?_, fun kind => ?_, fun kind => ?_⟩ <;> rw [kind] <;> exact stationKind_of_le source _

theorem classify_holdings {own : Option Nat} {f : RxFrame} (known : kindLength f.kind.toNat = some f.payload.length)
    (kind : f.kind = 0x21) (gateway : f.source = 0) : classify own f = .holdings := by
  rw [classify, if_neg (not_not.mpr known), kind, gateway]
  rfl

/-- Settles O52: each delivery by the class of its frame. -/
theorem plainDeliveries : Obligations.PlainDeliveries := by
  unfold Obligations.PlainDeliveries
  refine ⟨?plain, ?unusable⟩
  case plain =>
    intro x q f rest configured front taken known request
    refine ⟨fun kind length low high => ?_, fun h astray => ?_, fun h => ?_, fun h elsewhere => ?_⟩
    · have named : classify x.startup.stationId f = .announce := by
        rw [classify, if_neg (by simp [kind, length, kindLength]), kind]
        exact (if_neg (by omega)).trans (stationKind_of_le high _)
      refine congrArg (fun z => Host.Outcome.next (State.mk z q)) ((x.deliver_of_front _ configured front named).trans ?_)
      exact Station.adopt_eq _ _
    · exact congrArg (fun z => Host.Outcome.next (State.mk z q))
        (x.deliver_of_front _ configured front (classify_misdirected h astray))
    · exact congrArg (fun z => Host.Outcome.next (State.mk z q)) (x.deliver_of_front _ configured front (if_pos h))
    · exact congrArg (fun z => Host.Outcome.next (State.mk z q))
        (x.deliver_of_front _ configured front (classify_unaddressed h elsewhere))
  case unusable =>
    intro x q f rest configured front known y adopted station noKey
    have low (zero : f.source = 0) : f.source.toNat ≤ 31 := by
      rw [zero]
      decide
    have kinds (h : f.source.toNat ≤ 31) := classify_stationFrame (own := x.startup.stationId) known h
    have later (t : Tally) : (Station.adopt t { x with link := { x.link with rxQueue := rest } }).countUnusable =
        y (laterTally x.claims.tally t) := congrArg Station.countUnusable (Station.adopt_eq _ t)
    have uncarried {d : Delivery} {use : RxFrame → Station → Station} (named : classify x.startup.stationId f = d) {t : Tally}
        (used : use f { x with link := { x.link with rxQueue := rest } } = y t) : x.deliver d use = y t :=
      (x.deliver_of_front use configured front named).trans used
    refine ⟨fun kind => ⟨fun zero => ?_, fun heard bad => ?_⟩, fun kind => ⟨fun zero => ?_, fun heard bad => ?_⟩,
      fun kind => ⟨fun zero => ?_, fun heard bad => ?_⟩, fun kind zero bad => ?_⟩ <;>
      refine congrArg (fun z => Host.Outcome.next (State.mk z q)) (uncarried ?_ ?_)
    · exact (kinds (low zero)).1 kind
    · exact Station.stationFrame_of_source_zero _ _ _ zero
    · exact (kinds heard.2).1 kind
    · exact (Station.stationFrame_of_unusable _ _ (.inl bad) heard.1).trans (later _)
    · exact (kinds (low zero)).2.1 kind
    · exact Station.stationFrame_of_source_zero _ _ _ zero
    · exact (kinds heard.2).2.1 kind
    · exact (Station.stationFrame_of_unusable _ _ (bad.imp_right fun z => by simp [z]) heard.1).trans (later _)
    · exact (kinds (low zero)).2.2 kind
    · exact Station.stationFrame_of_source_zero _ _ _ zero
    · exact (kinds heard.2).2.2 kind
    · exact (Station.stationFrame_of_unusable _ _ (.inl bad) heard.1).trans (later _)
    · exact classify_holdings known kind zero
    · rw [Station.deliverHoldings, bad]
      exact later _

end Sys2Proof.Machine
end

section
/-! SUPPORT. The report of a change (R112, R124 to R126): what the re-tests and the report keep of an entry and of the items, which
commit is the first, and that a report does what `Station.Retests` and `Station.RetestSends` say. -/

namespace Sys2Proof.Machine

variable (s : Station)

/-! ### One commit among the re-tests -/

/-- An entry written leaves the entry of every other key. -/
theorem Station.entry_writeEntry_other {k other : Key} (f : Entry → Entry) (keepsKey : ∀ e : Entry, (f e).key = e.key)
    (distinct : (s.table.entries.map Entry.key).Nodup) (ne : other ≠ k) : (s.writeEntry k f).entry other = s.entry other := by
  cases found : s.entry k with
  | none =>
    have read := s.entry_modifyEntry k f fun a own => (keepsKey a).trans own
    rw [found] at read
    rw [Station.writeEntry, Station.touch, read]
    exact s.entry_modifyEntry_other k other f keepsKey ne
  | some e =>
    have key : (f e).key = k := (keepsKey e).trans (s.entry_key found)
    rw [s.writeEntry_eq keepsKey found distinct, Station.entry, Station.entry, eraseP_key_eq_filter k distinct, List.find?_append,
      List.find?_filter]
    simp only [List.find?_singleton, key, decide_eq_true_eq, ne.symm, if_false, Option.or_none]
    refine congrArg (fun p => s.table.entries.find? p) (funext fun a => ?_)
    by_cases own : a.key = other <;> simp [own, ne]

/-- An entry written stands at the most recent end. -/
theorem Station.getLast_writeEntry {k : Key} {e : Entry} {f : Entry → Entry} (keepsKey : ∀ e : Entry, (f e).key = e.key)
    (found : s.entry k = some e) (distinct : (s.table.entries.map Entry.key).Nodup) :
    (s.writeEntry k f).table.entries.getLast? = some (f e) := by
  rw [s.writeEntry_eq keepsKey found distinct]
  simp

section commit

variable (k : Key) (c : Claim) (n : Nat) (isRanked ranked holdingsUnconfirmed : Bool)

/-- After a commit an item waits that waited before, and it is another one. -/
theorem Station.isWaiting_commitAs (ref : ItemRef) :
    (s.commitAs k c n isRanked ranked holdingsUnconfirmed).isWaiting ref = (s.isWaiting ref && decide (ref ≠ c.ref)) := by
  by_cases own : ref = c.ref
  · subst own
    rw [Station.isWaiting, Station.findItem_commitAs]
    cases s.findItem c.ref <;> simp [Item.commit]
  · rw [Station.isWaiting, s.findItem_commitAs_other _ _ _ _ _ _ own]
    simp [Station.isWaiting, own]

end commit

/-- An ordinary commit is counted as one. -/
theorem Station.commitAs_commits (k : Key) (c : Claim) (n : Nat) (ranked holdingsUnconfirmed : Bool) :
    (s.commitAs k c n false ranked holdingsUnconfirmed).claims.counts.commits = s.claims.counts.commits + 1 := by
  rw [Station.commitAs, Station.offerNotice_changes _ _ .claimCounts (by decide), Station.countCommit]
  simp only [Bool.false_eq_true, if_false]
  rw [Station.modifyItem_claims, Station.writeEntry_changes s k _ .claimCounts (by decide)]

/-! ### What a report keeps -/

/-- From one station to the next only own claims of WAITING items have left the entry of a key, and C may have risen with them;
the entry keeps its holdings state and its place at the most recent end, if it has it, and no other entry changes. -/
structure Station.Ripples (k : Key) (m : Entry) (u t : Station) : Prop where
  distinct : (t.table.entries.map Entry.key).Nodup
  entry : ∃ e', t.entry k = some e' ∧ (u.table.entries.getLast? = some m → t.table.entries.getLast? = some e') ∧
    m.committed ≤ e'.committed ∧ e'.holdings = m.holdings ∧ (∀ c ∈ e'.pending, c ∈ m.pending) ∧
    ∀ c ∈ m.pending, c ∈ e'.pending ∨ c.own = true ∧ u.isWaiting c.ref = true
  others : ∀ other ≠ k, t.entry other = u.entry other
  waits : ∀ ref, t.isWaiting ref = true → u.isWaiting ref = true

section

variable {s} {u t : Station} {k : Key} {m : Entry}

theorem Station.Ripples.refl (found : u.entry k = some m) (distinct : (u.table.entries.map Entry.key).Nodup) : u.Ripples k m u :=
  ⟨distinct, ⟨m, found, id, le_rfl, rfl, fun _ => id, fun _ => .inl⟩, fun _ _ => rfl, fun _ => id⟩

/-- A commit of a WAITING item's claim is such a change. -/
theorem Station.Ripples.commitAs {e : Entry} {c : Claim} (h : u.Ripples k m t) (found : t.entry k = some e)
    (waits : t.isWaiting c.ref = true) (n : Nat) (isRanked ranked holdingsUnconfirmed : Bool) :
    u.Ripples k m (t.commitAs k c n isRanked ranked holdingsUnconfirmed) := by
  obtain ⟨e', found', last, more, same, less, left⟩ := h.entry
  cases found.symm.trans found'
  refine ⟨t.keys_commitAs_nodup _ _ _ _ _ found h.distinct, ⟨_, t.entry_commitAs _ _ _ _ _ found h.distinct, fun _ => ?_,
    more.trans (e.le_afterCommit_committed c n).1, same, fun a listed => less a (Entry.mem_afterCommit_pending.mp listed).1,
    fun a listed => ?_⟩, fun other ne => ?_, fun ref waiting => ?_⟩
  · rw [Station.commitAs_table, ← Entry.commitOwn_eq]
    exact t.getLast_writeEntry (Entry.commitOwn_key _ _ _) found h.distinct
  · rcases left a listed with still | gone
    · by_cases own : a.own = true ∧ a.ref = c.ref
      · exact .inr ⟨own.1, h.waits _ (own.2 ▸ waits)⟩
      · exact .inl (Entry.mem_afterCommit_pending.mpr ⟨still, own⟩)
    · exact .inr gone
  · rw [← h.others other ne, Station.entry, Station.commitAs_table]
    exact t.entry_writeEntry_other _ (Entry.commitOwn_key _ _ _) h.distinct ne
  · rw [Station.isWaiting_commitAs, Bool.and_eq_true] at waiting
    exact h.waits ref waiting.1

theorem Station.Ripples.retest (h : u.Ripples k m t) : u.Ripples k m (t.retest k) :=
  t.retest_keeps (P := u.Ripples k m) (fun _ _ _ held found _ _ waits => held.commitAs found waits _ _ _ _) h

end

/-! ### The order of the re-tests -/

/-- More fuel than the list has claims changes nothing. -/
theorem Station.retestFuel_succ (k : Key) (n : Nat) : ∀ s : Station, (s.table.entries.map Entry.key).Nodup →
    (∀ e, s.entry k = some e → e.pending.length ≤ n) → s.retestFuel (n + 1) k = s.retestFuel n k := by
  induction n with
  | zero =>
    intro s distinct short
    have done : s.firstCommittable k = none := (s.firstCommittable_eq_none_iff k).mpr (Station.retestFuel_testedOut k 0 s distinct short)
    simp [Station.retestFuel, done]
  | succ n ih =>
    intro s distinct short
    unfold Station.retestFuel
    split
    next => rfl
    next e c first =>
      obtain ⟨found, listed, own, -⟩ := s.firstCommittable_some first
      refine ih _ (s.keys_commitAs_nodup _ _ _ _ _ found distinct) fun e' found' => ?_
      cases (s.entry_commitAs _ _ _ _ _ found distinct).symm.trans found'
      exact Nat.le_of_lt_succ ((Entry.length_afterCommit_pending_lt _ listed own).trans_le (short e found))

/-- Fuel for at least as many re-tests as the list has claims is fuel enough. -/
theorem Station.retestFuel_eq_retest {k : Key} {e : Entry} {n : Nat} (found : s.entry k = some e)
    (distinct : (s.table.entries.map Entry.key).Nodup) (enough : e.pending.length ≤ n) : s.retestFuel n k = s.retest k := by
  have start : s.retest k = s.retestFuel e.pending.length k := by rw [Station.retest, found]
  induction n, enough using Nat.le_induction with
  | base => exact start.symm
  | succ n enough ih =>
    rw [s.retestFuel_succ k n distinct (by rw [found]; rintro _ ⟨⟩; exact enough), ih]

/-- The first that may commit does, and the re-tests begin afresh. -/
theorem Station.retest_of_first {k : Key} {e : Entry} {c : Claim} (first : s.firstCommittable k = some (e, c))
    (distinct : (s.table.entries.map Entry.key).Nodup) : s.retest k = (s.commitOrdinary k e c).retest k := by
  obtain ⟨found, listed, own, -⟩ := s.firstCommittable_some first
  have fewer := Entry.length_afterCommit_pending_lt (min 255 (e.committed + 1)) listed own
  rw [← s.retestFuel_eq_retest found distinct le_rfl]
  obtain ⟨n, length⟩ : ∃ n, e.pending.length = n + 1 := ⟨e.pending.length - 1, by omega⟩
  rw [length, Station.retestFuel, first]
  exact Station.retestFuel_eq_retest _ (s.entry_commitAs _ _ _ _ _ found distinct) (s.keys_commitAs_nodup _ _ _ _ _ found distinct)
    (by rw [commitOrdinal_zero]; omega)

/-- The claim of an item that may commit is the first that may: claim order leaves no two with none before them. -/
theorem Station.firstCommittable_of_letsCommit {k : Key} {e : Entry} {c : Claim} {ref : ItemRef} (found : s.entry k = some e)
    (claim : e.pending.find? (fun a => a.own && decide (a.ref = ref)) = some c) (waits : s.isWaiting ref = true)
    (may : e.LetsCommit c) : s.firstCommittable k = some (e, c) := by
  have test := List.find?_some claim
  simp only [Bool.and_eq_true, decide_eq_true_eq] at test
  obtain ⟨own, rfl⟩ := test
  have alone (a : Claim) (listed : a ∈ e.pending) (first : e.LetsCommit a) : a.ref = c.ref := by
    by_contra other
    have apart : a.origin ≠ c.origin := fun same => other (Prod.ext_iff.mp ((Claim.origin_inj a c).mp same)).2
    have ordered := Claim.before_iff_not_before apart
    simp [may.1 a listed, first.1 c (List.mem_of_find?_eq_some claim)] at ordered
  have picked : e.pending.find? (fun a => a.own && s.isWaiting a.ref && e.mayCommit a) = some c := by
    obtain ⟨-, front, back, cut, clear⟩ := List.find?_eq_some_iff_append.mp claim
    refine List.find?_eq_some_iff_append.mpr ⟨by simp [own, waits, (e.mayCommit_iff c).mpr may], front, back, cut, fun a listed => ?_⟩
    have other : ¬ (a.own = true ∧ a.ref = c.ref) := fun both => by simpa [both] using clear a listed
    by_contra first
    obtain ⟨⟨ownToo, -⟩, mayToo⟩ : (a.own = true ∧ s.isWaiting a.ref = true) ∧ e.mayCommit a = true := by simpa using first
    exact other ⟨ownToo, alone a (by simp [cut, listed]) ((e.mayCommit_iff a).mp mayToo)⟩
  simp [Station.firstCommittable, found, picked]

/-! ### The report (R112) -/

theorem Station.report_of_no_own {k : Key} {m : Entry} (found : s.entry k = some m) (none : m.holdsOwn = false) (before : Option Entry)
    (overfullSet : Bool) : s.report k before overfullSet = s := by
  simp [Station.report, found, none]

/-- A change that the table reports sets off the re-tests, the mark for a setting of overfull first (R124, R126). -/
theorem Station.report_of_change {k : Key} {m : Entry} (found : s.entry k = some m) (own : m.holdsOwn = true) {before : Option Entry}
    {overfullSet : Bool} (changed : overfullSet = true ∨ before.map Entry.reported ≠ some m.reported) :
    s.report k before overfullSet = (if overfullSet then s.markOverfull k else s).retest k := by
  rw [Station.report, found]
  exact if_pos (by simpa [own] using changed)

/-- The marks of a setting of overfull are the items', and every item is otherwise as it was. -/
theorem Station.findItem_markOverfull {k : Key} {m : Entry} (found : s.entry k = some m) (ref : ItemRef) :
    (s.markOverfull k).findItem ref = (s.findItem ref).map fun i =>
      if i.settlingOrWaiting && (m.ownClaim i.ref).isSome then { i with unconfirmedMark := true } else i := by
  rw [Station.markOverfull, found, Station.findItem, Station.findItem, List.find?_map]
  congr 2
  funext i
  dsimp only [Function.comp]
  split <;> rfl

theorem Station.isWaiting_markOverfull (k : Key) (ref : ItemRef) : (s.markOverfull k).isWaiting ref = s.isWaiting ref := by
  cases found : s.entry k with
  | none => simp [Station.markOverfull, found]
  | some m =>
    rw [Station.isWaiting, s.findItem_markOverfull found, Station.isWaiting]
    cases s.findItem ref with
    | none => rfl
    | some i =>
      simp only [Option.map_some]
      split <;> rfl

/-- The station as the re-tests of a report find it. -/
def Station.marked (k : Key) (overfullSet : Bool) (s : Station) : Station := if overfullSet then s.markOverfull k else s

theorem Station.marked_table (k : Key) (o : Bool) : (s.marked k o).table = s.table := by
  cases o with
  | false => rfl
  | true => 
    simp only [Station.marked, if_true, Station.markOverfull]
    split <;> rfl

theorem Station.isWaiting_marked (k : Key) (o : Bool) (ref : ItemRef) : (s.marked k o).isWaiting ref = s.isWaiting ref := by
  cases o with
  | false => rfl
  | true => exact s.isWaiting_markOverfull k ref

/-- An item reads as before, its mark set where the report sets it. -/
theorem Station.findItem_marked {k : Key} {m : Entry} (found : s.entry k = some m) (o : Bool) {ref : ItemRef} {i : Item}
    (item : s.findItem ref = some i) : (s.marked k o).findItem ref =
      some { i with unconfirmedMark := i.unconfirmedMark || (o && i.settlingOrWaiting && (m.ownClaim ref).isSome) } := by
  cases o with
  | false => simpa [Station.marked] using item
  | true =>
    obtain rfl := s.findItem_ref item
    rw [show s.marked k true = s.markOverfull k from rfl, s.findItem_markOverfull found, item, Option.map_some]
    cases marks : i.settlingOrWaiting && (m.ownClaim i.ref).isSome <;> simp [marks]

/-- Every report is such a change. -/
theorem Station.report_ripples {k : Key} {m : Entry} (found : s.entry k = some m) (distinct : (s.table.entries.map Entry.key).Nodup)
    (before : Option Entry) (o : Bool) : s.Ripples k m (s.report k before o) := by
  have still : s.Ripples k m s := .refl found distinct
  rw [Station.report, found]
  dsimp only
  split
  next =>
    have marked : s.Ripples k m (s.marked k o) := by
      refine ⟨by rwa [s.marked_table], ?_, fun other _ => ?_, fun ref => by rw [s.isWaiting_marked]; exact id⟩
      · rw [Station.entry, s.marked_table]
        exact still.entry
      · rw [Station.entry, s.marked_table, Station.entry]
    exact marked.retest
  next => exact still

/-- The claim that an item's own claim is read as is own, and the item's. -/
theorem find_own_claim {l : List Claim} {ref : ItemRef} {c : Claim}
    (claim : l.find? (fun a => a.own && decide (a.ref = ref)) = some c) : c ∈ l ∧ c.own = true ∧ c.ref = ref :=
  ⟨List.mem_of_find?_eq_some claim, by simpa using List.find?_some claim⟩

section report

variable {x u : Station} {k : Key} {m : Entry}

/-- The re-tests keep an item's mark. -/
theorem Station.unconfirmedMark_retest (k : Key) {ref : ItemRef} (marked : ∃ j, s.findItem ref = some j ∧ j.unconfirmedMark = true) :
    ∃ j, (s.retest k).findItem ref = some j ∧ j.unconfirmedMark = true := by
  refine s.retest_keeps (P := fun t => ∃ j, t.findItem ref = some j ∧ j.unconfirmedMark = true) (fun t e c held _ _ _ _ => ?_) marked
  obtain ⟨j, item, mark⟩ := held
  by_cases own : ref = c.ref
  · subst own
    exact ⟨_, (t.findItem_commitAs _ c _ _ _ _).trans (congrArg _ item), mark⟩
  · exact ⟨j, by rw [Station.commitOrdinary, t.findItem_commitAs_other _ _ _ _ _ _ own, item], mark⟩

/-- An entry without an own claim has no re-tests to make. -/
theorem Station.testedOut_of_no_own (found : u.entry k = some m) (none : m.holdsOwn = false) : u.TestedOut k := by
  intro e found' c listed own
  cases found.symm.trans found'
  exact absurd own (by simpa [Entry.holdsOwn] using List.any_eq_false.mp none c listed)

theorem Station.isWaiting_of_items (items : u.lane.queue = x.lane.queue) (ref : ItemRef) : u.isWaiting ref = x.isWaiting ref := by
  simp only [Station.isWaiting, Station.findItem, items]

/-- The re-tests on a reported change, as the claims tell them. -/
theorem Station.retests_of_marked (o : Bool) (found : u.entry k = some m) (distinct : (u.table.entries.map Entry.key).Nodup)
    (items : u.lane.queue = x.lane.queue) (commits : u.claims.counts.commits = x.claims.counts.commits) :
    x.Retests ((u.marked k o).retest k) k m o := by
  have foundToo : (u.marked k o).entry k = some m := by rw [Station.entry, u.marked_table]; exact found
  have distinctToo : ((u.marked k o).table.entries.map Entry.key).Nodup := by rwa [u.marked_table]
  have waiting (ref : ItemRef) : (u.marked k o).isWaiting ref = x.isWaiting ref :=
    (u.isWaiting_marked k o ref).trans (Station.isWaiting_of_items items ref)
  have commitsToo : (u.marked k o).claims.counts.commits = x.claims.counts.commits := by
    rw [← commits, Station.marked]
    split
    · rw [Station.markOverfull_changes u k .claimCounts (by decide)]
    · rfl
  have item {ref : ItemRef} {i : Item} (there : x.findItem ref = some i) : (u.marked k o).findItem ref =
      some { i with unconfirmedMark := i.unconfirmedMark || (o && i.settlingOrWaiting && (m.ownClaim ref).isSome) } :=
    u.findItem_marked found o (by rw [← there, Station.findItem, items, Station.findItem])
  refine ⟨fun marking ref i there state ⟨c, listed, own, claims⟩ => ?marks, fun ref i c there corr claim may => ?commits, fun stuck => ?stays,
    Station.retest_testedOut _ k distinctToo⟩
  case marks =>
    refine Station.unconfirmedMark_retest _ k ⟨_, item there, ?_⟩
    have mine : (m.ownClaim ref).isSome = true := by
      rw [Entry.ownClaim, List.find?_isSome]
      exact ⟨c, listed, by simp [own, claims]⟩
    have sent : i.settlingOrWaiting = true := by
      rcases state with waits | ⟨d, settles⟩
      · simp [Item.settlingOrWaiting, waits]
      · simp [Item.settlingOrWaiting, settles]
    simp [marking, mine, sent]
  case commits =>
    intro ordinal
    obtain ⟨listed, own, rfl⟩ := find_own_claim claim
    have waits : x.isWaiting c.ref = true := (x.isWaiting_iff _).mpr ⟨i, there, corr⟩
    have first := Station.firstCommittable_of_letsCommit _ foundToo claim ((waiting _).trans waits) may
    have mine : (m.ownClaim c.ref).isSome = true := by rw [Entry.ownClaim, claim]; rfl
    have done := Station.holdsCommit_commitAs _ c ordinal false false false (item there) foundToo distinctToo
    obtain ⟨e', found', reached, gone⟩ := done.retest.entry
    have again : (u.marked k o).retest k = ((u.marked k o).commitAs k c ordinal false false false).retest k :=
      Station.retest_of_first _ first distinctToo
    refine ⟨_, e', by rw [again]; exact done.retest.item, rfl, rfl, Bool.or_false _, ?_, by rw [again]; exact found', reached, gone,
      fun alone => ?_⟩
    · simp [Item.commit, Item.settlingOrWaiting, corr, mine, Bool.or_assoc]
    · have ended := Station.testedOut_commitAs _ c ordinal false false false foundToo distinctToo
        fun a listed own other => (waiting _).trans (alone a listed own other)
      rw [Station.retest_of_testedOut _ ended] at again found'
      have entry := Station.entry_commitAs _ c ordinal false false false foundToo distinctToo
      cases entry.symm.trans found'
      refine ⟨rfl, ?_, ?_⟩
      · rw [again, Station.commitAs_table, ← Entry.commitOwn_eq]
        exact Station.getLast_writeEntry _ (Entry.commitOwn_key _ _ _) foundToo distinctToo
      · rw [again, Station.commitAs_commits, commitsToo]
  case stays =>
    have ended : (u.marked k o).TestedOut k := by
      intro e found' c listed own waits may
      cases foundToo.symm.trans found'
      exact stuck c listed own ((waiting _).symm.trans waits) may
    rw [Station.retest_of_testedOut _ ended]
    exact ⟨foundToo, commitsToo, fun ref waits => (waiting ref).trans waits⟩

/-- A reported change does what the claims say of it. -/
theorem Station.report_retests {before : Option Entry} {o : Bool} (found : u.entry k = some m)
    (distinct : (u.table.entries.map Entry.key).Nodup) (items : u.lane.queue = x.lane.queue)
    (commits : u.claims.counts.commits = x.claims.counts.commits)
    (changed : o = true ∨ before.map Entry.reported ≠ some m.reported) : x.Retests (u.report k before o) k m o := by
  cases own : m.holdsOwn with
  | true =>
    rw [u.report_of_change found own changed]
    exact Station.retests_of_marked o found distinct items commits
  | false =>
    have foreign : ∀ c ∈ m.pending, ¬ c.own = true := fun c listed => by simpa using List.any_eq_false.mp own c listed
    rw [u.report_of_no_own found own]
    refine ⟨fun _ _ _ _ _ ⟨c, listed, mine, _⟩ => absurd mine (foreign c listed), fun _ _ c _ _ claim _ => ?_, fun _ =>
      ⟨found, commits, fun ref waits => (Station.isWaiting_of_items items ref).trans waits⟩, Station.testedOut_of_no_own found own⟩
    exact absurd (find_own_claim claim).2.1 (foreign c (find_own_claim claim).1)

/-- Where the COMMIT of the re-tests goes. -/
theorem Station.report_retestSends {before : Option Entry} {o : Bool} {offered : Nat} (found : u.entry k = some m)
    (distinct : (u.table.entries.map Entry.key).Nodup) (items : u.lane.queue = x.lane.queue)
    (few : u.link.txQueue.length ≤ x.link.txQueue.length + offered) (kept : x.link.txQueue.length ≤ u.link.txQueue.length)
    (changed : o = true ∨ before.map Entry.reported ≠ some m.reported) : x.RetestSends (u.report k before o) k m offered := by
  intro ref c waits claim may
  obtain ⟨listed, own, rfl⟩ := find_own_claim claim
  have holds : m.holdsOwn = true := List.any_eq_true.mpr ⟨c, listed, own⟩
  have foundToo : (u.marked k o).entry k = some m := by rw [Station.entry, u.marked_table]; exact found
  have distinctToo : ((u.marked k o).table.entries.map Entry.key).Nodup := by rwa [u.marked_table]
  have first := Station.firstCommittable_of_letsCommit _ foundToo claim
    (((u.isWaiting_marked k o _).trans (Station.isWaiting_of_items items _)).trans waits) may
  have queue : (u.marked k o).link.txQueue = u.link.txQueue := by
    unfold Station.marked
    split
    · exact u.markOverfull_changes k .txQueue (by decide)
    · rfl
  rw [u.report_of_change found holds changed, ← Station.marked, Station.retest_of_first _ first distinctToo]
  refine ⟨fun room => Station.mem_txQueue_retest _ k ?_, fun full => Station.flag_retest _ k ?_⟩
  · rw [Station.commitOrdinary, Station.commitAs_txQueue, queue, if_pos (by omega)]
    exact List.mem_append_right _ (List.mem_singleton_self _)
  · rw [Station.commitOrdinary, Station.flag_commitAs, queue]
    simp only [Bool.or_eq_true, decide_eq_true_eq]
    exact .inr ⟨by omega, trivial⟩

end report

end Sys2Proof.Machine
end

section
/-! SUPPORT. The pending claim list in claim order (R92, R93), the own committed list (R97), creation in a full table (R101, R102), and
the statements these settle. -/

namespace Sys2Proof.Machine

/-! ### Lists in claim order (R92, R93) -/

/-- Claim order goes one way. -/
theorem Claim.before_asymm {a b : Claim} (h : a.before b = true) : b.before a = false := by
  by_cases same : a.origin = b.origin
  · have leads := ((a.before_iff b).mp h).resolve_right fun tie => absurd tie.2 (by rw [same]; exact lt_irrefl _)
    by_contra other
    have back := ((b.before_iff a).mp (by simpa using other)).resolve_right fun tie => absurd tie.2 (by rw [same]; exact lt_irrefl _)
    unfold Claim.leads at leads back
    have turn := dist_swap a.tally b.tally
    omega
  · simpa using (Claim.before_iff_not_before same).mp h

/-- A claim goes into an ordered list behind those before it and ahead of those after it. -/
theorem orderedInsert_between {c : Claim} {front back : List Claim} (before : ∀ a ∈ front, a.before c = true)
    (after : ∀ a ∈ back, c.before a = true) :
    (front ++ back).orderedInsert (fun a b => a.before b = true) c = front ++ c :: back := by
  induction front with
  | nil =>
    cases back with
    | nil => rfl
    | cons b back => exact List.orderedInsert_cons_of_le _ _ (after b (by simp))
  | cons a front ih =>
    have later : ¬ c.before a = true := by simp [Claim.before_asymm (before a (by simp))]
    rw [List.cons_append, List.orderedInsert_cons, if_neg later, ih fun x listed => before x (by simp [listed]), List.cons_append]

/-- Claims that have an order are put into it. -/
theorem insertionSort_of_ordered (l : List Claim) : ∀ m : List Claim, m.Perm l → m.Pairwise (fun a b => a.before b = true) →
    l.insertionSort (fun a b => a.before b = true) = m := by
  induction l with
  | nil => exact fun m perm _ => (List.perm_nil.mp perm).symm
  | cons c l ih =>
    intro m perm ordered
    obtain ⟨front, back, rfl⟩ := List.append_of_mem (perm.mem_iff.mpr (List.mem_cons_self ..))
    obtain ⟨inFront, inBack, across⟩ := List.pairwise_append.mp ordered
    rw [List.insertionSort_cons, ih (front ++ back) ((List.perm_middle.symm.trans perm).cons_inv)
      (ordered.sublist (List.Sublist.append_left (List.sublist_cons_self ..) _))]
    exact orderedInsert_between (fun a listed => across a listed c (by simp)) (List.pairwise_cons.mp inBack).1

/-- Where claims have an order, that is the order they are kept in. -/
theorem inClaimOrder_of_ordered {l m : List Claim} (perm : m.Perm l) (ordered : m.Pairwise (fun a b => a.before b = true)) :
    inClaimOrder l = m := by
  unfold inClaimOrder
  rw [insertionSort_of_ordered l m perm ordered]
  exact if_pos ordered

/-- Where claims have no order, they are kept as they stand. -/
theorem inClaimOrder_of_unordered {l : List Claim} (none : ∀ m : List Claim, m.Perm l → ¬ m.Pairwise (fun a b => a.before b = true)) :
    inClaimOrder l = l := if_neg (none _ (List.perm_insertionSort _ l))

theorem insertClaim_of_ordered {c : Claim} {l m : List Claim} (perm : m.Perm (c :: l))
    (ordered : m.Pairwise (fun a b => a.before b = true)) : insertClaim c l = m := by
  refine inClaimOrder_of_ordered (perm.trans ?_) ordered
  have cut : (l.take (claimPlace c l) ++ c :: l.drop (claimPlace c l)).Perm (c :: (l.take (claimPlace c l) ++ l.drop (claimPlace c l))) :=
    List.perm_middle
  rw [List.take_append_drop] at cut
  exact cut.symm

/-- The place claim order gives a newcomer between two parts of the list. -/
theorem claimPlace_between {c : Claim} {front back : List Claim} (before : ∀ a ∈ front, a.before c = true ∧ c.before a = false)
    (after : ∀ a ∈ back, c.before a = true ∧ a.before c = false) : claimPlace c (front ++ back) = front.length := by
  have count : ((front ++ back).filter (fun x => x.before c)).length = front.length := by
    rw [List.filter_append, List.filter_eq_self.mpr fun a listed => (before a listed).1,
      List.filter_eq_nil_iff.mpr fun a listed => by simp [(after a listed).2], List.append_nil]
  unfold claimPlace
  dsimp only
  rw [count, List.take_left, List.drop_left, if_pos]
  rw [Bool.and_eq_true, List.all_eq_true, List.all_eq_true]
  exact ⟨fun a listed => (before a listed).1, fun a listed => (after a listed).1⟩

theorem insertClaim_of_unordered {c : Claim} {front back : List Claim}
    (none : ∀ m : List Claim, m.Perm (c :: (front ++ back)) → ¬ m.Pairwise (fun a b => a.before b = true))
    (before : ∀ a ∈ front, a.before c = true ∧ c.before a = false) (after : ∀ a ∈ back, c.before a = true ∧ a.before c = false) :
    insertClaim c (front ++ back) = front ++ c :: back := by
  rw [insertClaim, claimPlace_between before after, List.take_left, List.drop_left]
  exact inClaimOrder_of_unordered fun m perm => none m (perm.trans List.perm_middle)

/-- The non-own claim that every other is before is the latest (R93). -/
theorem latestNonOwn_of_after {l : List Claim} {latest : Claim} (listed : latest ∈ l) (foreign : latest.own = false)
    (last : ∀ a ∈ l, a.own = false → a = latest ∨ a.before latest = true) : latestNonOwn l = some latest := by
  have among : latest ∈ l.filter (fun c => !c.own) := List.mem_filter.mpr ⟨listed, by simp [foreign]⟩
  have others {a : Claim} (there : a ∈ l.filter (fun c => !c.own)) : a = latest ∨ a.before latest = true :=
    last a (List.mem_filter.mp there).1 (by simpa using (List.mem_filter.mp there).2)
  have found : (l.filter (fun c => !c.own)).find? (fun c => (l.filter (fun c => !c.own)).all (fun a => a == c || a.before c)) = some latest := by
    cases picked : (l.filter (fun c => !c.own)).find? (fun c => (l.filter (fun c => !c.own)).all (fun a => a == c || a.before c)) with
    | none =>
      refine absurd ?_ (List.find?_eq_none.mp picked latest among)
      exact List.all_eq_true.mpr fun a there => by simpa using others there
    | some c =>
      have all := List.find?_some picked
      have test := List.all_eq_true.mp all latest among
      rw [Bool.or_eq_true, beq_iff_eq] at test
      rcases test with same | earlier
      · rw [same]
      · rcases others (List.mem_of_find?_eq_some picked) with same | later
        · rw [same]
        · exact absurd later (by simp [Claim.before_asymm earlier])
  simp only [latestNonOwn, found]

/-! ### Insertion (R93) -/

section insert

variable {c : Claim} {l : List Claim}

theorem insertLimited_of_room (room : l.length < 6) : insertLimited c l = (insertClaim c l, false) := if_pos room

theorem insertLimited_of_latest {latest : Claim} (full : l.length = 6) (picked : latestNonOwn (c :: l) = some latest) :
    insertLimited c l = (if latest = c then l else insertClaim c (inClaimOrder (l.erase latest)), true) := by
  rw [insertLimited, if_neg (by rw [full]; decide), picked]

theorem insertClaim_erase_perm (c x : Claim) (l : List Claim) : (insertClaim c (inClaimOrder (l.erase x))).Perm (c :: l.erase x) :=
  (insertClaim_perm c _).trans ((inClaimOrder_perm _).cons c)

theorem mem_of_mem_insertLimited {a : Claim} (listed : a ∈ (insertLimited c l).1) : a = c ∨ a ∈ l := by
  rcases insertLimited_cases c l with ⟨_, same⟩ | ⟨_, _, same⟩ | ⟨_, _, same⟩ | ⟨_, x, _, _, same⟩ <;> rw [same] at listed
  · simpa using (insertClaim_perm c l).mem_iff.mp listed
  · exact .inr listed
  · exact .inr listed
  · exact (List.mem_cons.mp ((insertClaim_erase_perm c x l).mem_iff.mp listed)).imp_right List.mem_of_mem_erase

/-- No own claim is dropped, and of the heard ones one at most. -/
theorem own_mem_insertLimited {a : Claim} (listed : a ∈ l) (own : a.own = true) : a ∈ (insertLimited c l).1 := by
  rcases insertLimited_cases c l with ⟨_, same⟩ | ⟨_, _, same⟩ | ⟨_, _, same⟩ | ⟨_, x, _, foreign, same⟩ <;> rw [same]
  · exact (insertClaim_perm c l).mem_iff.mpr (by simp [listed])
  · exact listed
  · exact listed
  · have kept : a ∈ l.erase x := (List.mem_erase_of_ne (by rintro rfl; simp [own] at foreign)).mpr listed
    exact (insertClaim_erase_perm c x l).mem_iff.mpr (by simp [kept])

/-- An own newcomer joins any list that is not full of own claims. -/
theorem mem_insertLimited_self (own : c.own = true) (place : (∃ a ∈ l, a.own = false) ∨ l.length < 6) : c ∈ (insertLimited c l).1 := by
  rcases insertLimited_cases c l with ⟨_, same⟩ | ⟨full, all, same⟩ | ⟨_, foreign, same⟩ | ⟨_, x, _, _, same⟩ <;> rw [same]
  · exact (insertClaim_perm c l).mem_iff.mpr (by simp)
  · rcases place with ⟨a, listed, heard⟩ | room
    · exact absurd (all a (by simp [listed])) (by simp [heard])
    · omega
  · exact absurd own (by simp [foreign])
  · exact (insertClaim_erase_perm c x l).mem_iff.mpr (by simp)

/-- A full list with a claim to drop drops one that is not own. -/
theorem insertLimited_drops (full : l.length = 6) (heard : ∃ a ∈ c :: l, a.own = false) :
    (insertLimited c l).2 = true ∧ ∃ dropped, dropped.own = false ∧ (dropped :: (insertLimited c l).1).Perm (c :: l) := by
  rcases insertLimited_cases c l with ⟨room, _⟩ | ⟨_, all, _⟩ | ⟨_, foreign, same⟩ | ⟨_, x, listed, foreign, same⟩
  · omega
  · obtain ⟨a, listed, heard⟩ := heard
    exact absurd (all a listed) (by simp [heard])
  · rw [same]
    exact ⟨rfl, c, foreign, .refl _⟩
  · rw [same]
    exact ⟨rfl, x, foreign, ((insertClaim_erase_perm c x l).cons x).trans
      ((List.Perm.swap c x _).trans ((List.perm_cons_erase listed).symm.cons c))⟩

end insert

/-- What stays of an entry after a removal. -/
theorem Entry.removeClaims_eq (p : Claim → Bool) (e : Entry) :
    e.removeClaims p = { e with
      pending := inClaimOrder (e.pending.filter (fun c => !p c)), overfull := e.overfull && !(e.pending.filter (fun c => !p c)).isEmpty } := by
  have same := (inClaimOrder_perm (e.pending.filter (fun c => !p c))).isEmpty_eq
  simp only [Entry.removeClaims, same]

/-! ### The own committed list (R97) -/

theorem Entry.addRecord_of_present {e : Entry} {r : CommitRecord} (short : e.ownCommitted.length ≤ 4)
    (present : ∃ a ∈ e.ownCommitted, a.ref = r.ref) :
    (e.addRecord r).ownCommitted = e.ownCommitted.filter (fun a => a.ref ≠ r.ref) ++ [r] := by
  have fewer : (e.ownCommitted.filter (fun a => a.ref ≠ r.ref)).length < e.ownCommitted.length := by
    obtain ⟨a, listed, same⟩ := present
    exact List.length_filter_lt_length_iff_exists.mpr ⟨a, listed, by simp [same]⟩
  unfold Entry.addRecord Config.committedCapacity
  dsimp only
  rw [if_pos (by omega)]

theorem Entry.addRecord_of_absent {e : Entry} {r : CommitRecord} (short : e.ownCommitted.length ≤ 4)
    (absent : ∀ a ∈ e.ownCommitted, a.ref ≠ r.ref) :
    (e.addRecord r).ownCommitted = (if e.ownCommitted.length = 4 then e.ownCommitted.drop 1 else e.ownCommitted) ++ [r] := by
  have all : e.ownCommitted.filter (fun a => a.ref ≠ r.ref) = e.ownCommitted := List.filter_eq_self.mpr (by simpa using absent)
  unfold Entry.addRecord Config.committedCapacity
  dsimp only
  rw [all]
  by_cases full : e.ownCommitted.length = 4
  · rw [if_neg (by omega), if_pos full, full]
  · rw [if_pos (by omega), if_neg full]

/-- A record added is the newest, and no two are of one item. -/
theorem Entry.addRecord_ends {e : Entry} {r : CommitRecord} (distinct : (e.ownCommitted.map CommitRecord.ref).Nodup) :
    ((e.addRecord r).ownCommitted.map CommitRecord.ref).Nodup ∧ (e.addRecord r).ownCommitted.getLast? = some r := by
  obtain ⟨l, kept, is⟩ : ∃ l, l.Sublist (e.ownCommitted.filter (fun a => a.ref ≠ r.ref)) ∧ (e.addRecord r).ownCommitted = l ++ [r] := by
    unfold Entry.addRecord
    dsimp only
    split
    · exact ⟨_, .refl _, rfl⟩
    · exact ⟨_, List.drop_sublist _ _, rfl⟩
  rw [is, List.map_append, List.nodup_append']
  refine ⟨⟨distinct.sublist ((kept.trans List.filter_sublist).map _), List.nodup_singleton _, ?_⟩, by simp⟩
  have others : ∀ a ∈ l, a.ref ≠ r.ref := fun a listed => by simpa using (List.mem_filter.mp (kept.subset listed)).2
  simpa using others

/-- Settles O35: each list by the lemmas about its one change. -/
theorem listsOfAnEntry : Obligations.ListsOfAnEntry := by
  unfold Obligations.ListsOfAnEntry
  intro ordered
  refine ⟨fun c l short => ?insertion, fun e p => ?removal, fun e r short distinct => ?record⟩
  case insertion =>
    intro r
    refine ⟨length_insertLimited_le short, fun a => mem_of_mem_insertLimited, fun a => own_mem_insertLimited, mem_insertLimited_self,
      fun room => ?_, insertLimited_drops, fun room m perm order => ?_, fun room none front back cut before after => ?_,
      fun full latest listed foreign last => ⟨fun newcomer => ?_, fun other => ?_⟩⟩
    · rw [show r = _ from insertLimited_of_room room]
      exact ⟨rfl, insertClaim_perm c l⟩
    · rw [show r = _ from insertLimited_of_room room, insertClaim_of_ordered perm order]
    · subst cut
      rw [show r = _ from insertLimited_of_room room, insertClaim_of_unordered none before after]
    · rw [show r = _ from insertLimited_of_latest full (latestNonOwn_of_after listed foreign last), if_pos newcomer]
    · have is : r = _ := insertLimited_of_latest full (latestNonOwn_of_after listed foreign last)
      rw [if_neg other] at is
      rw [is]
      refine ⟨rfl, insertClaim_erase_perm c latest l, fun m perm order => ?_⟩
      rw [insertClaim_of_ordered (perm.trans ((inClaimOrder_perm _).symm.cons c)) order]
  case removal =>
    intro left e'
    refine ⟨Entry.removeClaims_eq p e, e.removeClaims_perm p, fun m perm order => inClaimOrder_of_ordered perm order,
      fun none => inClaimOrder_of_unordered none⟩
  case record =>
    exact ⟨Entry.length_addRecord_le e r, (Entry.addRecord_ends distinct).1, (Entry.addRecord_ends distinct).2,
      Entry.addRecord_of_present short, Entry.addRecord_of_absent short⟩

/-! ### Creation in a full table (R101, R102) -/

/-- Settles O36: the first entry that is not pinned leaves, or none does. -/
theorem creationInAFullTable : Obligations.CreationInAFullTable := by
  unfold Obligations.CreationInAFullTable
  intro x e full distinct
  have taken : ¬ x.table.entries.length < Config.tableCapacity := by rw [full]; decide
  refine ⟨fun front old back cut pinned free => ?_, fun pinned => ?_⟩
  · have first : x.table.entries.find? (fun a => !x.pinned a) = some old := by
      rw [cut, List.find?_append, List.find?_eq_none.mpr fun a listed => by simp [pinned a listed]]
      simp [free]
    have apart : ∀ a ∈ front, ¬ (decide (a.key = old.key)) = true := by
      rw [cut, List.map_append, List.nodup_append'] at distinct
      intro a listed same
      exact distinct.2.2 (List.mem_map_of_mem listed) (by simp [of_decide_eq_true same])
    have gone : x.table.entries.eraseP (fun a => a.key = old.key) = front ++ back := by
      rw [cut, List.eraseP_append_right _ apart, List.eraseP_cons_of_pos (by simp)]
    rw [Station.createEntry, if_neg taken, first]
    simp only [Station.evict, Station.addEntry, gone]
  · have none : x.table.entries.find? (fun a => !x.pinned a) = none :=
      List.find?_eq_none.mpr fun a listed => by simp [pinned a listed]
    rw [Station.createEntry, if_neg taken, none]
    rfl

end Sys2Proof.Machine
end

section
/-! SUPPORT. Heard frames merged into the table (R104 to R107), claim expiry (R108) and the lapse of REQUESTED (R109): each as an entry
written and a change reported, and the statements these settle. -/

namespace Sys2Proof.Machine

variable (s : Station)

/-! ### An entry put in its place -/

/-- The station with the entry of a key written and touched. -/
def Station.wrote (k : Key) (m : Entry) (s : Station) : Station :=
  { s with table := { s.table with entries := s.table.entries.eraseP (fun a => a.key = k) ++ [m] } }

section wrote

variable {k : Key} {m : Entry}

theorem Station.entry_wrote (own : m.key = k) (distinct : (s.table.entries.map Entry.key).Nodup) : (s.wrote k m).entry k = some m := by
  have gone : (s.table.entries.eraseP (fun a => a.key = k)).find? (fun a => a.key = k) = none :=
    List.find?_eq_none.mpr fun a left => by simpa using key_ne_of_mem_eraseP distinct a left
  rw [Station.wrote, Station.entry, List.find?_append, gone]
  simp [own]

theorem Station.keys_wrote_nodup (own : m.key = k) (distinct : (s.table.entries.map Entry.key).Nodup) :
    ((s.wrote k m).table.entries.map Entry.key).Nodup := by
  rw [Station.wrote, List.map_append, List.nodup_append']
  refine ⟨distinct.sublist (List.eraseP_sublist.map _), List.nodup_singleton _, ?_⟩
  simpa [own] using key_ne_of_mem_eraseP (k := k) distinct

theorem Station.getLast_wrote : (s.wrote k m).table.entries.getLast? = some m := by simp [Station.wrote]

/-- A write of an entry reads only the entry of its key. -/
theorem Station.modifyEntry_congr {f g : Entry → Entry} (alike : ∀ e ∈ s.table.entries, e.key = k → f e = g e) :
    s.modifyEntry k f = s.modifyEntry k g := by
  have same : s.table.entries.map (fun e => if e.key = k then f e else e) = s.table.entries.map (fun e => if e.key = k then g e else e) := by
    refine List.map_congr_left fun e listed => ?_
    split
    next own => exact alike e listed own
    next => rfl
  simp only [Station.modifyEntry, same]

/-- An entry written, whatever the write reads of it. -/
theorem Station.writeEntry_eq_wrote {e : Entry} {f : Entry → Entry} (found : s.entry k = some e) (own : (f e).key = k)
    (distinct : (s.table.entries.map Entry.key).Nodup) : s.writeEntry k f = s.wrote k (f e) := by
  have only (a : Entry) (listed : a ∈ s.table.entries) (same : a.key = k) : a = e :=
    List.inj_on_of_nodup_map distinct listed (s.entry_mem found) (same.trans (s.entry_key found).symm)
  have put : s.modifyEntry k f = s.modifyEntry k (fun a => if a.key = k then f e else a) :=
    s.modifyEntry_congr fun a listed same => by rw [if_pos same, only a listed same]
  have keepsKey (a : Entry) : (if a.key = k then f e else a).key = a.key := by
    split
    next same => exact own.trans same.symm
    next => rfl
  have whole := s.writeEntry_eq (f := fun a => if a.key = k then f e else a) keepsKey found distinct
  rw [Station.writeEntry, ← put, ← Station.writeEntry, if_pos (s.entry_key found)] at whole
  exact whole

/-- The entry a merge finds or makes: that of the key, or a new one at a free place. -/
theorem Station.ensureEntry_placed (n : Nat) (h : Holdings) (placed : (s.entry k).isSome ∨ s.table.entries.length < 4096)
    (distinct : (s.table.entries.map Entry.key).Nodup) :
    ∃ made, s.ensureEntry k n h = (made, true) ∧ made.entry k = some ((s.entry k).getD (newEntry k n h)) ∧
      (made.table.entries.map Entry.key).Nodup ∧ ∀ m, made.wrote k m = s.wrote k m := by
  cases found : s.entry k with
  | some e => exact ⟨s, by rw [Station.ensureEntry, found], found, distinct, fun _ => rfl⟩
  | none =>
    have place : s.table.entries.length < 4096 := by simpa [found] using placed
    have others := (s.entry_eq_none_iff k).mp found
    refine ⟨s.addEntry (newEntry k n h), ?_, ?_, ?_, fun m => ?_⟩
    · simp [Station.ensureEntry, found, Station.createEntry, Config.tableCapacity, place]
    · rw [Station.entry] at found
      rw [Station.entry, Station.addEntry, List.find?_append, found]
      simp [newEntry]
    · rw [Station.addEntry, List.map_append, List.nodup_append']
      exact ⟨distinct, List.nodup_singleton _, by simpa [newEntry] using others⟩
    · have clear : ∀ a ∈ s.table.entries, ¬ (decide (a.key = k)) = true := by simpa using others
      simp only [Station.wrote, Station.addEntry]
      rw [List.eraseP_append_right _ clear, List.eraseP_of_forall_not clear]
      simp [newEntry]

end wrote

/-! ### A heard frame's delivery -/

/-- The station once a heard frame has left the queue and its tally is compared. -/
def Station.hearing (rest : List RxFrame) (t : Tally) (s : Station) : Station :=
  { s with link := { s.link with rxQueue := rest }, claims := { s.claims with tally := laterTally s.claims.tally t } }

/-- A station's frame with a usable key is merged. -/
theorem Station.stationFrame_of_usable {f : RxFrame} (merge : Key → Station → Station) {k : Key} {rest : List RxFrame}
    (usable : heardKey f.payload 0 = some k) (source : 1 ≤ f.source.toNat) :
    Station.stationFrame f true merge { s with link := { s.link with rxQueue := rest } } = merge k (s.hearing rest (tallyField f.payload 7)) := by
  rw [Station.stationFrame, if_neg (by omega), usable]
  exact congrArg (merge k) (Station.adopt_eq _ _)

/-! ### HEARD_CLAIM (R104) -/

/-- The list and the flag of a dropped claim after a heard claim, known already or new. -/
def Entry.heardInsert (known : Bool) (c : Claim) (e : Entry) : Entry × Bool := if known then (e, false) else e.insert c

/-- The entry after a heard claim is merged. -/
def Entry.heardClaim (known wanted : Bool) (c : Claim) (count : Nat) (now : Millis) (e : Entry) : Entry :=
  { (e.heardInsert known c).1 with
    holdings := if wanted ∧ e.holdings = .unknown then .requested now false else e.holdings
    committed := max e.committed count }

/-- The table with a merge counted, and a dropped claim. -/
def Station.merged (k : Key) (m : Entry) (dropped : Bool) (s : Station) : Station := ((s.wrote k m).countDropped dropped).countMerge

theorem Station.mergeClaim_eq {k : Key} {t : Tally} {n : Nat} {ref : ItemRef} {count : Nat} {wanted : Bool}
    (placed : (s.entry k).isSome ∨ s.table.entries.length < 4096) (distinct : (s.table.entries.map Entry.key).Nodup) :
    let e := (s.entry k).getD (newEntry k 0 s.freshHoldings)
    let known := e.pending.any (fun c => c.isOf n ref)
    let c : Claim := { station := n, tally := t, ref := ref, heard := some s.clock, own := false }
    s.mergeClaim k t n ref count wanted =
      (s.merged k (e.heardClaim known wanted c count s.clock) (e.heardInsert known c).2).report k (s.entry k) (e.heardInsert known c).2 := by
  intro e known c
  obtain ⟨made, ensured, found, distinctToo, wrote⟩ := s.ensureEntry_placed 0 s.freshHoldings placed distinct
  have own (k : Key) (x : Entry) (key : x.key = k) : (x.heardClaim known wanted c count s.clock).key = k := by
    rw [← key, Entry.heardClaim, Entry.heardInsert]
    split <;> rfl
  have put := made.writeEntry_eq_wrote (f := fun _ => e.heardClaim known wanted c count s.clock) found (own _ _ (made.entry_key found))
    distinctToo
  unfold Station.mergeClaim
  simp only [ensured, Bool.not_true, Bool.false_eq_true, if_false, found]
  rw [Station.merged, ← wrote, ← put]
  rfl

section merged

variable {k : Key} {m : Entry} (dropped : Bool)

theorem Station.merged_eq : s.merged k m dropped = { s with table :=
    { entries := s.table.entries.eraseP (fun a => a.key = k) ++ [m]
      counts := { s.table.counts with
        merges := s.table.counts.merges + 1
        droppedClaims := if dropped then s.table.counts.droppedClaims + 1 else s.table.counts.droppedClaims } } } := by
  cases dropped <;> rfl

theorem Station.entry_merged (own : m.key = k) (distinct : (s.table.entries.map Entry.key).Nodup) :
    (s.merged k m dropped).entry k = some m ∧ ((s.merged k m dropped).table.entries.map Entry.key).Nodup ∧
      (s.merged k m dropped).table.entries.getLast? = some m := by
  have entries : (s.merged k m dropped).table.entries = (s.wrote k m).table.entries := by rw [Station.merged_eq]; rfl
  rw [Station.entry, entries, ← Station.entry]
  exact ⟨s.entry_wrote own distinct, s.keys_wrote_nodup own distinct, s.getLast_wrote⟩

end merged

theorem exec_heardClaim (x : Station) (q : List Instr) :
    exec .heardClaim ⟨x, q⟩ = .next ⟨x.deliver .claim Station.deliverClaim, q⟩ := rfl

/-- A heard claim adds no own claim to an entry that holds none. -/
theorem Entry.holdsOwn_heardClaim {e : Entry} {c : Claim} (none : e.holdsOwn = false) (foreign : c.own = false) (known wanted : Bool)
    (count : Nat) (now : Millis) : (e.heardClaim known wanted c count now).holdsOwn = false := by
  have old : ∀ a ∈ e.pending, a.own = false := by simpa [Entry.holdsOwn] using none
  refine List.any_eq_false.mpr fun a listed => ?_
  cases known with
  | true => simpa using old a listed
  | false =>
    rcases mem_of_mem_insertLimited listed with rfl | there
    · simp [foreign]
    · simp [old a there]

/-- Settles O38: the merge as one entry written, and its report. -/
theorem heardClaim : Obligations.HeardClaim := by
  unfold Obligations.HeardClaim
  intro x q f rest k configured front kind length low high usable placed distinct tally ref wanted e known inserted merged counts
  have lengthOk : kindLength f.kind.toNat = some f.payload.length := by rw [kind, length]; rfl
  let z := x.hearing rest tally
  let c : Claim := ⟨f.source.toNat, tally, ref, some x.clock, false⟩
  have is : (fun c : Claim => c.isOf f.source.toNat ref) = fun c => decide (c.station = f.source.toNat ∧ c.ref = ref) := by
    funext a
    rw [Claim.isOf, Bool.decide_and]
  have result : e.heardClaim known (payloadField f.payload 13 1 % 2 == 1) c (payloadField f.payload 12 1) x.clock = merged ∧
      (e.heardInsert known c).2 = (!known && inserted.2) := by
    have wants : ((payloadField f.payload 13 1 % 2 == 1) = true) = wanted := by simp [wanted]
    unfold Entry.heardClaim Entry.heardInsert
    simp only [wants, merged]
    cases known <;> exact ⟨rfl, rfl⟩
  have made := z.mergeClaim_eq (k := k) (t := tally) (n := f.source.toNat) (ref := ref) (count := payloadField f.payload 12 1)
    (wanted := payloadField f.payload 13 1 % 2 == 1) placed distinct
  have same : z.mergeClaim k tally f.source.toNat ref (payloadField f.payload 12 1) (payloadField f.payload 13 1 % 2 == 1) =
      (z.merged k merged (!known && inserted.2)).report k (x.entry k) (!known && inserted.2) := by
    refine made.trans ?_
    rw [is, ← result.1, ← result.2]
    rfl
  have delivered : x.deliver .claim Station.deliverClaim =
      (z.merged k merged (!known && inserted.2)).report k (x.entry k) (!known && inserted.2) :=
    (x.deliver_of_front Station.deliverClaim configured front ((classify_stationFrame lengthOk high).1 kind)).trans
      ((x.stationFrame_of_usable _ usable low).trans same)
  have key : merged.key = k := by
    cases found : x.entry k with
    | none => simp [merged, e, found, newEntry]
    | some a => simpa [merged, e, found] using x.entry_key found
  obtain ⟨found, distinctToo, last⟩ := z.entry_merged (!known && inserted.2) key distinct
  have kept := Station.report_changes (z.merged k merged (!known && inserted.2)) k (x.entry k) (!known && inserted.2)
  obtain ⟨e', entry, stillLast, more, holdings, less, left⟩ :=
    (Station.report_ripples _ found distinctToo (x.entry k) (!known && inserted.2)).entry
  have is := z.merged_eq (k := k) (m := merged) (!known && inserted.2)
  refine ⟨_, e', by rw [exec_heardClaim, delivered], ?_, ?_, ?_, entry, stillLast last, more, holdings, less, fun a listed foreign => ?_,
    fun changed => ?_, fun none => ?_⟩
  · rw [kept .rxQueue (by decide), is]
    rfl
  · rw [kept .tableCounts (by decide), is]
    rfl
  · rw [kept .tally (by decide), is]
    rfl
  · exact (left a listed).resolve_right fun h => absurd h.1 (by simp [foreign])
  · have reported : (!known && inserted.2) = true ∨ (x.entry k).map Entry.reported ≠ some merged.reported := by
      by_contra same
      obtain ⟨kept, same⟩ := not_or.mp same
      obtain ⟨a, there, reported⟩ := Option.map_eq_some_iff.mp (not_not.mp same)
      have is : e = a := by simp [e, there]
      obtain ⟨pending, rest⟩ := Prod.ext_iff.mp reported
      obtain ⟨committed, state⟩ := Prod.ext_iff.mp rest
      rw [is] at changed
      rcases changed with other | other | other | ⟨new, dropped⟩
      · exact other pending.symm
      · exact other committed.symm
      · exact other state.symm
      · exact kept (by simp [new, dropped])
    have items : (z.merged k merged (!known && inserted.2)).lane.queue = x.lane.queue := by rw [is]; rfl
    have queue : (z.merged k merged (!known && inserted.2)).link.txQueue = x.link.txQueue := by rw [is]; rfl
    exact ⟨Station.report_retests found distinctToo items (by rw [is]; rfl) reported,
      Station.report_retestSends found distinctToo items (congrArg List.length queue).le (congrArg List.length queue).ge reported⟩
  · rw [Station.report_of_no_own _ found ?_, is]
    · rfl
    · rw [← result.1]
      exact Entry.holdsOwn_heardClaim none rfl known _ _ _

/-! ### HEARD_WITHDRAW (R106) -/

theorem exec_heardWithdraw (x : Station) (q : List Instr) :
    exec .heardWithdraw ⟨x, q⟩ = .next ⟨x.deliver .withdraw Station.deliverWithdraw, q⟩ := rfl

/-- The claim a heard frame names, as no own one. -/
def Claim.isHeard (n : Nat) (ref : ItemRef) (c : Claim) : Bool := decide (c.station = n ∧ c.ref = ref ∧ c.own = false)

theorem Claim.isOf_and_not_own (n : Nat) (ref : ItemRef) : (fun c : Claim => c.isOf n ref && !c.own) = Claim.isHeard n ref := by
  funext c
  simp [Claim.isOf, Claim.isHeard, Bool.decide_and, Bool.and_assoc]

theorem Entry.removeClaims_key (p : Claim → Bool) (e : Entry) : (e.removeClaims p).key = e.key := rfl

theorem Entry.mem_removeClaims {p : Claim → Bool} {e : Entry} {c : Claim} :
    c ∈ (e.removeClaims p).pending ↔ c ∈ e.pending ∧ p c = false := by
  rw [(e.removeClaims_perm p).mem_iff]
  simp

theorem Entry.holdsOwn_removeClaims {p : Claim → Bool} {e : Entry} (none : e.holdsOwn = false) : (e.removeClaims p).holdsOwn = false :=
  List.any_eq_false.mpr fun c listed => List.any_eq_false.mp none c (Entry.mem_removeClaims.mp listed).1

theorem Station.mergeWithdraw_eq {k : Key} {n : Nat} {ref : ItemRef} {e : Entry} (found : s.entry k = some e)
    (distinct : (s.table.entries.map Entry.key).Nodup) :
    s.mergeWithdraw k n ref = (s.merged k (e.removeClaims (Claim.isHeard n ref)) false).report k (some e) false := by
  unfold Station.mergeWithdraw
  rw [found]
  dsimp only
  rw [Claim.isOf_and_not_own, s.writeEntry_eq_wrote found ((e.removeClaims_key _).trans (s.entry_key found)) distinct]
  rfl

/-- Settles O40: the merge as one entry written, and its report. -/
theorem heardWithdraw : Obligations.HeardWithdraw := by
  unfold Obligations.HeardWithdraw
  intro x q f rest k configured front kind length low high usable distinct tally adopted mine
  have lengthOk : kindLength f.kind.toNat = some f.payload.length := by rw [kind, length]; rfl
  let z := x.hearing rest tally
  have delivered : x.deliver .withdraw Station.deliverWithdraw = z.mergeWithdraw k f.source.toNat (refField f.payload 10) :=
    (x.deliver_of_front Station.deliverWithdraw configured front ((classify_stationFrame lengthOk high).2.2 kind)).trans
      (x.stationFrame_of_usable _ usable low)
  refine ⟨_, by rw [exec_heardWithdraw, delivered], z.mergeWithdraw_changes k _ _ .tally (by decide), ?_⟩
  cases found : x.entry k with
  | none => simp only [Station.mergeWithdraw, show z.entry k = none from found]; rfl
  | some e =>
    have key : (e.removeClaims mine).key = k := (e.removeClaims_key mine).trans (x.entry_key found)
    have result : z.mergeWithdraw k f.source.toNat (refField f.payload 10) = (z.merged k (e.removeClaims mine) false).report k (some e) false :=
      z.mergeWithdraw_eq found distinct
    obtain ⟨foundToo, distinctToo, last⟩ := z.entry_merged false key distinct
    have is := z.merged_eq (k := k) (m := e.removeClaims mine) false
    obtain ⟨e', entry, stillLast, more, holdings, less, left⟩ :=
      (Station.report_ripples _ foundToo distinctToo (some e) false).entry
    have items : (z.merged k (e.removeClaims mine) false).lane.queue = x.lane.queue := by rw [is]; rfl
    have queue : (z.merged k (e.removeClaims mine) false).link.txQueue.length = x.link.txQueue.length := by rw [is]; rfl
    rw [result]
    refine ⟨?_, e', entry, stillLast last, more, holdings, fun c listed => Entry.mem_removeClaims.mp (less c listed), fun c listed foreign other => ?_,
      fun c listed own => ?_, ?_, fun none => ?_⟩
    · rw [Station.report_changes _ k _ _ .tableCounts (by decide), is]
      rfl
    · exact (left c (Entry.mem_removeClaims.mpr ⟨listed, other⟩)).resolve_right fun h => absurd h.1 (by simp [foreign])
    · exact (left c (Entry.mem_removeClaims.mpr ⟨listed, by simp [mine, own]⟩)).imp_right fun h =>
        (Station.isWaiting_of_items items _).symm.trans h.2
    · intro l m changed
      have same : m = e.removeClaims mine := (e.removeClaims_eq mine).symm
      have reported : (false : Bool) = true ∨ (some e).map Entry.reported ≠ some (e.removeClaims mine).reported := by
        refine .inr fun h => changed ?_
        rw [same]
        exact (Prod.ext_iff.mp (Option.some_injective _ h)).1.symm
      rw [same]
      exact ⟨Station.report_retests foundToo distinctToo items (by rw [is]; rfl) reported,
        Station.report_retestSends foundToo distinctToo items queue.le queue.ge reported⟩
    · rw [Station.report_of_no_own _ foundToo (Entry.holdsOwn_removeClaims none), is, e.removeClaims_eq mine]
      rfl

/-! ### CLAIM_EXPIRY and REQUESTED_LAPSE (R108, R109) -/

theorem exec_claimExpiry (k : Key) (n : Nat) (ref : ItemRef) (x : Station) (q : List Instr) :
    exec (.claimExpiry k n ref) ⟨x, q⟩ = .next ⟨x.claimExpires k n ref, q⟩ := rfl

theorem exec_requestedLapse (k : Key) (x : Station) (q : List Instr) :
    exec (.requestedLapse k) ⟨x, q⟩ = .next ⟨x.requestLapses k, q⟩ := rfl

/-- The station with the expired claims gone from an entry, in its place, and the expiry counted. -/
def Station.expired (k : Key) (p : Claim → Bool) (s : Station) : Station :=
  { s with table := { s.table with
    entries := s.table.entries.map (fun e => if e.key = k then e.removeClaims p else e)
    counts := { s.table.counts with expiries := s.table.counts.expiries + 1 } } }

theorem Station.entry_expired {k : Key} {e : Entry} (p : Claim → Bool) (found : s.entry k = some e)
    (distinct : (s.table.entries.map Entry.key).Nodup) :
    (s.expired k p).entry k = some (e.removeClaims p) ∧ ((s.expired k p).table.entries.map Entry.key).Nodup := by
  have read := s.entry_modifyEntry k (Entry.removeClaims p) fun _ own => own
  rw [found] at read
  refine ⟨read, ?_⟩
  have keys := s.keys_modifyEntry k (f := Entry.removeClaims p) fun _ => rfl
  exact keys ▸ distinct

/-- Settles O42: the expiry as one entry's list cut, and its report; the lapse as the holdings state written. -/
theorem expiryAndLapse : Obligations.ExpiryAndLapse := by
  unfold Obligations.ExpiryAndLapse
  refine ⟨?expiry, fun x q k e since found lapsed => ⟨fun own => ?_, fun foreign => ?_⟩⟩
  case expiry =>
    intro x q k station ref e expired found due distinct
    have is : (fun c : Claim => c.expires station ref x.cfg.claimLifetime x.clock) = expired := by
      funext c
      unfold Claim.expires
      simp only [expired, Claim.isOf, Bool.decide_and, Bool.and_assoc]
      cases c.heard with
      | none => simp
      | some h =>
        cases c.own with
        | true => simp
        | false => rfl
    have result : x.claimExpires k station ref = (x.expired k expired).report k (some e) false := by
      have there : e.pending.any expired = true := List.any_eq_true.mpr due
      unfold Station.claimExpires
      rw [found]
      dsimp only
      rw [is, if_pos there]
      rfl
    obtain ⟨foundToo, distinctToo⟩ := x.entry_expired expired found distinct
    obtain ⟨e', entry, -, more, holdings, less, left⟩ := (Station.report_ripples _ foundToo distinctToo (some e) false).entry
    refine ⟨_, e', by rw [exec_claimExpiry, result], entry, ?_, fun c listed => (Entry.mem_removeClaims.mp (less c listed)).2, more, holdings, ?_,
      fun foreign => ?_⟩
    · rw [Station.report_changes _ k _ _ .tableCounts (by decide)]
      rfl
    · intro l m
      have same : m = e.removeClaims expired := (e.removeClaims_eq expired).symm
      have reported : (false : Bool) = true ∨ (some e).map Entry.reported ≠ some (e.removeClaims expired).reported := by
        refine .inr fun h => ?_
        obtain ⟨c, listed, gone⟩ := due
        have kept : e.pending = (e.removeClaims expired).pending := (Prod.ext_iff.mp (Option.some_injective _ h)).1
        rw [kept] at listed
        exact absurd gone (by simp [(Entry.mem_removeClaims.mp listed).2])
      rw [same]
      exact ⟨Station.report_retests foundToo distinctToo rfl rfl reported,
        Station.report_retestSends foundToo distinctToo rfl le_rfl le_rfl reported⟩
    · rw [Station.report_of_no_own _ foundToo (Entry.holdsOwn_removeClaims (by simpa [Entry.holdsOwn] using foreign))]
      rfl
  · have holds : e.holdsOwn = true := List.any_eq_true.mpr own
    rw [exec_requestedLapse, Station.requestLapses, found]
    simp only [lapsed, holds, if_true]
  · have none : e.holdsOwn = false := by simpa [Entry.holdsOwn] using foreign
    rw [exec_requestedLapse, Station.requestLapses, found]
    simp only [lapsed, none, Bool.false_eq_true, if_false]
    rfl

end Sys2Proof.Machine
end

section
/-! SUPPORT. Heard COMMITs and HOLDINGS (R105, R107) with the clash test and the late-holdings test (R133 to R135), and the statements
these settle. -/

namespace Sys2Proof.Machine

variable (s : Station)

/-! ### A correction handed on (R134) -/

/-- A correction counted, and its record at the back of the queue, or none in LISTEN-ONLY. -/
def Station.corrected (c : Correction) (s : Station) : Station := { s with
  claims := { s.claims with counts := { s.claims.counts with corrections := s.claims.counts.corrections + 1 } }
  link := { s.link with txQueue := s.link.txQueue ++
    if s.startup.state = .listenOnly then [] else [⟨.correction c, 0, .ready, false⟩] } }

theorem Station.handCorrection_of_room (c : Correction) (room : s.link.txQueue.length < 16) : s.handCorrection c = s.corrected c := by
  unfold Station.handCorrection Station.buildRecord Station.corrected
  by_cases silent : s.startup.state = .listenOnly
  · rw [if_pos (by simp [Station.listening, silent]), if_pos silent, List.append_nil]
  · rw [if_neg (by simp [Station.listening, silent]), if_neg silent, Station.offerRecord, Station.placing_of_room _ (by exact room)]
    rfl

/-- A correction is no commit, and adds one frame to the queue at most. -/
theorem Station.handCorrection_keeps (c : Correction) :
    (s.handCorrection c).claims.counts.commits = s.claims.counts.commits ∧
      s.link.txQueue.length ≤ (s.handCorrection c).link.txQueue.length ∧
      (s.handCorrection c).link.txQueue.length ≤ s.link.txQueue.length + 1 := by
  unfold Station.handCorrection Station.buildRecord Station.offerRecord
  dsimp only
  split
  · exact ⟨rfl, le_rfl, Nat.le_succ _⟩
  · split
    · simp [Station.txPush]
    · exact ⟨rfl, le_rfl, Nat.le_succ _⟩
    · exact ⟨rfl, le_rfl, Nat.le_succ _⟩

/-! ### The clash test (R133) -/

section clash

variable (k : Key) (t : Tally) (n : Nat) (ref : ItemRef) (ordinal : Nat)

/-- A heard COMMIT clashes with an own committed record. -/
def clashes (own : Nat) (r : CommitRecord) : Bool :=
  decide (r.ordinal = ordinal) && !decide (own = n ∧ r.ref = ref) && claimBefore t n ref r.tally own r.ref

theorem Station.clashTestOne_eq (r : CommitRecord) : s.clashTestOne k t n ref ordinal r =
    if clashes t n ref ordinal s.ownId r then
      (s.handCorrection { ref := r.ref, key := k, ordinal := ordinal, reason := .clash, other := some n }).raise .clashSeen
    else s := by
  unfold Station.clashTestOne clashes
  congr 1
  simp only [Bool.and_eq_true, Bool.not_eq_true', decide_eq_true_eq, decide_eq_false_iff_not, and_assoc]

/-- The clash test of some records leaves the commits, and adds a frame for each record at most. -/
theorem Station.foldl_clashTestOne_keeps (l : List CommitRecord) : ∀ s : Station,
    (l.foldl (fun u r => u.clashTestOne k t n ref ordinal r) s).claims.counts.commits = s.claims.counts.commits ∧
      s.link.txQueue.length ≤ (l.foldl (fun u r => u.clashTestOne k t n ref ordinal r) s).link.txQueue.length ∧
      (l.foldl (fun u r => u.clashTestOne k t n ref ordinal r) s).link.txQueue.length ≤ s.link.txQueue.length + l.length := by
  induction l with
  | nil => exact fun s => ⟨rfl, le_rfl, le_rfl⟩
  | cons r l ih =>
    intro s
    have one : (s.clashTestOne k t n ref ordinal r).claims.counts.commits = s.claims.counts.commits ∧
        s.link.txQueue.length ≤ (s.clashTestOne k t n ref ordinal r).link.txQueue.length ∧
        (s.clashTestOne k t n ref ordinal r).link.txQueue.length ≤ s.link.txQueue.length + 1 := by
      rw [Station.clashTestOne_eq]
      split
      · exact s.handCorrection_keeps _
      · exact ⟨rfl, le_rfl, Nat.le_succ _⟩
    obtain ⟨commits, more, less⟩ := one
    obtain ⟨commits', more', less'⟩ := ih (s.clashTestOne k t n ref ordinal r)
    rw [List.foldl_cons, List.length_cons]
    exact ⟨commits'.trans commits, more.trans more', by omega⟩

/-- The clash test where the queue has room for every correction: those that clash are counted and queued in the order of the list. -/
theorem Station.foldl_clashTestOne_of_room (l : List CommitRecord) : ∀ s : Station, s.link.txQueue.length + l.length ≤ 16 →
    let u := l.foldl (fun u r => u.clashTestOne k t n ref ordinal r) s
    let seen := l.filter (clashes t n ref ordinal s.ownId)
    u.claims.counts = { s.claims.counts with corrections := s.claims.counts.corrections + BitVec.ofNat 16 seen.length } ∧
      u.records.flags = (if seen = [] then s.records.flags else s.records.flags ||| 4096#13) ∧
      u.link.txQueue = s.link.txQueue ++ (if s.startup.state = .listenOnly then [] else
        seen.map (fun r => ⟨.correction ⟨r.ref, k, ordinal, .clash, some n⟩, 0, .ready, false⟩)) := by
  induction l with
  | nil => exact fun s _ => ⟨by simp, rfl, by simp⟩
  | cons r l ih =>
    intro s room u seen
    rw [List.length_cons] at room
    simp only [u, seen, List.foldl_cons, List.filter_cons]
    rw [Station.clashTestOne_eq]
    cases clashes t n ref ordinal s.ownId r with
    | false => exact ih s (by omega)
    | true =>
      simp only [if_true]
      rw [s.handCorrection_of_room _ (by omega)]
      have short : (s.corrected ⟨r.ref, k, ordinal, .clash, some n⟩).link.txQueue.length ≤ s.link.txQueue.length + 1 := by
        unfold Station.corrected
        split <;> simp
      obtain ⟨counts, flags, queue⟩ := ih ((s.corrected ⟨r.ref, k, ordinal, .clash, some n⟩).raise .clashSeen)
        (by exact (Nat.add_le_add_right short _).trans (by omega))
      refine ⟨counts.trans ?_, flags.trans ?_, queue.trans ?_⟩
      · have sum (a : Count) (m : Nat) : a + 1 + BitVec.ofNat 16 m = a + BitVec.ofNat 16 (m + 1) := by
          rw [BitVec.ofNat_add, BitVec.add_comm (BitVec.ofNat 16 m), ← BitVec.add_assoc]
          rfl
        rw [List.length_cons, ← sum]
        rfl
      · have twice (a : BitVec 13) : a ||| 4096#13 ||| 4096#13 = a ||| 4096#13 := by rw [BitVec.or_assoc, BitVec.or_self]
        rw [if_neg (List.cons_ne_nil _ _)]
        split
        · rfl
        · exact twice _
      · unfold Station.corrected
        by_cases silent : s.startup.state = .listenOnly
        · simp [silent]
        · simp only [Station.raise_link, Station.raise_startup, silent, if_false, List.append_assoc, List.map_cons, List.singleton_append]
          rfl

/-- The clash test reads the own committed list of the entry as it stands. -/
theorem Station.clashTest_eq {e : Entry} (found : s.entry k = some e) :
    s.clashTest k t n ref ordinal = e.ownCommitted.foldl (fun u r => u.clashTestOne k t n ref ordinal r) s := by
  rw [Station.clashTest, found]

end clash

/-! ### HEARD_COMMIT (R105) -/

theorem exec_heardCommit (x : Station) (q : List Instr) :
    exec .heardCommit ⟨x, q⟩ = .next ⟨x.deliver .commit Station.deliverCommit, q⟩ := rfl

/-- The entry after a heard commit is merged. -/
def Entry.heardCommit (n : Nat) (ref : ItemRef) (ordinal : Nat) (e : Entry) : Entry :=
  { e.removeClaims (Claim.isHeard n ref) with committed := max e.committed ordinal }

theorem Entry.heardCommit_key (n : Nat) (ref : ItemRef) (ordinal : Nat) (e : Entry) : (e.heardCommit n ref ordinal).key = e.key := rfl

theorem Station.mergeCommit_eq {k : Key} {t : Tally} {n : Nat} {ref : ItemRef} {ordinal : Nat}
    (placed : (s.entry k).isSome ∨ s.table.entries.length < 4096) (distinct : (s.table.entries.map Entry.key).Nodup) :
    s.mergeCommit k t n ref ordinal =
      ((s.merged k (((s.entry k).getD (newEntry k ordinal s.freshHoldings)).heardCommit n ref ordinal) false).clashTest
        k t n ref ordinal).report k (s.entry k) false := by
  obtain ⟨made, ensured, found, distinctToo, wrote⟩ := s.ensureEntry_placed ordinal s.freshHoldings placed distinct
  have put := made.writeEntry_eq_wrote (f := Entry.heardCommit n ref ordinal) found
    ((Entry.heardCommit_key ..).trans (made.entry_key found)) distinctToo
  unfold Station.mergeCommit
  simp only [ensured, Bool.not_true, Bool.false_eq_true, if_false, Claim.isOf_and_not_own]
  rw [Station.merged, ← wrote, ← put]
  rfl

/-- A usable heard COMMIT is merged. -/
theorem Station.deliver_commit {f : RxFrame} {rest : List RxFrame} {k : Key} (configured : s.startup.state ≠ .configLoad)
    (front : s.link.rxQueue = f :: rest) (kind : f.kind = 0x12) (length : f.payload.length = 13) (low : 1 ≤ f.source.toNat)
    (high : f.source.toNat ≤ 31) (usable : heardKey f.payload 0 = some k) (ordinal : payloadField f.payload 12 1 ≠ 0) :
    s.deliver .commit Station.deliverCommit = (s.hearing rest (tallyField f.payload 7)).mergeCommit k (tallyField f.payload 7)
      f.source.toNat (refField f.payload 10) (payloadField f.payload 12 1) := by
  have lengthOk : kindLength f.kind.toNat = some f.payload.length := by rw [kind, length]; rfl
  have content : (payloadField f.payload 12 1 != 0) = true := by simpa using ordinal
  rw [s.deliver_of_front Station.deliverCommit configured front ((classify_stationFrame lengthOk high).2.1 kind), Station.deliverCommit,
    content]
  exact s.stationFrame_of_usable _ usable low

/-- The table is its entries and its counts. -/
theorem table_of_same {s t : Station} (entries : Block.entries.same s t) (counts : Block.tableCounts.same s t) : t.table = s.table := by
  have same : t.table.entries = s.table.entries ∧ t.table.counts = s.table.counts := ⟨entries, counts⟩
  change t.table = ⟨s.table.entries, s.table.counts⟩
  rw [← same.1, ← same.2]

/-- What the clash test leaves of the station it tests. -/
theorem Station.clashTest_keeps {k : Key} {m : Entry} (t : Tally) (n : Nat) (ref : ItemRef) (ordinal : Nat) (found : s.entry k = some m) :
    (s.clashTest k t n ref ordinal).table = s.table ∧ (s.clashTest k t n ref ordinal).lane.queue = s.lane.queue ∧
      (s.clashTest k t n ref ordinal).claims.counts.commits = s.claims.counts.commits ∧
      s.link.txQueue.length ≤ (s.clashTest k t n ref ordinal).link.txQueue.length ∧
      (s.clashTest k t n ref ordinal).link.txQueue.length ≤ s.link.txQueue.length + m.ownCommitted.length := by
  have kept := s.clashTest_changes k t n ref ordinal
  refine ⟨table_of_same (kept .entries (by decide)) (kept .tableCounts (by decide)), kept .items (by decide), ?_⟩
  rw [s.clashTest_eq k t n ref ordinal found]
  exact Station.foldl_clashTestOne_keeps k t n ref ordinal _ s

/-- Settles O39: the merge as one entry written, the clash test over its records, and the report. -/
theorem heardCommit : Obligations.HeardCommit := by
  unfold Obligations.HeardCommit
  refine ⟨?merge, ?clash⟩
  case merge =>
    intro x q f rest k configured front kind length low high usable nonzero placed distinct ordinal tally mine
    let z := x.hearing rest tally
    let n := f.source.toNat
    let ref := refField f.payload 10
    let e := (x.entry k).getD (newEntry k ordinal x.freshHoldings)
    let m := e.heardCommit n ref ordinal
    let v := z.merged k m false
    let w := v.clashTest k tally n ref ordinal
    obtain ⟨before, was⟩ : ∃ before, x.entry k = before := ⟨_, rfl⟩
    have delivered : x.deliver .commit Station.deliverCommit = w.report k before false := by
      refine (x.deliver_commit configured front kind length low high usable nonzero).trans ((z.mergeCommit_eq placed distinct).trans ?_)
      rw [show z.entry k = before from was]
      simp only [w, v, m, e, was]
      rfl
    have key : m.key = k := by
      refine (Entry.heardCommit_key ..).trans ?_
      cases found : x.entry k with
      | none => simp [e, found, newEntry]
      | some a => simpa [e, found] using x.entry_key found
    have is : v = _ := z.merged_eq (k := k) (m := m) false
    obtain ⟨found, distinctToo, -⟩ := z.entry_merged false key distinct
    obtain ⟨table, items, commits, more, few⟩ := v.clashTest_keeps tally n ref ordinal found
    have foundToo : w.entry k = some m := by rw [Station.entry, table]; exact found
    have distinctThere : (w.table.entries.map Entry.key).Nodup := by rwa [table]
    have itemsToo : w.lane.queue = x.lane.queue := items.trans (by rw [is]; rfl)
    have commitsToo : w.claims.counts.commits = x.claims.counts.commits := commits.trans (by rw [is]; rfl)
    have queue : v.link.txQueue.length = x.link.txQueue.length := by rw [is]; rfl
    have fewToo : w.link.txQueue.length ≤ x.link.txQueue.length + m.ownCommitted.length := queue ▸ few
    have moreToo : x.link.txQueue.length ≤ w.link.txQueue.length := queue ▸ more
    obtain ⟨e', entry, -, larger, holdings, less, -⟩ := (w.report_ripples foundToo distinctThere before false).entry
    have kept := w.report_changes k before false
    have test := v.clashTest_changes k tally n ref ordinal
    refine ⟨_, e', by rw [exec_heardCommit, delivered], entry, ?_, ?_, ?_, fun c listed => ?_, ?_⟩
    · rw [kept .rxQueue (by decide), test .rxQueue (by decide), is]
      rfl
    · rw [kept .tableCounts (by decide), table, is]
      rfl
    · rw [kept .tally (by decide), test .tally (by decide), is]
      rfl
    · exact of_decide_eq_false (Entry.mem_removeClaims.mp (less c listed)).2
    · have ends (none : m.holdsOwn = false) : w.report k before false = w := w.report_of_no_own foundToo none _ _
      have entries : w.table.entries = x.table.entries.eraseP (fun a => a.key = k) ++ [m] := by rw [table, is]; rfl
      cases there : x.entry k with
      | none =>
        have fresh : e = newEntry k ordinal x.freshHoldings := by simp [e, there]
        have whole : m = newEntry k ordinal x.freshHoldings := by
          simp only [m, fresh, Entry.heardCommit, newEntry, Entry.removeClaims, max_self]
          rfl
        have clear : ∀ a ∈ x.table.entries, ¬ (decide (a.key = k)) = true := by simpa using (x.entry_eq_none_iff k).mp there
        rw [ends (by rw [whole]; rfl)] at entry ⊢
        cases foundToo.symm.trans entry
        exact ⟨whole, by rw [entries, List.eraseP_of_forall_not clear]⟩
      | some a =>
        have held : e = a := by simp [e, there]
        have whole : m = { a with
            committed := max a.committed ordinal
            pending := inClaimOrder (a.pending.filter fun c => !Claim.isHeard n ref c)
            overfull := a.overfull && !(a.pending.filter fun c => !Claim.isHeard n ref c).isEmpty } := by
          simp only [m, held, Entry.heardCommit, Entry.removeClaims_eq]
        refine ⟨held ▸ larger, (held ▸ holdings : e'.holdings = a.holdings), ?_, fun none => ?_⟩
        · intro changed
          have reported : (false : Bool) = true ∨ before.map Entry.reported ≠ some m.reported := by
            refine .inr fun h => ?_
            rw [← was, there, whole] at h
            obtain ⟨pending, rest⟩ := Prod.ext_iff.mp (Option.some_injective _ h)
            exact changed.elim (fun other => other pending.symm) (fun other => other (Prod.ext_iff.mp rest).1.symm)
          have records : m.ownCommitted.length = a.ownCommitted.length := by rw [whole]
          have both : x.Retests (w.report k before false) k m false ∧ x.RetestSends (w.report k before false) k m a.ownCommitted.length :=
            ⟨Station.report_retests foundToo distinctThere itemsToo commitsToo reported,
              Station.report_retestSends foundToo distinctThere itemsToo (records ▸ fewToo) moreToo reported⟩
          rw [whole] at both
          exact both
        · have foreign : ∀ c ∈ a.pending, c.own = false := by simpa [Entry.holdsOwn] using none
          have without : m.holdsOwn = false := by
            have cut : (e.removeClaims (Claim.isHeard n ref)).holdsOwn = false := Entry.holdsOwn_removeClaims (by rw [held]; exact none)
            exact cut
          have same : a.pending.filter (fun c => !Claim.isHeard n ref c) =
              a.pending.filter (fun c => !decide (c.station = n ∧ c.ref = ref)) :=
            List.filter_congr fun c listed => by simp [Claim.isHeard, foreign c listed]
          rw [ends without] at entry ⊢
          cases foundToo.symm.trans entry
          rw [same] at whole
          exact ⟨congrArg Entry.committed whole, (congrArg Entry.ownCommitted whole).trans rfl, congrArg Entry.pending whole, entries⟩
  case clash =>
    intro x q f rest k e configured front kind length low high usable nonzero distinct found none room ordinal seen
    let z := x.hearing rest (tallyField f.payload 7)
    let n := f.source.toNat
    let ref := refField f.payload 10
    let m := e.heardCommit n ref ordinal
    let v := z.merged k m false
    have placed : (z.entry k).isSome ∨ z.table.entries.length < 4096 := .inl (by rw [show z.entry k = some e from found]; rfl)
    have made := z.mergeCommit_eq (t := tallyField f.payload 7) (n := n) (ref := ref) (ordinal := ordinal) placed distinct
    rw [show z.entry k = some e from found, Option.getD_some] at made
    obtain ⟨foundToo, distinctToo, -⟩ := z.entry_merged (m := m) false ((Entry.heardCommit_key ..).trans (x.entry_key found)) distinct
    obtain ⟨table, -⟩ := v.clashTest_keeps (tallyField f.payload 7) n ref ordinal foundToo
    have without : m.holdsOwn = false := by
      have cut : (e.removeClaims (Claim.isHeard n ref)).holdsOwn = false := Entry.holdsOwn_removeClaims none
      exact cut
    have delivered : x.deliver .commit Station.deliverCommit = v.clashTest k (tallyField f.payload 7) n ref ordinal := by
      refine ((x.deliver_commit configured front kind length low high usable nonzero).trans made).trans ?_
      exact Station.report_of_no_own _ (by rw [Station.entry, table]; exact foundToo) without _ _
    have is : v = _ := z.merged_eq (k := k) (m := m) false
    have kept : v.claims.counts = x.claims.counts ∧ v.records = x.records ∧ v.link.txQueue = x.link.txQueue ∧ v.startup = x.startup := by
      rw [is]
      exact ⟨rfl, rfl, rfl, rfl⟩
    obtain ⟨counts, records, queue, startup⟩ := kept
    have test := Station.foldl_clashTestOne_of_room k (tallyField f.payload 7) n ref ordinal m.ownCommitted v (by rw [queue]; exact room)
    rw [← v.clashTest_eq k _ n ref ordinal foundToo, counts, records, queue, Station.ownId, startup] at test
    exact ⟨_, by rw [exec_heardCommit, delivered], test⟩

/-! ### HEARD_HOLDINGS (R107, R135) -/

theorem exec_heardHoldings (x : Station) (q : List Instr) :
    exec .heardHoldings ⟨x, q⟩ = .next ⟨x.deliver .holdings Station.deliverHoldings, q⟩ := rfl

/-- The entry after heard holdings are merged. -/
def Entry.heardHoldings (count : Nat) (e : Entry) : Entry := { e with committed := max e.committed count, holdings := .known }

theorem Entry.heardHoldings_key (count : Nat) (e : Entry) : (e.heardHoldings count).key = e.key := rfl

section late

variable {k : Key} {m : Entry} (count n : Nat) (t : Tally)

/-- What the late-holdings test leaves of the station it tests. -/
theorem Station.lateHoldings_keeps :
    (s.lateHoldings k count n t).table = s.table ∧ (s.lateHoldings k count n t).lane.queue = s.lane.queue ∧
      (s.lateHoldings k count n t).claims.counts.commits = s.claims.counts.commits ∧
      s.link.txQueue.length ≤ (s.lateHoldings k count n t).link.txQueue.length ∧
      (s.lateHoldings k count n t).link.txQueue.length ≤ s.link.txQueue.length + 1 := by
  have kept := s.lateHoldings_changes k count n t
  refine ⟨table_of_same (kept .entries (by decide)) (kept .tableCounts (by decide)), kept .items (by decide), ?_⟩
  have still : s.claims.counts.commits = s.claims.counts.commits ∧ s.link.txQueue.length ≤ s.link.txQueue.length ∧
      s.link.txQueue.length ≤ s.link.txQueue.length + 1 := ⟨rfl, le_rfl, Nat.le_succ _⟩
  unfold Station.lateHoldings
  split
  · split
    · exact still
    · split
      · exact still
      · split
        · exact s.handCorrection_keeps _
        · exact still
  · exact still

variable {count n t}

/-- The one own committed record of the answered tally, within the count, is corrected. -/
theorem Station.lateHoldings_of_record {r : CommitRecord} (found : s.entry k = some m)
    (one : m.ownCommitted.filter (fun r => r.tally = t) = [r]) (within : r.ordinal ≤ count) (own : s.startup.stationId = some n)
    (room : s.link.txQueue.length < 16) : s.lateHoldings k count n t =
      s.corrected { ref := r.ref, key := k, ordinal := r.ordinal, reason := .holdings, other := none } := by
  have first : m.ownCommitted.find? (fun r => r.tally = t) = some r := by rw [← List.head?_filter, one]; rfl
  simp only [Station.lateHoldings, own, found, first, within, if_true]
  exact s.handCorrection_of_room _ room

/-- Without such a record, or for another station's claim, there is none. -/
theorem Station.lateHoldings_of_none (found : s.entry k = some m)
    (none : (∀ r ∈ m.ownCommitted, r.tally = t → count < r.ordinal) ∨ s.startup.stationId ≠ some n) : s.lateHoldings k count n t = s := by
  unfold Station.lateHoldings
  split
  next own =>
    rw [found]
    dsimp only
    split
    next => rfl
    next r first =>
      have beyond := (none.resolve_right (not_not.mpr own)) r (List.mem_of_find?_eq_some first) (by simpa using List.find?_some first)
      exact if_neg (by omega)
  next => rfl

end late

theorem Station.mergeHoldings_eq {k : Key} {count n : Nat} {t : Tally} (placed : (s.entry k).isSome ∨ s.table.entries.length < 4096)
    (distinct : (s.table.entries.map Entry.key).Nodup) :
    s.mergeHoldings k count n t =
      ((s.merged k (((s.entry k).getD (newEntry k count .known)).heardHoldings count) false).lateHoldings k count n t).report
        k (s.entry k) false := by
  obtain ⟨made, ensured, found, distinctToo, wrote⟩ := s.ensureEntry_placed count .known placed distinct
  have put := made.writeEntry_eq_wrote (f := Entry.heardHoldings count) found ((Entry.heardHoldings_key ..).trans (made.entry_key found)) distinctToo
  unfold Station.mergeHoldings
  simp only [ensured, Bool.not_true, Bool.false_eq_true, if_false]
  rw [Station.merged, ← wrote, ← put]
  rfl

/-- Settles O41: the merge as one entry written, the late-holdings test, and the report. -/
theorem heardHoldings : Obligations.HeardHoldings := by
  unfold Obligations.HeardHoldings
  intro x q f rest k configured front kind length gateway usable placed distinct count tally
  have lengthOk : kindLength f.kind.toNat = some f.payload.length := by rw [kind, length]; rfl
  let z := x.hearing rest tally
  let n := payloadField f.payload 8 1
  let e := (x.entry k).getD (newEntry k count .known)
  let m := e.heardHoldings count
  let v := z.merged k m false
  let w := v.lateHoldings k count n tally
  obtain ⟨before, was⟩ : ∃ before, x.entry k = before := ⟨_, rfl⟩
  have delivered : x.deliver .holdings Station.deliverHoldings = w.report k before false := by
    have merge : Station.deliverHoldings f { x with link := { x.link with rxQueue := rest } } = z.mergeHoldings k count n tally := by
      unfold Station.deliverHoldings
      simp only [usable]
      exact congrArg (fun u : Station => u.mergeHoldings k count n tally) (Station.adopt_eq _ _)
    refine (x.deliver_of_front _ configured front (classify_holdings lengthOk kind gateway)).trans
      (merge.trans ((z.mergeHoldings_eq placed distinct).trans ?_))
    rw [show z.entry k = before from was]
    simp only [w, v, m, e, was]
  have key : m.key = k := by
    cases found : x.entry k with
    | none => simp [m, e, found, newEntry, Entry.heardHoldings]
    | some a => simpa [m, e, found, Entry.heardHoldings] using x.entry_key found
  have is : v = _ := z.merged_eq (k := k) (m := m) false
  obtain ⟨found, distinctToo, -⟩ := z.entry_merged false key distinct
  obtain ⟨table, items, commits, more, few⟩ := v.lateHoldings_keeps (k := k) count n tally
  have foundToo : w.entry k = some m := by rw [Station.entry, table]; exact found
  have distinctThere : (w.table.entries.map Entry.key).Nodup := by rwa [table]
  have itemsToo : w.lane.queue = x.lane.queue := items.trans (by rw [is]; rfl)
  have commitsToo : w.claims.counts.commits = x.claims.counts.commits := commits.trans (by rw [is]; rfl)
  have queue : v.link.txQueue = x.link.txQueue := by rw [is]; rfl
  have fewToo : w.link.txQueue.length ≤ x.link.txQueue.length + 1 := queue ▸ few
  have moreToo : x.link.txQueue.length ≤ w.link.txQueue.length := queue ▸ more
  obtain ⟨e', entry, -, larger, holdings, -, -⟩ := (w.report_ripples foundToo distinctThere before false).entry
  have kept := w.report_changes k before false
  have test := v.lateHoldings_changes k count n tally
  have ends (none : m.holdsOwn = false) : w.report k before false = w := w.report_of_no_own foundToo none _ _
  have entries : w.table.entries = x.table.entries.eraseP (fun a => a.key = k) ++ [m] := by rw [table, is]; rfl
  refine ⟨_, e', by rw [exec_heardHoldings, delivered], ?_, ?_, ?_, entry, holdings, ?_⟩
  · rw [kept .rxQueue (by decide), test .rxQueue (by decide), is]
    rfl
  · rw [kept .tableCounts (by decide), table, is]
    rfl
  · rw [kept .tally (by decide), test .tally (by decide), is]
    rfl
  · cases there : x.entry k with
    | none =>
      have whole : m = newEntry k count .known := by simp [m, e, there, Entry.heardHoldings, newEntry]
      have clear : ∀ a ∈ x.table.entries, ¬ (decide (a.key = k)) = true := by simpa using (x.entry_eq_none_iff k).mp there
      rw [ends (by rw [whole]; rfl)] at entry ⊢
      cases foundToo.symm.trans entry
      exact ⟨whole, by rw [entries, List.eraseP_of_forall_not clear]⟩
    | some a =>
      have whole : m = a.heardHoldings count := by simp [m, e, there]
      refine ⟨(congrArg Entry.committed whole).symm.le.trans larger, ?_, fun none => ?_⟩
      · intro m' changed
        have reported : (false : Bool) = true ∨ before.map Entry.reported ≠ some m.reported := by
          refine .inr fun h => ?_
          rw [← was, there, whole] at h
          obtain ⟨committed, state⟩ := Prod.ext_iff.mp (Prod.ext_iff.mp (Option.some_injective _ h)).2
          exact changed.elim (fun other => other committed.symm) (fun other => other state.symm)
        have both : x.Retests (w.report k before false) k m false ∧ x.RetestSends (w.report k before false) k m 1 :=
          ⟨Station.report_retests foundToo distinctThere itemsToo commitsToo reported,
            Station.report_retestSends foundToo distinctThere itemsToo fewToo moreToo reported⟩
        rw [whole] at both
        exact both
      · have without : m.holdsOwn = false := by rw [whole]; exact none
        have records : m.ownCommitted = a.ownCommitted := by rw [whole]; rfl
        have startup : v.startup = x.startup := by rw [is]; rfl
        rw [ends without] at entry ⊢
        cases foundToo.symm.trans entry
        refine ⟨whole, entries, fun r one within own room => ?_, fun other => ?_⟩
        · have same : w = _ := v.lateHoldings_of_record found (records ▸ one) within (startup ▸ own) (by rw [queue]; exact room)
          rw [same, Station.corrected, queue, startup, is]
          exact ⟨rfl, rfl⟩
        · have same : w = v := v.lateHoldings_of_none found (by rw [records, startup]; exact other)
          rw [same, is]
          exact ⟨rfl, rfl, rfl⟩

end Sys2Proof.Machine
end

section
/-! SUPPORT. A frame leaving the transmit queue (R141, R148 to R152, R168), the duplicate station id (R185), and the statements these
settle. -/

namespace Sys2Proof.Machine

variable (s : Station)

/-! ### The frame ON LINE and its departure (R141) -/

/-- The one frame ON LINE, between the others. -/
structure Station.OnLineAt (s : Station) (front : List TxFrame) (f : TxFrame) (back : List TxFrame) : Prop where
  queue : s.link.txQueue = front ++ f :: back
  onLine : f.standing = .onLine
  others : ∀ a ∈ front ++ back, a.standing ≠ .onLine

section onLine

variable {s} {front back : List TxFrame} {f : TxFrame} (h : s.OnLineAt front f back)
include h

theorem Station.OnLineAt.not_front : ∀ a ∈ front, ¬ (decide (a.standing = Standing.onLine)) = true := fun a listed => by
  simpa using h.others a (by simp [listed])

theorem Station.OnLineAt.found : s.onLine = some f := by
  rw [Station.onLine, h.queue, List.find?_append, List.find?_eq_none.mpr h.not_front]
  simp [h.onLine]

theorem Station.OnLineAt.erased : s.link.txQueue.eraseP (fun f => f.standing = Standing.onLine) = front ++ back := by
  rw [h.queue, List.eraseP_append_right _ h.not_front, List.eraseP_cons_of_pos (by simp [h.onLine])]

theorem Station.OnLineAt.depart : s.departOnLine = Station.roomReport false { s with link := { s.link with txQueue := front ++ back } } := by
  rw [Station.departOnLine, h.erased]

theorem Station.OnLineAt.backOff (k : Nat) : s.backOff k = { s with link := { s.link with
    generator := backoffStep s.link.generator
    txQueue := front ++ { f with attempts := k, standing := .backoff (backoffSlots (backoffStep s.link.generator) k) } :: back } } := by
  have stays (l : List TxFrame) (off : ∀ a ∈ l, a.standing ≠ .onLine) (g : TxFrame → TxFrame) :
      l.map (fun a => if a.standing = Standing.onLine then g a else a) = l :=
    (List.map_congr_left (g := fun a => a) fun a listed => if_neg (off a listed)).trans (List.map_id' l)
  unfold Station.backOff
  dsimp only
  rw [h.queue, List.map_append, List.map_cons, stays front fun a listed => h.others a (by simp [listed]),
    stays back fun a listed => h.others a (by simp [listed]), if_pos h.onLine]

end onLine

/-- With no record and no ANNOUNCE waiting for room, room changes nothing. -/
theorem Station.roomReport_of_none (restarting : Bool) (empty : s.records.overflow = none) (noAnnounce : s.startup.announce ≠ .waiting) :
    s.roomReport restarting = s := by
  unfold Station.roomReport Station.moveOverflow
  rw [empty]
  exact if_neg noAnnounce

/-! ### JAM_END (R146 to R148) -/

theorem exec_jamEnd (x : Station) (q : List Instr) : exec .jamEnd ⟨x, q⟩ = .next ⟨x.jamEnds, q⟩ := rfl

/-- The station as its jam has ended. -/
def Station.jamOver (s : Station) : Station := { s with link := { s.link with sending := .quiet, reception := .seeking } }

theorem Station.OnLineAt.jamOver {front back : List TxFrame} {f : TxFrame} (h : s.OnLineAt front f back) : s.jamOver.OnLineAt front f back :=
  ⟨h.queue, h.onLine, h.others⟩

/-- What becomes of the collided frame. -/
theorem Station.jamEnds_eq {front back : List TxFrame} {f : TxFrame} (h : s.OnLineAt front f back) (jams : s.link.sending = .jam) :
    s.jamEnds =
      if f.takenBack then s.jamOver.departOnLine
      else if f.body.cls = .record then s.jamOver.backOff (min 15 (f.attempts + 1))
      else if f.attempts = s.cfg.retryLimit then s.jamOver.abandon f.body
      else s.jamOver.backOff (f.attempts + 1) := by
  have found : s.jamOver.onLine = some f := h.jamOver.found
  rw [Station.jamEnds, if_pos jams]
  change (match s.jamOver.onLine with
    | none => s.jamOver
    | some f => _) = _
  rw [found]
  rfl

/-! #### An abandoned CLAIM (R122) -/

/-- Re-tests leave an item that does not wait. -/
theorem Station.findItem_retest_of_not_waiting {k : Key} {ref : ItemRef} {j : Item} (item : s.findItem ref = some j)
    (corr : j.corr ≠ .waiting) : (s.retest k).findItem ref = some j := by
  refine s.retest_keeps (P := fun t => t.findItem ref = some j) (fun t e c held _ _ _ waits => ?_) item
  have other : ref ≠ c.ref := by
    rintro rfl
    obtain ⟨i, there, waiting⟩ := (t.isWaiting_iff c.ref).mp waits
    cases held.symm.trans there
    exact corr waiting
  exact (t.findItem_commitAs_other _ _ _ _ _ _ other).trans held

/-- So does a report that sets no mark. -/
theorem Station.findItem_report_of_not_waiting {k : Key} {ref : ItemRef} {j : Item} (before : Option Entry) (item : s.findItem ref = some j)
    (corr : j.corr ≠ .waiting) : (s.report k before false).findItem ref = some j := by
  have tested : (s.retest k).findItem ref = some j := s.findItem_retest_of_not_waiting item corr
  unfold Station.report
  split
  · exact item
  · split
    · exact tested
    · exact item

/-- What holds of a station and of it after re-tests holds after a report that sets no mark. -/
theorem Station.report_keeps {P : Station → Prop} {k : Key} (before : Option Entry)
    (commit : ∀ (t : Station) (e : Entry) (c : Claim), P t → t.entry k = some e → c ∈ e.pending → c.own = true →
      t.isWaiting c.ref = true → P (t.commitOrdinary k e c)) (start : P s) : P (s.report k before false) := by
  unfold Station.report
  split
  · exact start
  · split
    · exact s.retest_keeps commit start
    · exact start

/-- There is room for the COMMIT of every claim of the entry, and the counts and flags are given. -/
structure Station.RoomFor (k : Key) (counts : LinkCounts) (flags : BitVec 13) (t : Station) : Prop where
  distinct : (t.table.entries.map Entry.key).Nodup
  room : ∀ e, t.entry k = some e → t.link.txQueue.length + e.pending.length ≤ 16
  counts : t.link.counts = counts
  flags : t.records.flags = flags

theorem Station.RoomFor.commitAs {k : Key} {counts : LinkCounts} {flags : BitVec 13} {t : Station} {e : Entry} {c : Claim}
    (h : t.RoomFor k counts flags) (found : t.entry k = some e) (listed : c ∈ e.pending) (own : c.own = true) (n : Nat)
    (isRanked ranked holdingsUnconfirmed : Bool) : (t.commitAs k c n isRanked ranked holdingsUnconfirmed).RoomFor k counts flags := by
  have room := h.room e found
  have some := List.length_pos_of_mem listed
  have place : t.link.txQueue.length < 16 := by omega
  refine ⟨t.keys_commitAs_nodup _ _ _ _ _ found h.distinct, fun e' found' => ?_, ?_, ?_⟩
  · cases (t.entry_commitAs _ _ _ _ _ found h.distinct).symm.trans found'
    have fewer := Entry.length_afterCommit_pending_lt n listed own
    rw [Station.commitAs_txQueue, if_pos place, List.length_append, List.length_singleton]
    omega
  all_goals
    rw [Station.commitAs, Station.offerNotice_eq, if_pos (by simpa using place)]
  · simpa using h.counts
  · simpa using h.flags

/-- An own claim removed leaves the entry without it. -/
theorem Station.entry_removeOwnClaim {k : Key} {e : Entry} (ref : ItemRef) (found : s.entry k = some e)
    (distinct : (s.table.entries.map Entry.key).Nodup) :
    (s.removeOwnClaim k ref).entry k = some (e.withoutOwn ref) ∧ ((s.removeOwnClaim k ref).table.entries.map Entry.key).Nodup := by
  rw [← Entry.removeClaims_own]
  exact ⟨s.entry_writeEntry (fun _ => rfl) found distinct, s.keys_writeEntry_nodup (fun _ => rfl) found distinct⟩

theorem Station.removeOwnClaim_of_none {k : Key} (ref : ItemRef) (none : s.entry k = none) : (s.removeOwnClaim k ref).table = s.table := by
  have absent := (s.entry_eq_none_iff k).mp none
  have still : s.modifyEntry k (Entry.removeClaims fun c => c.own && decide (c.ref = ref)) = s := by
    have same : s.table.entries.map (fun e => if e.key = k then e.removeClaims (fun c => c.own && decide (c.ref = ref)) else e) =
        s.table.entries := (List.map_congr_left (g := fun e => e) fun e listed => if_neg (absent e listed)).trans (List.map_id' _)
    simp only [Station.modifyEntry, same]
  rw [Station.removeOwnClaim, Station.writeEntry, still, Station.touch, none]

/-- No own claim of the item is left in the key's entry by the removal and its report. -/
theorem Station.no_own_after_report {k : Key} {ref : ItemRef} {u : Station} (distinct : (s.table.entries.map Entry.key).Nodup)
    (table : u.table = (s.removeOwnClaim k ref).table) (before : Option Entry) :
    ∀ e, (u.report k before false).entry k = some e → ∀ c ∈ e.pending, ¬ (c.own = true ∧ c.ref = ref) := by
  intro e there c listed
  cases found : s.entry k with
  | none =>
    have gone : u.entry k = none := by rw [Station.entry, table, s.removeOwnClaim_of_none ref found]; exact found
    rw [Station.report, gone] at there
    exact absurd there (by simp [gone])
  | some a =>
    obtain ⟨written, keys⟩ := s.entry_removeOwnClaim ref found distinct
    have writtenToo : u.entry k = some (a.withoutOwn ref) := by rw [Station.entry, table]; exact written
    obtain ⟨e', there', -, -, -, less, -⟩ := (u.report_ripples writtenToo (by rwa [table]) before false).entry
    cases there.symm.trans there'
    have stays := less c listed
    simp only [Entry.withoutOwn, mem_inClaimOrder, List.mem_filter] at stays
    intro own
    simp [own] at stays

/-- Re-tests put no frame ON LINE. -/
theorem Station.report_offLine {k : Key} (before : Option Entry) (off : ∀ g ∈ s.link.txQueue, g.standing ≠ .onLine) :
    ∀ g ∈ (s.report k before false).link.txQueue, g.standing ≠ .onLine := by
  refine s.report_keeps (P := fun t => ∀ g ∈ t.link.txQueue, g.standing ≠ .onLine) before (fun t e c held _ _ _ _ => ?_) off
  rw [Station.commitOrdinary, Station.commitAs_txQueue]
  split
  · intro g listed
    rcases List.mem_append.mp listed with old | new
    · exact held g old
    · rw [List.mem_singleton.mp new]
      exact (nomatch ·)
  · exact held

/-- Where an own claim's entry has room for all its claims' COMMITs, its removal's report counts no abandon. -/
theorem Station.report_of_room {k : Key} {ref : ItemRef} {u : Station} (distinct : (s.table.entries.map Entry.key).Nodup)
    (table : u.table = (s.removeOwnClaim k ref).table) (before : Option Entry)
    (room : ∀ e, s.entry k = some e → u.link.txQueue.length + e.pending.length ≤ 16) :
    (u.report k before false).link.counts = u.link.counts ∧ (u.report k before false).records.flags = u.records.flags := by
  cases found : s.entry k with
  | none =>
    have gone : u.entry k = none := by rw [Station.entry, table, s.removeOwnClaim_of_none ref found]; exact found
    rw [Station.report, gone]
    exact ⟨rfl, rfl⟩
  | some a =>
    obtain ⟨written, keys⟩ := s.entry_removeOwnClaim ref found distinct
    have writtenToo : u.entry k = some (a.withoutOwn ref) := by rw [Station.entry, table]; exact written
    have start : u.RoomFor k u.link.counts u.records.flags := by
      refine ⟨by rwa [table], fun e there => ?_, rfl, rfl⟩
      cases writtenToo.symm.trans there
      refine (Nat.add_le_add_left ?_ _).trans (room a found)
      rw [Entry.withoutOwn, length_inClaimOrder]
      exact List.length_filter_le _ _
    have done := u.report_keeps (P := fun t => t.RoomFor k u.link.counts u.records.flags) before
      (fun _ _ _ held found listed own _ => held.commitAs found listed own _ _ _ _) start
    exact ⟨done.counts, done.flags⟩

/-- Settles O47: the frame ON LINE backs off, leaves taken back, or is abandoned with its producer told. -/
theorem jamEnd : Obligations.JamEnd := by
  unfold Obligations.JamEnd
  refine ⟨?backoff, ?leaves⟩
  case backoff =>
    intro x q front back f jams queue onLine kept others limit g k
    have h : x.OnLineAt front f back := ⟨queue, onLine, others⟩
    rw [exec_jamEnd, x.jamEnds_eq h jams, if_neg (by simp [kept])]
    by_cases record : f.body.cls = .record
    · have count : k = min 15 (f.attempts + 1) := if_pos record
      rw [if_pos record, (Station.OnLineAt.jamOver x h).backOff, ← count]
      rfl
    · have count : k = f.attempts + 1 := if_neg record
      rw [if_neg record, if_neg (limit.resolve_left record), (Station.OnLineAt.jamOver x h).backOff, ← count]
      rfl
  case leaves =>
    intro x q front back f jams queue onLine others empty noAnnounce left
    have h : x.OnLineAt front f back := ⟨queue, onLine, others⟩
    have departs : x.jamOver.departOnLine = { x.jamOver with link := { x.jamOver.link with txQueue := front ++ back } } :=
      (Station.OnLineAt.jamOver x h).depart.trans (Station.roomReport_of_none _ _ empty noAnnounce)
    have counted : x.jamOver.countAbandon.OnLineAt front f back := ⟨h.queue, h.onLine, h.others⟩
    have abandoned : x.jamOver.countAbandon.departOnLine =
        { x.jamOver.countAbandon with link := { x.jamOver.countAbandon.link with txQueue := front ++ back } } :=
      counted.depart.trans (Station.roomReport_of_none _ _ empty noAnnounce)
    rw [exec_jamEnd, x.jamEnds_eq h jams]
    refine ⟨fun taken => ?_, fun kept limit => ?_⟩
    · rw [if_pos taken, departs]
      simp [left, Station.jamOver]
    · rw [if_neg (by simp [kept]), if_pos limit]
      refine ⟨fun notice other => ?_, fun t v announce room => ?_, fun k t ref known wanted i claim item queued distinct => ?_⟩
      · have raised : x.jamOver.abandon f.body = x.jamOver.countAbandon.departOnLine.raise .txAbandon := by
          unfold Station.abandon
          cases body : f.body with
          | announce t v => exact absurd body (other t v)
          | commit => rfl
          | withdraw => rfl
          | claim => rw [body] at notice; exact absurd notice (by simp [Body.cls])
          | deposit => rw [body] at notice; exact absurd notice (by simp [Body.cls])
          | correction => rw [body] at notice; exact absurd notice (by simp [Body.cls])
          | summary => rw [body] at notice; exact absurd notice (by simp [Body.cls])
          | status => rw [body] at notice; exact absurd notice (by simp [Body.cls])
        rw [if_neg (by simp [notice]), raised, abandoned]
        rfl
      · have offered : x.jamOver.abandon f.body = (x.jamOver.countAbandon.departOnLine.raise .txAbandon).offerAnnounce := by
          rw [announce]
          rfl
        rw [if_neg (by simp [announce, Body.cls]), offered, abandoned]
        have place : (front ++ back).length < Config.txCapacity := room
        unfold Station.offerAnnounce Station.offerNotice Station.txRoom
        simp only [Station.raise_link, place, decide_true, if_true]
        rfl
      · let v : Station := { x.jamOver.countAbandon with link := { x.jamOver.countAbandon.link with txQueue := front ++ back } }
        let w := v.modifyItem ref (fun i => if i.corr = .queued then { i with corr := .rejected .claimAbandoned } else i)
        let u := w.removeOwnClaim k ref
        have told : x.jamOver.abandon f.body = u.report k (v.entry k) false := by
          rw [claim]
          exact congrArg (Station.claimAbandoned k ref) abandoned
        have written : u.findItem ref = some { i with corr := .rejected .claimAbandoned } := by
          have one := v.findItem_modifyItem ref (fun i => if i.corr = .queued then { i with corr := .rejected .claimAbandoned } else i)
            fun a own => by split <;> exact own
          rw [show v.findItem ref = some i from item, Option.map_some, if_pos queued] at one
          rw [Station.findItem, show u.lane = w.lane from w.writeEntry_lane k _]
          exact one
        have kept := u.report_changes k (v.entry k) false
        have before := w.removeOwnClaim_changes k ref
        have lineKept : Block.line.same v (u.report k (v.entry k) false) :=
          Block.same_trans (before .line (by decide)) (kept .line (by decide))
        have queueKept : u.link.txQueue = front ++ back := before .txQueue (by decide)
        refine ⟨_, _, by rw [if_neg (by simp [claim, Body.cls]), told], u.findItem_report_of_not_waiting (v.entry k) written (nomatch ·), rfl,
          lineKept.1, ?_, ?_, fun room => ?_, w.no_own_after_report distinct rfl (v.entry k)⟩
        · exact (kept .generator (by decide)).trans (before .generator (by decide))
        · intro listed
          exact u.report_offLine (v.entry k) (by rw [queueKept]; exact others) f listed onLine
        · obtain ⟨counts, flags⟩ := w.report_of_room distinct rfl (v.entry k) (by rw [queueKept]; exact room)
          rw [counts, flags, show u.link.counts = _ from before .linkCounts (by decide), show u.records.flags = _ from before .flags (by decide)]
          exact ⟨rfl, rfl⟩

end Sys2Proof.Machine
end

section
/-! SUPPORT. The end of an attempt and the overflow slot (R149 to R151, R168), the duplicate station id (R185), and the statements
these settle. -/

namespace Sys2Proof.Machine

variable (s : Station)

/-! ### ATTEMPT_COMPLETE (R149, R150) -/

/-- The station as its attempt has ended, before the frame leaves the queue. -/
def Station.attemptOver (s : Station) : Station :=
  Station.countChain { s with link := { s.link with
    sending := .quiet, reception := .seeking, counts := { s.link.counts with sent := s.link.counts.sent + 1 } } }

theorem Station.attemptOver_eq : s.attemptOver = { s with link := { s.link with
    sending := .quiet, reception := .seeking
    holding := decide (s.link.chain + 1 < s.cfg.holdBudget)
    chain := if s.link.chain + 1 < s.cfg.holdBudget then s.link.chain + 1 else 0
    counts := { s.link.counts with sent := s.link.counts.sent + 1 } } } := by
  unfold Station.attemptOver Station.countChain
  by_cases hold : s.link.chain + 1 < s.cfg.holdBudget
  · rw [if_pos (by exact hold)]
    simp [hold]
  · rw [if_neg (by exact hold)]
    simp [hold, Station.releaseLine]

section

variable {s} {front back : List TxFrame} {f : TxFrame}

theorem Station.OnLineAt.attemptOver (h : s.OnLineAt front f back) : s.attemptOver.OnLineAt front f back := by
  rw [Station.attemptOver_eq]
  exact ⟨h.queue, h.onLine, h.others⟩

theorem Station.attemptCompletes_eq {bits : List Bool} (h : s.OnLineAt front f back) (sends : s.link.sending = .frame bits) :
    s.attemptCompletes = s.attemptOver.departOnLine.tellCompleted f := by
  have found : s.attemptOver.onLine = some f := h.attemptOver.found
  rw [Station.attemptCompletes, sends]
  change (match s.attemptOver.onLine with
    | none => s.attemptOver
    | some f => s.attemptOver.departOnLine.tellCompleted f) = _
  rw [found]

end

/-! ### The overflow slot's move (R18, R168) -/

/-- The three pieces of state the slot's move speaks of: transmit queue, items, slot. -/
def Station.slotState (s : Station) : List TxFrame × List Item × Option Body := (s.link.txQueue, s.lane.queue, s.records.overflow)

/-- An ANNOUNCE offered to a full queue leaves queue, items and slot. -/
theorem Station.offerAnnounce_slotState (full : ¬ s.link.txQueue.length < 16) : s.offerAnnounce.slotState = s.slotState := by
  unfold Station.offerAnnounce
  dsimp only
  rw [Station.offerNotice_eq, if_neg full]
  rfl

/-- The items left when the record has moved from the slot into the queue. -/
def Station.keptItems (b : Body) (s : Station) : List Item :=
  match b with
  | .deposit d => if (s.findItem d.ref).any Item.depositHeld then s.lane.queue.filter (fun k => k.ref ≠ d.ref) else s.lane.queue
  | _ => s.lane.queue

theorem Station.removeDeposited_slotState (b : Body) (flagged : Bool) :
    (s.removeDeposited b flagged).slotState = (s.link.txQueue, s.keptItems b, s.records.overflow) := by
  cases b with
  | deposit d =>
    simp only [Station.removeDeposited, Station.keptItems]
    cases s.findItem d.ref with
    | none => rfl
    | some i =>
      cases held : i.depositHeld with
      | false => simp [held, Station.slotState]
      | true =>
        simp only [held, if_true, Option.any_some, Station.slotState, Station.removeItem_txQueue, Station.removeItem_overflow,
          Station.removeItem_queue]
  | _ => rfl

theorem Station.SlotMoves.of_slotState {x t u : Station} {stay : List TxFrame} {b : Body} (h : x.SlotMoves t stay b)
    (same : u.slotState = t.slotState) : x.SlotMoves u stay b := by
  obtain ⟨queue, rest⟩ := Prod.ext_iff.mp same
  obtain ⟨items, slot⟩ := Prod.ext_iff.mp rest
  unfold Station.SlotMoves at h ⊢
  rw [show u.link.txQueue = t.link.txQueue from queue, show u.lane.queue = t.lane.queue from items,
    show u.records.overflow = t.records.overflow from slot]
  exact h

/-- The oldest departed item that waits is offered at a full queue, its DEPOSIT in the slot. -/
theorem Station.offerOldest_slotState (full : ¬ s.link.txQueue.length < 16) (empty : s.records.overflow = none) :
    (match s.oldestDeparted with
      | some i => s.offerDeposit i true
      | none => s).slotState = match s.lane.queue.find? Item.departed with
      | some next => (s.link.txQueue, s.lane.queue.map (fun k => if k.ref = next.ref then { k with depositHeld := true } else k),
          some (.deposit next.deposit))
      | none => (s.link.txQueue, s.lane.queue, none) := by
  rw [Station.oldestDeparted, show (fun i : Item => i.departed) = Item.departed from rfl]
  cases s.lane.queue.find? Item.departed with
  | none => simp only [Station.slotState, empty]
  | some next =>
    simp only
    rw [s.offerDeposit_of_empty_slot next true full empty]
    rfl

/-- Room for one frame takes the slot's record into the queue. -/
theorem Station.roomReport_slotMoves {stay : List TxFrame} {b : Body} (queue : s.link.txQueue = stay) (room : stay.length = 15)
    (slot : s.records.overflow = some b) : s.SlotMoves (s.roomReport false) stay b := by
  let t := ({ s with records := { s.records with overflow := none } }.txPush b).removeDeposited b true
  have pushed : t.slotState = (stay ++ [⟨b, 0, .ready, false⟩], s.keptItems b, none) := by
    rw [Station.removeDeposited_slotState, ← queue]
    cases b <;> rfl
  obtain ⟨tQueue, rest⟩ := Prod.ext_iff.mp pushed
  obtain ⟨tItems, tSlot⟩ := Prod.ext_iff.mp rest
  replace tQueue : t.link.txQueue = stay ++ [⟨b, 0, .ready, false⟩] := tQueue
  replace tItems : t.lane.queue = s.keptItems b := tItems
  have full : ¬ t.link.txQueue.length < 16 := by rw [tQueue, List.length_append, room, List.length_singleton]; decide
  have offered := t.offerOldest_slotState full tSlot
  have place : s.txRoom = true := s.txRoom_iff.mpr (by rw [queue, room]; decide)
  have moved : s.moveOverflow false = match t.oldestDeparted with
      | some i => t.offerDeposit i true
      | none => t := by
    unfold Station.moveOverflow
    rw [slot]
    dsimp only
    rw [if_pos place]
    rfl
  have moves : s.SlotMoves (s.moveOverflow false) stay b := by
    rw [← moved, tQueue, tItems] at offered
    change (s.moveOverflow false).link.txQueue = stay ++ [⟨b, 0, .ready, false⟩] ∧ match (s.keptItems b).find? Item.departed with
      | none => (s.moveOverflow false).lane.queue = s.keptItems b ∧ (s.moveOverflow false).records.overflow = none
      | some next =>
        (s.moveOverflow false).lane.queue = (s.keptItems b).map (fun k => if k.ref = next.ref then { k with depositHeld := true } else k) ∧
          (s.moveOverflow false).records.overflow = some (.deposit next.deposit)
    cases first : (s.keptItems b).find? Item.departed <;>
    · rw [first] at offered
      obtain ⟨mQueue, rest⟩ := Prod.ext_iff.mp offered
      exact ⟨mQueue, Prod.ext_iff.mp rest⟩
  unfold Station.roomReport
  dsimp only
  split
  · refine moves.of_slotState (Station.offerAnnounce_slotState _ ?_)
    rw [moves.1, List.length_append, room, List.length_singleton]
    decide
  · exact moves

/-- A departure from a full queue moves the slot's record. -/
theorem Station.OnLineAt.slotMoves {s : Station} {front back : List TxFrame} {f : TxFrame} {b : Body} (h : s.OnLineAt front f back)
    (room : (front ++ back).length = 15) (slot : s.records.overflow = some b) : s.SlotMoves s.departOnLine (front ++ back) b := by
  rw [h.depart]
  exact Station.roomReport_slotMoves { s with link := { s.link with txQueue := front ++ back } } rfl room slot

/-- Only the three pieces count of the station the slot's move begins from. -/
theorem Station.SlotMoves.of_lane {x s t : Station} {stay : List TxFrame} {b : Body} (h : s.SlotMoves t stay b) (lane : s.lane = x.lane) :
    x.SlotMoves t stay b := by
  unfold Station.SlotMoves Station.findItem at h ⊢
  rw [lane] at h
  exact h

/-- After the slot's move the queue is full again. -/
theorem Station.SlotMoves.full {x t : Station} {stay : List TxFrame} {b : Body} (h : x.SlotMoves t stay b) (room : stay.length = 15) :
    ¬ t.link.txQueue.length < 16 := by
  rw [h.1, List.length_append, room, List.length_singleton]
  decide

/-- A notice offered to a full queue leaves queue, items and slot. -/
theorem Station.offerNotice_slotState (b : Body) (full : ¬ s.link.txQueue.length < 16) : (s.offerNotice b).slotState = s.slotState := by
  rw [Station.offerNotice_eq, if_neg full]
  rfl

/-- What the producer of a frame does at its completion leaves queue, items and slot, unless an item's CLAIM settles. -/
theorem Station.tellCompleted_slotState (f : TxFrame) (full : ¬ s.link.txQueue.length < 16)
    (other : f.body.cls ≠ .claim ∨ f.takenBack = true) : (s.tellCompleted f).slotState = s.slotState := by
  unfold Station.tellCompleted
  cases body : f.body with
  | claim k t ref known wanted =>
    have taken : f.takenBack = true := other.resolve_left (by simp [body, Body.cls])
    simp only [taken, if_true]
    exact Station.offerNotice_slotState _ _ full
  | _ => rfl

/-- What an abandoned notice's producer does leaves queue, items and slot. -/
theorem Station.abandon_slotState {b : Body} (notice : b.cls = .notice) (full : ¬ s.countAbandon.departOnLine.link.txQueue.length < 16) :
    (s.abandon b).slotState = s.countAbandon.departOnLine.slotState := by
  cases b with
  | commit => rfl
  | withdraw => rfl
  | announce => exact Station.offerAnnounce_slotState (s.countAbandon.departOnLine.raise .txAbandon) full
  | claim => exact absurd notice (by simp [Body.cls])
  | deposit => exact absurd notice (by simp [Body.cls])
  | correction => exact absurd notice (by simp [Body.cls])
  | summary => exact absurd notice (by simp [Body.cls])
  | status => exact absurd notice (by simp [Body.cls])

/-- Settles O48: the departure of the frame, what its producer does, and the slot's move into the room. -/
theorem attemptComplete : Obligations.AttemptComplete := by
  unfold Obligations.AttemptComplete
  refine ⟨?completes, ?slot⟩
  case completes =>
    intro x q front back f bits sends queue onLine others empty noAnnounce hold y
    have h : x.OnLineAt front f back := ⟨queue, onLine, others⟩
    have departs : x.attemptOver.departOnLine = y := by
      rw [h.attemptOver.depart, Station.attemptOver_eq]
      exact Station.roomReport_of_none _ _ empty noAnnounce
    rw [exec_attemptComplete, Station.attemptCompletes_eq h sends, departs]
    refine congrArg (fun z => Host.Outcome.next (State.mk z q)) ?_
    unfold Station.tellCompleted
    cases body : f.body with
    | claim k t ref known wanted =>
      dsimp only
      split
      · have offered := Station.offerNotice_eq { y with claims := { y.claims with counts := { y.claims.counts with
          withdrawals := y.claims.counts.withdrawals + 1 } } } (.withdraw k t ref)
        exact offered
      · unfold Station.claimSent Station.modifyItem
        refine congrArg (fun l : List Item => { y with lane := { y.lane with queue := l } }) (List.map_congr_left fun i _ => ?_)
        by_cases own : i.ref = ref
        · by_cases queued : i.corr = .queued
          · exact (if_pos own).trans ((if_pos queued).trans (if_pos ⟨own, queued⟩).symm)
          · exact (if_pos own).trans ((if_neg queued).trans (if_neg fun both => queued both.2).symm)
        · exact (if_neg own).trans (if_neg fun both => own both.1).symm
    | announce t v => rfl
    | _ => rfl
  case slot =>
    intro x q front back f b queue onLine others room slot
    have h : x.OnLineAt front f back := ⟨queue, onLine, others⟩
    refine ⟨fun bits sends other => ?_, fun jams other => ?_⟩
    · have lane : x.attemptOver.lane = x.lane := by rw [Station.attemptOver_eq]
      have kept : x.attemptOver.records.overflow = some b := by rw [Station.attemptOver_eq]; exact slot
      have moves : x.SlotMoves x.attemptOver.departOnLine (front ++ back) b := (h.attemptOver.slotMoves room kept).of_lane lane
      refine ⟨_, by rw [exec_attemptComplete, Station.attemptCompletes_eq h sends], ?_⟩
      exact moves.of_slotState (Station.tellCompleted_slotState _ f (moves.full room) other)
    · rcases other with taken | ⟨notice, limit⟩
      · refine ⟨_, by rw [exec_jamEnd, x.jamEnds_eq h jams, if_pos taken], ?_⟩
        exact ((Station.OnLineAt.jamOver x h).slotMoves room slot).of_lane rfl
      · by_cases taken : f.takenBack = true
        · refine ⟨_, by rw [exec_jamEnd, x.jamEnds_eq h jams, if_pos taken], ?_⟩
          exact ((Station.OnLineAt.jamOver x h).slotMoves room slot).of_lane rfl
        · refine ⟨_, by rw [exec_jamEnd, x.jamEnds_eq h jams, if_neg taken, if_neg (by simp [notice]), if_pos limit], ?_⟩
          have counted : x.jamOver.countAbandon.OnLineAt front f back := ⟨h.queue, h.onLine, h.others⟩
          have moves : x.SlotMoves x.jamOver.countAbandon.departOnLine (front ++ back) b := (counted.slotMoves room slot).of_lane rfl
          exact moves.of_slotState (Station.abandon_slotState _ notice (moves.full room))

/-! ### A duplicate station id (R154, R185) -/

/-- Of the station a removal leaves the lane but for the item, and all but the Measurement Unit and the flags. -/
structure Station.Sheds (s t : Station) (p : Item → Bool) : Prop where
  lane : t.lane = { s.lane with queue := s.lane.queue.filter p }
  rest : t.link = s.link ∧ t.startup = s.startup ∧ t.claims = s.claims ∧ t.table = s.table
  records : t.records = { s.records with flags := t.records.flags }
  flags : ∀ f, s.flag f = true → t.flag f = true

theorem Station.endCalibrationOf_sheds (ref : ItemRef) (g : Bool) : s.Sheds (s.endCalibrationOf ref g) (fun _ => true) := by
  have still (t : Station) (lane : t.lane = s.lane) (rest : t.link = s.link ∧ t.startup = s.startup ∧ t.claims = s.claims ∧ t.table = s.table)
      (records : t.records = s.records) : s.Sheds t (fun _ => true) := by
    refine ⟨by rw [lane, List.filter_true], rest, by rw [records], fun f set => ?_⟩
    rw [Station.flag, records]
    exact set
  unfold Station.endCalibrationOf
  split
  · split
    · dsimp only
      split
      · refine ⟨by simp, ⟨rfl, rfl, rfl, rfl⟩, rfl, fun f set => ?_⟩
        rw [Station.flag_raise]
        simpa using .inl set
      · exact still _ rfl ⟨rfl, rfl, rfl, rfl⟩ rfl
    · exact still _ rfl ⟨rfl, rfl, rfl, rfl⟩ rfl
  · exact still _ rfl ⟨rfl, rfl, rfl, rfl⟩ rfl

theorem Station.Sheds.trans {s t u : Station} {p p' : Item → Bool} (h : s.Sheds t p) (k : t.Sheds u p') :
    s.Sheds u (fun i => p' i && p i) := by
  obtain ⟨link, startup, claims, table⟩ := h.rest
  obtain ⟨link', startup', claims', table'⟩ := k.rest
  refine ⟨by rw [k.lane, h.lane, List.filter_filter], ⟨link'.trans link, startup'.trans startup, claims'.trans claims, table'.trans table⟩, ?_,
    fun f set => k.flags f (h.flags f set)⟩
  rw [k.records, h.records]

theorem Station.removeItem_sheds (ref : ItemRef) (g : Bool) : s.Sheds (s.removeItem ref g) (fun i => i.ref ≠ ref) := by
  have cut : s.Sheds (({ s with lane := { s.lane with queue := s.lane.queue.filter (fun i => i.ref ≠ ref) } } : Station).freeBuffer ref)
      (fun i => i.ref ≠ ref) := ⟨rfl, ⟨rfl, rfl, rfl, rfl⟩, rfl, fun _ set => set⟩
  have whole := cut.trans (Station.endCalibrationOf_sheds _ ref g)
  simp only [Bool.true_and] at whole
  exact whole

/-- A run of removals. -/
theorem Station.foldl_removeItem_sheds (l : List Item) : ∀ s : Station,
    s.Sheds (l.foldl (fun t i => t.removeItem i.ref true) s) (fun i => l.all (fun k => i.ref ≠ k.ref)) := by
  induction l with
  | nil =>
    intro s
    exact ⟨by simp, ⟨rfl, rfl, rfl, rfl⟩, rfl, fun _ set => set⟩
  | cons a l ih =>
    intro s
    have whole := (s.removeItem_sheds a.ref true).trans (ih _)
    simp only [Bool.and_comm] at whole
    simpa only [List.foldl_cons, List.all_cons] using whole

/-- An item in flight is REJECTED NOT ACTIVE, any other as it was. -/
theorem Item.rejectInFlight_cases (i : Item) :
    (i.corr = .unkeyed ∨ i.corr.final = true) ∧ i.rejectInFlight = i ∨
      (i.corr = .queued ∨ i.corr = .waiting ∨ ∃ d, i.corr = .settling d) ∧ i.rejectInFlight = { i with corr := .rejected .notActive } := by
  unfold Item.rejectInFlight
  cases corr : i.corr <;> simp [CorrState.final]

/-- An item in flight: its CLAIM waits, or its claim is sent and not yet final. -/
def Item.inFlight (i : Item) : Prop := i.corr = .queued ∨ i.corr = .waiting ∨ ∃ d, i.corr = .settling d

theorem Item.not_inFlight_rejectInFlight (i : Item) : ¬ i.rejectInFlight.inFlight := by
  rcases i.rejectInFlight_cases with ⟨settled, is⟩ | ⟨-, is⟩ <;> rw [is]
  · rintro (h | h | ⟨d, h⟩) <;> simp [h, CorrState.final] at settled
  · rintro (h | h | ⟨d, h⟩) <;> cases h

theorem Item.rejectInFlight_ref (i : Item) : i.rejectInFlight.ref = i.ref ∧ i.rejectInFlight.departed = i.departed := by
  rcases i.rejectInFlight_cases with ⟨-, is⟩ | ⟨-, is⟩
  · rw [is]
    exact ⟨rfl, rfl⟩
  · rw [is]
    exact ⟨rfl, rfl⟩

/-- The station silenced, before its departed items leave. -/
def Station.silenced (s : Station) : Station := { s with
  startup := { s.startup with state := .listenOnly, joinTimer := none, announce := .none }
  link := { s.link with txQueue := [], gateOpen := false }
  lane := { s.lane with queue := s.lane.queue.map Item.rejectInFlight }
  table := { s.table with entries := s.table.entries.map (Entry.removeClaims (fun c => c.own)) }
  records := { s.records with flags := s.records.flags ||| Flag.duplicateId.bit, overflow := none, pending := ⟨none, none, none⟩ } }

theorem Station.duplicateId_eq (ready : s.startup.state = .joining ∨ s.startup.state = .active) :
    s.duplicateId = s.silenced.removeDeparted := if_pos ready

/-- The items the removal of the departed ones leaves. -/
theorem Station.mem_removeDeparted {i : Item} : i ∈ s.removeDeparted.lane.queue ↔
    i ∈ s.lane.queue ∧ ∀ k ∈ s.lane.queue, k.departed = true → i.ref ≠ k.ref := by
  have sheds := Station.foldl_removeItem_sheds (s.lane.queue.filter (fun i => i.departed)) s
  rw [Station.removeDeparted, sheds.lane]
  simp only [List.mem_filter, List.all_eq_true, decide_eq_true_eq, and_imp]

/-- A frame received leaves a station with no item in flight but for the queue it joins, or the flag and count of its loss. -/
theorem Station.enqueueReceived_calm (f : RxFrame) (calm : ∀ i ∈ s.lane.queue, ¬ i.inFlight) :
    s.enqueueReceived f = if s.link.rxQueue.length < 32 then { s with link := { s.link with rxQueue := s.link.rxQueue ++ [f] } }
      else (s.countLink (fun c => { c with rxDrops := c.rxDrops + 1 })).raise .rxOverflow := by
  have still : (s.lane.queue.map fun i => if i.settlingOrWaiting then { i with unconfirmedMark := true } else i) = s.lane.queue := by
    refine (List.map_congr_left (g := fun i => i) fun i listed => if_neg ?_).trans (List.map_id' _)
    have out := calm i listed
    unfold Item.settlingOrWaiting
    cases corr : i.corr <;> simp_all [Item.inFlight]
  unfold Station.enqueueReceived Config.rxCapacity Station.markAllUnconfirmed
  split
  · rfl
  · have same : ((s.countLink (fun c => { c with rxDrops := c.rxDrops + 1 })).raise .rxOverflow).lane.queue = s.lane.queue := rfl
    rw [same, still]
    rfl

/-- Settles O50: the silenced station without its departed items, and the frame's place in the receive queue. -/
theorem duplicateIdSilencesTheStation : Obligations.DuplicateIdSilencesTheStation := by
  unfold Obligations.DuplicateIdSilencesTheStation
  intro x q bits f ready quiet taking said good own
  let v := Station.silenced { x with link := { x.link with reception := .seeking } }
  let w := v.removeDeparted
  have sheds : v.Sheds w _ := Station.foldl_removeItem_sheds (v.lane.queue.filter (fun i => i.departed)) v
  obtain ⟨link, startup, claims, table⟩ := sheds.rest
  have members {i : Item} : i ∈ w.lane.queue ↔ i ∈ v.lane.queue ∧ ∀ k ∈ v.lane.queue, k.departed = true → i.ref ≠ k.ref :=
    Station.mem_removeDeparted v
  have calm : ∀ i ∈ w.lane.queue, ¬ i.inFlight := fun i listed => by
    obtain ⟨a, -, rfl⟩ := List.mem_map.mp (members.mp listed).1
    exact a.not_inFlight_rejectInFlight
  have configured : x.startup.state ≠ .configLoad := by rcases ready with h | h <;> simp [h]
  have result : x.frameEnds bits = w.enqueueReceived f := by
    rw [x.frameEnds_of_taking bits configured quiet taking, said]
    dsimp only
    rw [Station.frameTaken, if_pos good, Station.ownIdReport, if_pos (by exact own), Station.duplicateId_eq _ (by exact ready)]
  have records : w.records = { v.records with flags := w.records.flags } := sheds.records
  have lit : w.flag .duplicateId = true := sheds.flags _ (by
    have raised := Station.flag_raise x .duplicateId .duplicateId
    exact raised.trans (by simp))
  rw [exec_frameReceived, result, w.enqueueReceived_calm f calm]
  have drops : ∃ y, y = (if w.link.rxQueue.length < 32 then { w with link := { w.link with rxQueue := w.link.rxQueue ++ [f] } }
      else (w.countLink (fun c => { c with rxDrops := c.rxDrops + 1 })).raise .rxOverflow) ∧
      (y.lane = w.lane ∧ y.startup = w.startup ∧ y.table = w.table ∧ y.claims = w.claims) ∧ (y.link.txQueue = [] ∧ y.link.gateOpen = false) ∧
      (y.records.overflow = none ∧ y.records.pending = ⟨none, none, none⟩ ∧ y.flag .duplicateId = true) ∧
      (x.link.rxQueue.length < 32 → y.link.rxQueue = x.link.rxQueue ++ [f] ∧ y.link.counts = x.link.counts) ∧
      (32 ≤ x.link.rxQueue.length → y.link.rxQueue = x.link.rxQueue ∧ y.flag .rxOverflow = true ∧
        y.link.counts = { x.link.counts with rxDrops := x.link.counts.rxDrops + 1 }) := by
    refine ⟨_, rfl, ?_⟩
    rw [link]
    split
    next room =>
      refine ⟨⟨rfl, rfl, rfl, rfl⟩, ⟨rfl, rfl⟩, ?_, fun _ => ⟨rfl, rfl⟩, fun full => absurd full (not_le.mpr room)⟩
      exact ⟨congrArg Records.overflow records, congrArg Records.pending records, lit⟩
    next full =>
      refine ⟨⟨rfl, rfl, rfl, rfl⟩, ?_, ?_, fun room => absurd room full, fun _ => ⟨?_, ?_, ?_⟩⟩
      · rw [Station.raise_link, Station.countLink_link_txQueue, Station.countLink_link_gateOpen, link]
        exact ⟨rfl, rfl⟩
      · exact ⟨congrArg Records.overflow records, congrArg Records.pending records, by rw [Station.flag_raise]; exact Bool.or_eq_true_iff.mpr (.inl lit)⟩
      · rw [Station.raise_link, Station.countLink_link_rxQueue, link]
        rfl
      · rw [Station.flag_raise]
        simp
      · rw [Station.raise_link, Station.countLink_link_counts, link]
        rfl
  obtain ⟨y, is, ⟨lane, startup', table', claims'⟩, ⟨txQueue, gate⟩, ⟨overflow, pending, dup⟩, room, full⟩ := drops
  rw [← is]
  refine ⟨y, rfl, startup'.trans startup, dup, ?_, txQueue, gate, room, full, overflow, pending, ?_, claims'.trans claims, fun i listed => ?_,
    fun i listed stays => ⟨fun settled => ?_, fun flying => ?_⟩⟩
  · rw [y.laneHold_iff]
    exact .inr (.inr (by rw [startup', startup]; exact (nomatch ·)))
  · rw [table', table]
    rfl
  · rw [lane] at listed
    obtain ⟨there, apart⟩ := members.mp listed
    have out := calm i listed
    refine ⟨?_, fun h => out (.inl h), fun h => out (.inr (.inl h)), fun d h => out (.inr (.inr ⟨d, h⟩))⟩
    by_contra departed
    exact apart i there (by simpa using departed) rfl
  all_goals
    have kept : i.rejectInFlight ∈ y.lane.queue := by
      rw [lane]
      refine members.mpr ⟨List.mem_map_of_mem listed, fun k there departed same => ?_⟩
      obtain ⟨a, inside, rfl⟩ := List.mem_map.mp there
      rw [a.rejectInFlight_ref.2] at departed
      rw [a.rejectInFlight_ref.1, i.rejectInFlight_ref.1] at same
      exact absurd (stays a inside same.symm) (by simp [departed])
    rcases i.rejectInFlight_cases with ⟨calmly, is⟩ | ⟨flies, is⟩
  · rwa [is] at kept
  · exact absurd flies (by rcases settled with h | h <;> revert h <;> cases i.corr <;> simp [CorrState.final])
  · exact absurd calmly (by rcases flying with h | h | ⟨d, h⟩ <;> simp [h, CorrState.final])
  · rwa [is] at kept

end Sys2Proof.Machine
end

section
/-! SUPPORT. The fields of a payload as they are written and read (sections 11.2, 11.3), and the statement they settle. -/

namespace Sys2Proof.Machine

/-! ### Numbers as bytes -/

@[simp] theorem length_beBytes (n v : Nat) : (beBytes n v).length = n := by
  induction n with
  | zero => rfl
  | succ n ih => rw [beBytes, List.length_cons, ih]

theorem foldl_byteValue (bytes : List Byte) : ∀ v : Nat,
    bytes.foldl (fun v b => v * 256 + b.toNat) v = v * 256 ^ bytes.length + beValue bytes := by
  induction bytes with
  | nil => simp [beValue]
  | cons b bytes ih =>
    intro v
    have head : beValue (b :: bytes) = b.toNat * 256 ^ bytes.length + beValue bytes := by
      rw [beValue, List.foldl_cons, ih, Nat.zero_mul, Nat.zero_add]
    rw [List.foldl_cons, ih, head, List.length_cons, Nat.pow_succ]
    ring

/-- A number written in enough bytes reads as it was. -/
theorem beValue_beBytes {n v : Nat} (small : v < 256 ^ n) : beValue (beBytes n v) = v := by
  have any (n v : Nat) : beValue (beBytes n v) = v % 256 ^ n := by
    induction n with
    | zero => simp [beBytes, beValue, Nat.mod_one]
    | succ n ih =>
      rw [Nat.pow_succ, Nat.mod_mul, beBytes, beValue, List.foldl_cons, foldl_byteValue, length_beBytes, ih, Nat.zero_mul, Nat.zero_add,
        BitVec.toNat_ofNat, Nat.add_comm, Nat.mul_comm]
  rw [any, Nat.mod_eq_of_lt small]

/-- A field between the bytes before it and those behind it. -/
theorem payloadField_between {front field back : List Byte} {place size : Nat} (before : front.length = place)
    (width : field.length = size) : payloadField (front ++ (field ++ back)) place size = beValue field := by
  rw [payloadField, List.drop_left' before, List.take_left' width]

theorem beBytes_one (v : Nat) : beBytes 1 v = [BitVec.ofNat 8 v] := by simp [beBytes]

/-- A byte as a field. -/
theorem beValue_beBytes_one {v : Nat} (small : v < 256) : beValue (beBytes 1 v) = v := beValue_beBytes small

/-! ### The head of a CLAIM, a COMMIT and a WITHDRAW -/

/-- Key, tally and item ref, as the three kinds begin. -/
def claimHead (k : Key) (t : Tally) (r : ItemRef) : List Byte := keyBytes k ++ beBytes 3 t.toNat ++ beBytes 2 r.toNat

section head

variable {k : Key} (t : Tally) (r : ItemRef) (tail : List Byte)

theorem length_claimHead (k : Key) : (claimHead k t r).length = 12 := by simp [claimHead, keyBytes]

/-- A key in the range of a kind a station claims reads back. -/
theorem heardKey_claimHead (own : k.kind ≠ .provisional) (range : Key.inRange k = true) : heardKey (claimHead k t r ++ tail) 0 = some k := by
  have split : claimHead k t r ++ tail = [] ++ (beBytes 1 (kindCode k.kind) ++ (beBytes 6 k.value ++ (beBytes 3 t.toNat ++ beBytes 2 r.toNat ++ tail))) := by
    simp [claimHead, keyBytes]
  have splitToo : claimHead k t r ++ tail = beBytes 1 (kindCode k.kind) ++ (beBytes 6 k.value ++ (beBytes 3 t.toNat ++ beBytes 2 r.toNat ++ tail)) :=
    split
  have small : k.value < 256 ^ 6 := by
    revert range
    unfold Key.inRange
    split <;> simp only [decide_eq_true_eq] <;> omega
  have code : payloadField (claimHead k t r ++ tail) 0 1 = kindCode k.kind := by
    rw [split, payloadField_between (front := []) List.length_nil (length_beBytes ..), beValue_beBytes_one (by cases k.kind <;> decide)]
  have value : payloadField (claimHead k t r ++ tail) 1 6 = k.value := by
    rw [splitToo, payloadField_between (length_beBytes ..) (length_beBytes ..), beValue_beBytes small]
  unfold heardKey
  dsimp only
  rw [code, value]
  obtain ⟨kind, value⟩ := k
  cases kind with
  | article => exact if_pos (of_decide_eq_true range)
  | serial => exact if_pos (of_decide_eq_true range)
  | provisional => exact absurd rfl own

theorem tallyField_claimHead (k : Key) : tallyField (claimHead k t r ++ tail) 7 = t := by
  have split : claimHead k t r ++ tail = keyBytes k ++ (beBytes 3 t.toNat ++ (beBytes 2 r.toNat ++ tail)) := by simp [claimHead]
  rw [tallyField, split, payloadField_between (by simp [keyBytes]) (length_beBytes ..), beValue_beBytes (by exact t.isLt)]
  exact BitVec.ofNat_toNat _ t

theorem refField_claimHead (k : Key) : refField (claimHead k t r ++ tail) 10 = r := by
  have split : claimHead k t r ++ tail = (keyBytes k ++ beBytes 3 t.toNat) ++ (beBytes 2 r.toNat ++ tail) := by simp [claimHead]
  rw [refField, split, payloadField_between (by simp [keyBytes]) (length_beBytes ..), beValue_beBytes (by exact r.isLt)]
  exact BitVec.ofNat_toNat _ r

end head

/-! ### Every payload (section 11.3) -/

theorem length_countPlaces (counts : List Count) : (countPlaces counts).length = 30 := by
  simp [countPlaces, List.length_flatMap]

theorem length_optKeyBytes (k : Option Key) : (optKeyBytes k).length = 7 := by
  cases k <;> simp [optKeyBytes, keyBytes]

/-- Every payload has the length of its kind. -/
theorem length_payload (b : Body) : kindLength b.kindCode = some b.payload.length := by
  cases b with
  | claim => simp [Body.kindCode, kindLength, Body.payload, keyBytes]
  | commit => simp [Body.kindCode, kindLength, Body.payload, keyBytes]
  | withdraw => simp [Body.kindCode, kindLength, Body.payload, keyBytes]
  | announce => simp [Body.kindCode, kindLength, Body.payload]
  | deposit => simp [Body.kindCode, kindLength, Body.payload, Deposit.payload, optBytes, length_optKeyBytes]
  | correction => simp [Body.kindCode, kindLength, Body.payload, Correction.payload, optBytes, keyBytes]
  | summary => simp [Body.kindCode, kindLength, Body.payload, Summary.payload]
  | status g contents =>
    cases contents with
    | none => simp [Body.kindCode, kindLength, Body.payload]
    | some c => simp [Body.kindCode, kindLength, Body.payload, StatusContents.payload, length_countPlaces]

/-! ### A frame as it is heard -/

/-- The frame of a body as another station takes it. -/
def heardFrame (source : Nat) (b : Body) : RxFrame :=
  ⟨BitVec.ofNat 8 b.kindCode, BitVec.ofNat 8 source, BitVec.ofNat 8 b.destination, b.payload, frameCheck (b.covered source)⟩

theorem coveredBytes_heardFrame (source : Nat) (b : Body) : coveredBytes (heardFrame source b) = b.covered source := by
  simp only [coveredBytes, heardFrame, Body.covered, beBytes_one, List.cons_append, List.nil_append]

theorem goodFrame_heardFrame (source : Nat) (b : Body) : goodFrame (heardFrame source b) = true := by
  unfold goodFrame
  rw [coveredBytes_heardFrame, beq_iff_eq]
  unfold heardFrame
  dsimp only

/-- A CLAIM, COMMIT or WITHDRAW is delivered as its kind. -/
theorem classify_heardFrame {source : Nat} (high : source ≤ 31) (own : Option Nat) (k : Key) (t : Tally) (r : ItemRef) (n : Nat) (wanted : Bool) :
    classify own (heardFrame source (.claim k t r n wanted)) = .claim ∧ classify own (heardFrame source (.commit k t r n)) = .commit ∧
      classify own (heardFrame source (.withdraw k t r)) = .withdraw := by
  have known (b : Body) (code : b.kindCode < 256) : kindLength (heardFrame source b).kind.toNat = some (heardFrame source b).payload.length := by
    have read : (heardFrame source b).kind.toNat = b.kindCode := (BitVec.toNat_ofNat ..).trans (Nat.mod_eq_of_lt code)
    rw [read]
    exact length_payload b
  have low (b : Body) : (heardFrame source b).source.toNat ≤ 31 := by
    exact (Nat.mod_le _ _).trans high
  exact ⟨(classify_stationFrame (known _ (by simp [Body.kindCode])) (low _)).1 rfl,
    (classify_stationFrame (known _ (by simp [Body.kindCode])) (low _)).2.1 rfl,
    (classify_stationFrame (known _ (by simp [Body.kindCode])) (low _)).2.2 rfl⟩

/-- Settles O55: the three kinds by their common head, and every payload by its length. -/
theorem claimFramesReadBack : Obligations.ClaimFramesReadBack := by
  unfold Obligations.ClaimFramesReadBack
  refine ⟨?_, length_payload⟩
  intro source own k t ref n wanted low high kind range byte heard claim commit withdraw
  have claims : claim.payload = claimHead k t ref ++ (beBytes 1 n ++ beBytes 1 (bitsValue [wanted])) := by
    simp [claim, heard, Body.payload, claimHead]
  have commits : commit.payload = claimHead k t ref ++ (beBytes 1 n ++ []) := by simp [commit, heard, Body.payload, claimHead]
  have withdraws : withdraw.payload = claimHead k t ref ++ [] := by simp [withdraw, heard, Body.payload, claimHead]
  have sourced (b : Body) : (heard b).source.toNat = source := Nat.mod_eq_of_lt (by omega)
  have fields {p tail : List Byte} (is : p = claimHead k t ref ++ tail) :
      heardKey p 0 = some k ∧ tallyField p 7 = t ∧ refField p 10 = ref := by
    rw [is]
    exact ⟨heardKey_claimHead t ref tail kind range, tallyField_claimHead t ref tail k, refField_claimHead t ref tail k⟩
  refine ⟨⟨goodFrame_heardFrame .., goodFrame_heardFrame .., goodFrame_heardFrame ..⟩, classify_heardFrame high own k t ref n wanted, ?_, ?_, ?_, ?_⟩
  · intro f listed
    simp only [List.mem_cons, List.not_mem_nil, or_false] at listed
    rcases listed with rfl | rfl | rfl
    · exact ⟨sourced _, fields claims⟩
    · exact ⟨sourced _, fields commits⟩
    · exact ⟨sourced _, fields withdraws⟩
  · rw [claims, payloadField_between (length_claimHead ..) (length_beBytes ..), beValue_beBytes_one (by omega)]
  · rw [commits, payloadField_between (length_claimHead ..) (length_beBytes ..), beValue_beBytes_one (by omega)]
  · have split : claim.payload = (claimHead k t ref ++ beBytes 1 n) ++ (beBytes 1 (bitsValue [wanted]) ++ []) := by rw [claims]; simp
    rw [split, payloadField_between (by simp [length_claimHead]) (length_beBytes ..)]
    cases wanted <;> decide

end Sys2Proof.Machine
end

section
/-! SUPPORT. Bit stuffing and reception (R140, R153, R190): stuff bits put in and taken out, the runs a receiver stands behind, a coded
frame taken back, and the statement these settle. -/

namespace Sys2Proof.Machine

/-! ### Stuff bits in and out (R140) -/

/-- A receiver behind the same run as the coder takes every stuff bit out again. -/
theorem unstuffFrom_stuffFrom (bits : List Bool) : ∀ (last : Bool) (run : Nat), run < 7 →
    unstuffFrom last run (stuffFrom last run bits) = some bits := by
  induction bits with
  | nil => exact fun _ _ _ => rfl
  | cons b bits ih =>
    intro last run short
    have behind : run ≠ 7 := by omega
    by_cases seven : (if b = last then run + 1 else 1) = 7
    · have stuffed := ih (!b) 1 (by omega)
      rw [stuffFrom, if_pos seven, unstuffFrom, takeBit, if_neg behind]
      dsimp only
      rw [seven, unstuffFrom, takeBit, if_pos rfl, if_neg (by cases b <;> decide)]
      exact congrArg (Option.map (b :: ·)) stuffed
    · have shorter : (if b = last then run + 1 else 1) < 7 := by split_ifs at seven ⊢ <;> omega
      simp [stuffFrom, seven, unstuffFrom, takeBit, behind, ih b _ shorter]

theorem unstuff_stuff (bits : List Bool) : unstuff (stuff bits) = some bits := unstuffFrom_stuffFrom bits true 0 (by omega)

/-- Behind some bits of a run, as many more as make it eight are a line error. -/
theorem unstuffFrom_replicate (b : Bool) (back : List Bool) : ∀ m run : Nat, 1 ≤ run → run ≤ 7 → 8 ≤ run + m →
    unstuffFrom b run (List.replicate m b ++ back) = none := by
  intro m
  induction m with
  | zero => intro run _ most _; omega
  | succ m ih =>
    intro run least most eight
    rw [List.replicate_succ, List.cons_append, unstuffFrom]
    by_cases seven : run = 7
    · simp [takeBit, seven]
    · simp [takeBit, seven, ih (run + 1) (by omega) (by omega) (by omega)]

/-- The run a receiver stands behind once it has taken a bit. -/
theorem takeBit_run {last b : Bool} {run run' : Nat} {x : Option Bool} (most : run ≤ 7) (taken : takeBit last run b = some (x, run')) :
    run' = (if b = last ∧ run ≠ 7 then run + 1 else 1) ∧ 1 ≤ run' ∧ run' ≤ 7 := by
  have next : run' = (if b = last ∧ run ≠ 7 then run + 1 else 1) := by
    unfold takeBit at taken
    split_ifs at taken <;> simp_all
  exact ⟨next, by rw [next]; split_ifs <;> omega⟩

/-- A line that is an error behind every run is one behind a bit more. -/
theorem unstuffFrom_cons_of_error {b last : Bool} {run : Nat} {line : List Bool} (most : run ≤ 7)
    (error : ∀ run', 1 ≤ run' → run' ≤ 7 → unstuffFrom b run' line = none) : unstuffFrom last run (b :: line) = none := by
  rw [unstuffFrom]
  cases one : takeBit last run b with
  | none => rfl
  | some found =>
    obtain ⟨bit, run'⟩ := found
    obtain ⟨-, least', most'⟩ := takeBit_run most one
    have behind := error run' least' most'
    cases bit with
    | none => exact behind
    | some x =>
      dsimp only
      rw [behind, Option.map_none]

/-- Eight equal bits anywhere are a line error. -/
theorem unstuffFrom_of_eight (b : Bool) (front back : List Bool) : ∀ (last : Bool) (run : Nat), run ≤ 7 →
    unstuffFrom last run (front ++ (List.replicate 8 b ++ back)) = none := by
  induction front with
  | nil =>
    intro last run most
    rw [List.nil_append, List.replicate_succ, List.cons_append]
    exact unstuffFrom_cons_of_error most fun run' least' most' => unstuffFrom_replicate b back 7 run' least' most' (by omega)
  | cons c front ih => exact fun last run most => unstuffFrom_cons_of_error most fun run' _ most' => ih c run' most'

/-- No coded stream holds eight equal bits in a row. -/
theorem stuff_ne_of_eight (bits front back : List Bool) (b : Bool) : stuff bits ≠ front ++ List.replicate 8 b ++ back := by
  intro same
  have taken := unstuff_stuff bits
  rw [same, List.append_assoc, unstuff, unstuffFrom_of_eight b front back true 0 (by omega)] at taken
  cases taken

/-- The lead has no run of 7, and leaves the coder behind one recessive bit. -/
theorem stuff_leadBits (rest : List Bool) : stuff (leadBits ++ rest) = leadBits ++ stuffFrom true 1 rest := rfl

/-! ### Bits taken from a longer line (R153) -/

/-- What is behind the bits taken makes no difference to them. -/
theorem takeBits_append (behind : List Bool) (line : List Bool) : ∀ (n : Nat) (last : Bool) (run : Nat),
    (takeBits n last run line = .lineError → takeBits n last run (line ++ behind) = .lineError) ∧
      ∀ bits l r rest, takeBits n last run line = .taken bits l r rest →
        takeBits n last run (line ++ behind) = .taken bits l r (rest ++ behind) := by
  induction line with
  | nil =>
    intro n last run
    cases n with
    | zero => simp
    | succ n => simp [takeBits]
  | cons b line ih =>
    intro n last run
    cases n with
    | zero =>
      refine ⟨by simp, ?_⟩
      simp only [takeBits_zero, Taking.taken.injEq]
      rintro _ _ _ _ ⟨rfl, rfl, rfl, rfl⟩
      exact ⟨rfl, rfl, rfl, rfl⟩
    | succ n =>
      rw [List.cons_append, takeBits, takeBits]
      cases takeBit last run b with
      | none => simp
      | some found =>
        obtain ⟨bit, run'⟩ := found
        cases bit with
        | none => exact ih (n + 1) b run'
        | some x =>
          obtain ⟨error, taken⟩ := ih n b run'
          dsimp only
          cases inner : takeBits n b run' line with
          | lineError => simp [error inner, Taking.cons]
          | unfinished => simp [Taking.cons]
          | taken bits l r rest =>
            rw [taken _ _ _ _ inner]
            simp only [Taking.cons, reduceCtorEq, Taking.taken.injEq, false_imp_iff, true_and]
            rintro _ _ _ _ ⟨rfl, rfl, rfl, rfl⟩
            exact ⟨rfl, rfl, rfl, rfl⟩

/-- The line ends in seven equal bits, counting those of the run the receiver stands behind. -/
def EndsRun (b last : Bool) (run : Nat) (line : List Bool) : Prop :=
  run ≤ 7 ∧ ((∃ front, line = front ++ List.replicate 7 b) ∨ ∃ m, line = List.replicate m b ∧ last = b ∧ 1 ≤ run ∧ 7 ≤ run + m)

/-- A bit taken leaves the line's end so. -/
theorem EndsRun.takeBit {b last c : Bool} {run run' : Nat} {line : List Bool} {x : Option Bool} (h : EndsRun b last run (c :: line))
    (taken : takeBit last run c = some (x, run')) : EndsRun b c run' line := by
  obtain ⟨most, ends⟩ := h
  obtain ⟨next, bound⟩ := takeBit_run most taken
  refine ⟨bound.2, ?_⟩
  rcases ends with ⟨front, is⟩ | ⟨m, is, same, least, seven⟩
  · cases front with
    | nil =>
      rw [List.nil_append, List.replicate_succ, List.cons.injEq] at is
      exact .inr ⟨6, is.2, is.1, bound.1, by omega⟩
    | cons a front => exact .inl ⟨front, (List.cons.inj is).2⟩
  · cases m with
    | zero => cases is
    | succ m =>
      rw [List.replicate_succ, List.cons.injEq] at is
      refine .inr ⟨m, is.2, is.1, bound.1, ?_⟩
      have error : run ≠ 7 := by
        rintro rfl
        simp [Machine.takeBit, is.1, same] at taken
      rw [next, if_pos ⟨is.1.trans same.symm, error⟩]
      omega

/-- Bits still to be taken from such a line: the next equal bit is a line error; and bits taken from it leave such a line. -/
theorem EndsRun.takeBits {b : Bool} (behind : List Bool) (line : List Bool) : ∀ (n : Nat) (last : Bool) (run : Nat), EndsRun b last run line →
    (takeBits n last run line = .unfinished → takeBits n last run (line ++ b :: behind) = .lineError) ∧
      ∀ bits l r rest, takeBits n last run line = .taken bits l r rest → EndsRun b l r rest := by
  induction line with
  | nil =>
    intro n last run h
    obtain ⟨most, ends⟩ := h
    have full : run = 7 ∧ last = b := by
      rcases ends with ⟨front, is⟩ | ⟨m, is, same, least, seven⟩
      · exact absurd is (by simp)
      · have none : m = 0 := by simpa using is
        exact ⟨by omega, same⟩
    cases n with
    | zero =>
      refine ⟨by simp, ?_⟩
      simp only [takeBits_zero, Taking.taken.injEq]
      rintro _ _ _ _ ⟨-, rfl, rfl, rfl⟩
      exact ⟨most, ends⟩
    | succ n => simp [Machine.takeBits, Machine.takeBit, full.1, full.2]
  | cons c line ih =>
    intro n last run h
    cases n with
    | zero =>
      refine ⟨by simp, ?_⟩
      simp only [takeBits_zero, Taking.taken.injEq]
      rintro _ _ _ _ ⟨-, rfl, rfl, rfl⟩
      exact h
    | succ n =>
      rw [List.cons_append, Machine.takeBits, Machine.takeBits]
      cases one : Machine.takeBit last run c with
      | none => simp
      | some found =>
        obtain ⟨bit, run'⟩ := found
        have next := h.takeBit one
        cases bit with
        | none => exact ih (n + 1) c run' next
        | some x =>
          obtain ⟨error, taken⟩ := ih n c run' next
          dsimp only
          cases inner : Machine.takeBits n c run' line with
          | lineError => simp [Taking.cons]
          | unfinished => simp [error inner, Taking.cons]
          | taken bits l r rest =>
            simp only [Taking.cons, reduceCtorEq, Taking.taken.injEq, false_imp_iff, true_and]
            rintro _ _ _ _ ⟨-, rfl, rfl, rfl⟩
            exact taken _ _ _ _ inner

/-! ### Bytes of a frame's bits (section 8.1) -/

theorem length_byteBits (b : Byte) : (byteBits b).length = 8 := rfl

theorem msbValue_byteBits (b : Byte) : msbValue (byteBits b) = b.toNat := by
  revert b
  decide

theorem msbValue_append (front back : List Bool) : msbValue (front ++ back) = msbValue front * 2 ^ back.length + msbValue back := by
  induction back using List.reverseRecOn with
  | nil => simp [msbValue]
  | append_singleton back b ih =>
    have last (l : List Bool) : msbValue (l ++ [b]) = 2 * msbValue l + b.toNat := by simp [msbValue]
    rw [← List.append_assoc, last, last, ih, List.length_append, List.length_singleton, Nat.pow_succ]
    ring

theorem drop_flatMap_byteBits (bytes : List Byte) (n : Nat) : (bytes.flatMap byteBits).drop (8 * n) = (bytes.drop n).flatMap byteBits := by
  induction n generalizing bytes with
  | zero => rfl
  | succ n ih =>
    cases bytes with
    | nil => simp
    | cons b bytes =>
      rw [List.flatMap_cons, List.drop_succ_cons, ← ih, show 8 * (n + 1) = (byteBits b).length + 8 * n by rw [length_byteBits]; ring,
        List.drop_length_add_append]

theorem length_flatMap_byteBits (bytes : List Byte) : (bytes.flatMap byteBits).length = 8 * bytes.length := by
  induction bytes with
  | nil => rfl
  | cons b bytes ih => rw [List.flatMap_cons, List.length_append, ih, length_byteBits, List.length_cons]; ring

/-- The byte at a place of some bytes' bits is the byte there. -/
theorem byteAt_flatMap {bytes : List Byte} {n : Nat} {b : Byte} (there : bytes[n]? = some b) (back : List Bool) :
    byteAt (bytes.flatMap byteBits ++ back) n = b := by
  obtain ⟨inside, is⟩ := List.getElem?_eq_some_iff.mp there
  have whole : 8 * n ≤ (bytes.flatMap byteBits).length := by rw [length_flatMap_byteBits]; omega
  rw [byteAt, List.drop_append_of_le_length whole, drop_flatMap_byteBits, List.drop_eq_getElem_cons inside, is, List.flatMap_cons, List.append_assoc,
    List.take_left' (length_byteBits b), msbValue_byteBits, BitVec.ofNat_toNat, BitVec.setWidth_eq]

/-- The fields of a frame read from its bytes' bits. -/
theorem frameOf_bits (kind source dest length : Byte) (payload : List Byte) (check : BitVec 16) :
    frameOf ([kind, source, dest, length].flatMap byteBits)
      (payload.flatMap byteBits ++ [BitVec.ofNat 8 (check.toNat / 256), BitVec.ofNat 8 check.toNat].flatMap byteBits) payload.length =
      ⟨kind, source, dest, payload, check⟩ := by
  have header (n : Nat) (b : Byte) (there : [kind, source, dest, length][n]? = some b) :
      byteAt ([kind, source, dest, length].flatMap byteBits) n = b := by
    have read := byteAt_flatMap there []
    rwa [List.append_nil] at read
  have data : (List.range payload.length).map (byteAt (payload.flatMap byteBits ++
      [BitVec.ofNat 8 (check.toNat / 256), BitVec.ofNat 8 check.toNat].flatMap byteBits)) = payload := by
    refine List.ext_getElem (by simp) fun n _ inside => ?_
    rw [List.getElem_map, List.getElem_range]
    exact byteAt_flatMap (List.getElem?_eq_getElem inside) _
  have sum : BitVec.ofNat 16 (msbValue ((payload.flatMap byteBits ++
      [BitVec.ofNat 8 (check.toNat / 256), BitVec.ofNat 8 check.toNat].flatMap byteBits).drop (8 * payload.length))) = check := by
    rw [← length_flatMap_byteBits, List.drop_left, List.flatMap_cons, List.flatMap_singleton, msbValue_append, length_byteBits,
      msbValue_byteBits, msbValue_byteBits]
    apply BitVec.eq_of_toNat_eq
    have small := check.isLt
    simp only [BitVec.toNat_ofNat]
    omega
  rw [frameOf, header 0 kind rfl, header 1 source rfl, header 2 dest rfl, data, sum]

/-! ### A coded frame taken back (R153, R190) -/

theorem receive_of_lead {n : Nat} (gap : 4 ≤ n) (rest : List Bool) : receive (List.replicate n true ++ (leadBits ++ rest)) = takeFrame rest := by
  have lead : afterLead (List.replicate n true ++ (leadBits ++ rest)) = some rest :=
    afterLead_eq_some.mpr ⟨n, gap, (List.append_assoc ..).symm⟩
  rw [receive, lead]

/-- The header of a coded frame taken, and the rest as if the coder began behind some run. -/
theorem takeBits_stuffFrom_append (front back behind : List Bool) : ∃ last run rest,
    takeBits front.length true 1 (stuffFrom true 1 (front ++ back) ++ behind) = .taken front last run (rest ++ behind) ∧
      (0 < back.length → ∃ last' run' rest', takeBits back.length last run (rest ++ behind) = .taken back last' run' (rest' ++ behind)) := by
  obtain ⟨last, run, rest, taken, last', run', short, again⟩ := takeBits_stuffFrom front back true 1 (by omega)
  refine ⟨last, run, rest, (takeBits_append behind _ _ _ _).2 _ _ _ _ taken, fun some => ?_⟩
  obtain ⟨n, length⟩ : ∃ n, back.length = n + 1 := ⟨back.length - 1, by omega⟩
  obtain ⟨last'', run'', rest'', takenToo, -⟩ := takeBits_stuffFrom back [] last' run' short
  rw [List.append_nil, length, ← again, ← length] at takenToo
  exact ⟨last'', run'', rest'', (takeBits_append behind _ _ _ _).2 _ _ _ _ takenToo⟩

/-- The end of a coded frame's reception, by its payload length. -/
theorem takeFrame_coded (kind source dest length : Byte) (payload : List Byte) (check : BitVec 16) (behind : List Bool)
    (is : payload.length = length.toNat) :
    takeFrame (stuffFrom true 1 ([kind, source, dest, length].flatMap byteBits ++
      (payload.flatMap byteBits ++ [BitVec.ofNat 8 (check.toNat / 256), BitVec.ofNat 8 check.toNat].flatMap byteBits)) ++ behind) =
      if 48 < length.toNat then .lineError else .frame ⟨kind, source, dest, payload, check⟩ := by
  have size : (payload.flatMap byteBits ++ [BitVec.ofNat 8 (check.toNat / 256), BitVec.ofNat 8 check.toNat].flatMap byteBits).length =
      8 * length.toNat + 16 := by
    rw [List.length_append, length_flatMap_byteBits, length_flatMap_byteBits, is]
    rfl
  obtain ⟨last, run, rest, header, body⟩ := takeBits_stuffFrom_append ([kind, source, dest, length].flatMap byteBits)
    (payload.flatMap byteBits ++ [BitVec.ofNat 8 (check.toNat / 256), BitVec.ofNat 8 check.toNat].flatMap byteBits) behind
  obtain ⟨last', run', rest', taken⟩ := body (by omega)
  have read : byteAt ([kind, source, dest, length].flatMap byteBits) 3 = length := by
    have whole := byteAt_flatMap (bytes := [kind, source, dest, length]) (n := 3) rfl []
    rwa [List.append_nil] at whole
  rw [takeFrame, show 32 = ([kind, source, dest, length].flatMap byteBits).length from rfl, header]
  dsimp only
  rw [read, Config.payloadLimit]
  split
  · rfl
  · rw [← size, taken, ← is]
    exact congrArg Ending.frame (frameOf_bits kind source dest length payload check)

/-! ### Eight equal bits before a frame's end (R153) -/

/-- A line error stays one, whatever is behind it. -/
theorem takeFrame_append_of_error {line : List Bool} (behind : List Bool) (error : takeFrame line = .lineError) :
    takeFrame (line ++ behind) = .lineError := by
  rw [takeFrame] at error ⊢
  cases header : takeBits 32 true 1 line with
  | lineError => rw [(takeBits_append behind _ _ _ _).1 header]
  | unfinished => rw [header] at error; cases error
  | taken bits l r rest =>
    rw [(takeBits_append behind _ _ _ _).2 _ _ _ _ header]
    rw [header] at error
    dsimp only at error ⊢
    split at error
    next long => rw [if_pos long]
    next short =>
      rw [if_neg short]
      cases body : takeBits (8 * (byteAt bits 3).toNat + 16) l r rest with
      | lineError => rw [(takeBits_append behind _ _ _ _).1 body]
      | unfinished => rw [body] at error; cases error
      | taken bits' l' r' rest' => rw [body] at error; cases error

/-- A frame not yet ended by a line that ends in seven equal bits is ended by an eighth, in a line error. -/
theorem takeFrame_of_eighth {front : List Bool} {b : Bool} (behind : List Bool) (open' : takeFrame (front ++ List.replicate 7 b) = .unfinished) :
    takeFrame (front ++ List.replicate 7 b ++ b :: behind) = .lineError := by
  have ends : EndsRun b true 1 (front ++ List.replicate 7 b) := ⟨by omega, .inl ⟨front, rfl⟩⟩
  generalize front ++ List.replicate 7 b = line at open' ends ⊢
  obtain ⟨error, left⟩ := ends.takeBits behind line 32 true 1
  rw [takeFrame] at open' ⊢
  cases header : takeBits 32 true 1 line with
  | lineError => rw [header] at open'; cases open'
  | unfinished => rw [error header]
  | taken bits l r rest =>
    rw [(takeBits_append (b :: behind) _ _ _ _).2 _ _ _ _ header]
    rw [header] at open'
    dsimp only at open' ⊢
    split at open'
    next => cases open'
    next short =>
      rw [if_neg short]
      cases body : takeBits (8 * (byteAt bits 3).toNat + 16) l r rest with
      | lineError => rw [body] at open'; cases open'
      | unfinished => rw [((left _ _ _ _ header).takeBits behind rest _ l r).1 body]
      | taken bits' l' r' rest' => rw [body] at open'; cases open'

theorem takeFrame_ne_noLead (line : List Bool) : takeFrame line ≠ .noLead := by
  unfold takeFrame
  split
  · exact (nomatch ·)
  · exact (nomatch ·)
  · dsimp only
    split
    · exact (nomatch ·)
    · split <;> exact (nomatch ·)

/-- The lead once recognised, what is behind it is taken. -/
theorem receive_eq_takeFrame {line rest : List Bool} (lead : afterLead line = some rest) (behind : List Bool) :
    receive (line ++ behind) = takeFrame (rest ++ behind) := by
  obtain ⟨n, gap, rfl⟩ := afterLead_eq_some.mp lead
  rw [List.append_assoc, List.append_assoc]
  exact receive_of_lead gap _

/-- Eight equal bits that come before the frame's end are a line error. -/
theorem receive_of_eight {front : List Bool} (behind : List Bool) {b : Bool} (open' : receive front = .unfinished)
    (whole : ∀ n f, n ≤ 7 → receive (front ++ List.replicate n b) ≠ .frame f) :
    receive (front ++ List.replicate 8 b ++ behind) = .lineError := by
  cases lead : afterLead front with
  | none => rw [receive, lead] at open'; cases open'
  | some rest =>
    have seven := whole 7
    rw [List.append_assoc, receive_eq_takeFrame lead]
    rw [receive_eq_takeFrame lead] at seven
    have cut : rest ++ (List.replicate 8 b ++ behind) = rest ++ List.replicate 7 b ++ b :: behind := by
      rw [List.replicate_succ', List.append_assoc, List.append_assoc]
      rfl
    rw [cut]
    cases end7 : takeFrame (rest ++ List.replicate 7 b) with
    | noLead => exact absurd end7 (takeFrame_ne_noLead _)
    | lineError => exact takeFrame_append_of_error _ end7
    | unfinished => exact takeFrame_of_eighth behind end7
    | frame f => exact absurd end7 (seven f le_rfl)

/-- A frame's bytes, laid out as its fields. -/
theorem frameBytes_eq (source : Nat) (b : Body) : b.frameBytes source =
    [0x55, 0x5D, BitVec.ofNat 8 b.kindCode, BitVec.ofNat 8 source, BitVec.ofNat 8 b.destination, BitVec.ofNat 8 b.payload.length] ++ b.payload ++
      [BitVec.ofNat 8 ((frameCheck (b.covered source)).toNat / 256), BitVec.ofNat 8 (frameCheck (b.covered source)).toNat] := by
  generalize check : frameCheck (b.covered source) = c
  rw [Body.frameBytes, check, Body.covered]
  simp [leadBytes, beBytes]

/-- A coded frame, cut behind its lead. -/
theorem stuff_frame (kind source dest length : Byte) (payload : List Byte) (check : List Byte) :
    stuff (([0x55, 0x5D, kind, source, dest, length] ++ payload ++ check).flatMap byteBits) =
      leadBits ++ stuffFrom true 1 ([kind, source, dest, length].flatMap byteBits ++ (payload.flatMap byteBits ++ check.flatMap byteBits)) := by
  rw [← stuff_leadBits]
  simp [leadBits, leadBytes]

/-- No payload is longer than a receiver takes. -/
theorem length_payload_le (b : Body) : b.payload.length ≤ 48 := by
  have known := length_payload b
  cases b <;> (simp only [Body.kindCode, kindLength, Option.some.injEq] at known; omega)

/-- Settles O56: the stuffing taken out, the lead by its bits, and a coded frame by its parts. -/
theorem stuffingRoundTrip : Obligations.StuffingRoundTrip := by
  unfold Obligations.StuffingRoundTrip
  have coded (n : Nat) (kind source dest length : Byte) (payload : List Byte) (check : BitVec 16) (behind : List Bool) (gap : 4 ≤ n)
      (is : payload.length = length.toNat) :
      receive (List.replicate n true ++ stuff (([0x55, 0x5D, kind, source, dest, length] ++ payload ++
        [BitVec.ofNat 8 (check.toNat / 256), BitVec.ofNat 8 check.toNat]).flatMap byteBits) ++ behind) =
        if 48 < length.toNat then .lineError else .frame ⟨kind, source, dest, payload, check⟩ := by
    rw [stuff_frame, List.append_assoc, List.append_assoc, receive_of_lead gap]
    exact takeFrame_coded kind source dest length payload check behind is
  refine ⟨unstuff_stuff, stuff_ne_of_eight, fun source b => unstuff_stuff _, fun source b => ?_, fun line => ?_, ?_, ?_, ?_⟩
  · rw [Body.lineBits, frameBytes_eq, stuff_frame]
    rfl
  · refine ⟨fun led => ?_, fun ⟨n, behind, gap, is⟩ => ?_⟩
    · cases lead : afterLead line with
      | none => exact absurd (by rw [receive, lead]) led
      | some rest =>
        obtain ⟨n, gap, is⟩ := afterLead_eq_some.mp lead
        exact ⟨n, rest, gap, is⟩
    · rw [is, List.append_assoc]
      exact fun none => takeFrame_ne_noLead _ ((receive_of_lead gap behind).symm.trans none)
  · intro n kind source dest length payload check behind gap is bytes line
    have whole := coded n kind source dest length payload check behind gap is
    exact ⟨fun short => whole.trans (if_neg (not_lt.mpr short)), fun long => whole.trans (if_pos long)⟩
  · intro n source b behind gap
    have short := length_payload_le b
    have read : (BitVec.ofNat 8 b.payload.length).toNat = b.payload.length := Nat.mod_eq_of_lt (by omega)
    rw [Body.lineBits, frameBytes_eq, coded n _ _ _ _ _ _ behind gap read.symm, if_neg (by omega)]
  · exact fun front behind b open' whole => receive_of_eight behind open' whole

end Sys2Proof.Machine
end

section
/-! SUPPORT. The decision point of an item (sections 1.7, 7.6, 9.1 to 9.3): its chute, reason and class, and the statement on an item
whose correlation is settled. -/

namespace Sys2Proof.Machine

variable (s : Station)

theorem exec_decisionDue (ref : ItemRef) (x : Station) (q : List Instr) :
    exec (.decisionDue ref) ⟨x, q⟩ = .next ⟨x.decisionDue ref, q⟩ := rfl

/-- The end of a decision: a wait is ended, chute and reason are fixed, and the item is DECIDED. -/
def Station.endDecision (ref : ItemRef) (s : Station) : Station :=
  ((s.endWait ref).fixChute ref).modifyItem ref (fun x => { x with lane := .decided })

theorem Station.decisionDue_due {ref : ItemRef} {i : Item} (found : s.findItem ref = some i) (open_ : i.lane.undecided = true)
    (due : dist i.lead s.lane.pos = s.cfg.dDec) :
    s.decisionDue ref = ((if i.lane = .read then s else s.lateCloses i).finalizeItem ref).endDecision ref := by
  rw [Station.decisionDue, found]
  exact if_pos ⟨open_, due⟩

/-! ### Chute, reason and class (R79, R163, R164) -/

theorem Item.isSlip_iff (i : Item) : i.isSlip = true ↔ i.outcome = some .slip := by simp [Item.isSlip]

/-- A reason is written for an item with a condition that is no slip. -/
theorem Item.reviewReason_isSome (i : Item) : i.reviewReason.isSome = (!i.isSlip && i.conditions.any (fun c => c.1)) := by
  unfold Item.reviewReason
  cases i.isSlip with
  | true => rfl
  | false =>
    rw [Bool.eq_iff_iff]
    simp

/-- A wait that ends at the decision point leaves WEIGHT ABSENT (R83). -/
def Item.endWait (i : Item) : Item :=
  if i.matching then { i with matching := false, trackerMark := some .weightAbsent } else i

/-- Chute and reason as they are fixed. -/
def Item.decided (m : ChuteMap) (i : Item) : Item :=
  { i with chute := some (i.fixedChute m), review := i.reviewReason, lane := .decided }

theorem Station.findItem_endWait (ref : ItemRef) : (s.endWait ref).findItem ref = (s.findItem ref).map Item.endWait :=
  s.findItem_modifyItem ref _ fun i own => by split <;> exact own

/-- An item's class counted in the open context; a slip has none (R79). -/
def Station.classed (ref : ItemRef) (cl : Option ItemClass) (s : Station) : Station :=
  { s with tracker := { s.tracker with context := match cl with
    | some c => s.tracker.context.map (Consignment.classify ref c)
    | none => s.tracker.context } }

/-- The station as the decision of an item leaves it. -/
theorem Station.endDecision_eq {ref : ItemRef} {i : Item} (found : (s.endWait ref).findItem ref = some i) :
    s.endDecision ref = ((((s.endWait ref).modifyItem ref (fun x =>
      { x with chute := some (i.fixedChute s.cfg.chuteMap), review := i.reviewReason })).classed ref i.itemClass).countDisposed
        i.reviewReason.isSome).modifyItem ref (fun x => { x with lane := .decided }) := by
  unfold Station.endDecision Station.fixChute
  rw [found]
  dsimp only
  cases i.itemClass <;> rfl

theorem Station.findItem_endDecision {ref : ItemRef} {i : Item} (found : s.findItem ref = some i) :
    (s.endDecision ref).findItem ref = some (i.endWait.decided s.cfg.chuteMap) := by
  have ended : (s.endWait ref).findItem ref = some i.endWait := (s.findItem_endWait ref).trans (congrArg _ found)
  have classed (cl : Option ItemClass) (t : Station) : (t.classed ref cl).findItem ref = t.findItem ref := rfl
  rw [s.endDecision_eq ended, Station.findItem_modifyItem _ _ _ fun _ own => by exact own, Station.countDisposed_findItem, classed,
    Station.findItem_modifyItem _ _ _ fun _ own => by exact own, ended]
  rfl

/-- The blocks the end of a decision may touch. -/
theorem Station.endDecision_changes (ref : ItemRef) : Changes [.items, .context, .recordCounts] s (s.endDecision ref) :=
  (((s.endWait_changes ref).then (Station.fixChute_changes _ ref) rfl rfl :
    Changes [.items, .context, .recordCounts] s _).then (Station.modifyItem_changes _ ref _) rfl rfl)

theorem Station.finalizeItem_of_settled {ref : ItemRef} {i : Item} (found : s.findItem ref = some i)
    (settled : i.corr = .unkeyed ∨ i.corr.final = true) : s.finalizeItem ref = s := by
  rw [Station.finalizeItem, found]
  cases corr : i.corr <;> simp_all [CorrState.final]

/-- Settles O20: the decision of a settled item is its end alone. -/
theorem decisionOfASettledItem : Obligations.DecisionOfASettledItem := by
  unfold Obligations.DecisionOfASettledItem
  intro x q ref i found read due still settled
  have noWait : i.endWait = i := if_neg (by simp [still])
  have ended : (x.endWait ref).findItem ref = some i := by rw [x.findItem_endWait, found, Option.map_some, noWait]
  have decided : x.decisionDue ref = x.endDecision ref := by
    rw [x.decisionDue_due found (by rw [read]; rfl) due, if_pos read, x.finalizeItem_of_settled found settled]
  have reviewed : i.reviewReason.isSome = true ↔ i.isSlip = false ∧ i.conditions.any (fun c => c.1) = true := by
    rw [i.reviewReason_isSome]; simp
  have frame := x.endDecision_changes ref
  have link : (x.endDecision ref).link = x.link := by rw [x.endDecision_eq ended]; rfl
  refine ⟨_, congrArg (fun y => Host.Outcome.next (State.mk y q)) decided, ?item, ?counts, ?context, link, ?_, ?_⟩
  case item =>
    rw [x.findItem_endDecision found, noWait, Item.decided, Item.fixedChute]
    congr 3
    refine if_congr ?_ rfl rfl
    rw [i.reviewReason_isSome]
    cases i.isSlip <;> simp
  case counts => 
    have counts : (x.endDecision ref).records.counts = { x.records.counts with
        disposed := x.records.counts.disposed + 1
        reviews := if i.reviewReason.isSome then x.records.counts.reviews + 1 else x.records.counts.reviews } := by
      rw [x.endDecision_eq ended]; rfl
    rw [counts, apply_ite (x.records.counts.reviews + ·)]
    dsimp only
    congr 1
    exact if_congr reviewed rfl (BitVec.add_zero _).symm
  case context =>
    have tracker : (x.endDecision ref).tracker = { x.tracker with context := match i.itemClass with
        | some cl => x.tracker.context.map (Consignment.classify ref cl)
        | none => x.tracker.context } := by
      rw [x.endDecision_eq ended]; rfl
    rw [tracker, Item.itemClass]
    simp only [← i.isSlip_iff, i.reviewReason_isSome]
    congr 1
    cases x.tracker.context with
    | none => split <;> rfl
    | some c =>
      simp only [Option.map_some]
      cases slip : i.isSlip with
      | true => simp
      | false =>
        by_cases listed : ref ∈ c.members
        · cases i.conditions.any fun c => c.1 with
          | true => simp [Consignment.classify, listed, saturate16]
          | false =>
            cases i.key with
            | none => simp
            | some k => by_cases own : k.kind = .provisional <;> simp [Consignment.classify, listed, saturate16, own]
        · have apart (cl : ItemClass) : Consignment.classify ref cl c = c := if_neg listed
          simp only [apart, listed, not_false_eq_true, or_true, if_true]
          split <;> rfl
  · rw [x.endDecision_eq ended]; rfl
  · rw [x.endDecision_eq ended]; rfl

end Sys2Proof.Machine
end

section
/-! SUPPORT. Matching of an unidentified item (R82 to R87): the tests before the scan, the match and its local commit, the issue of a
PROVISIONAL key, and what all of these leave of the item. -/

namespace Sys2Proof.Machine

variable (s : Station)

/-! ### The scan (R84) -/

theorem Stored.passes_iff (c : Settings) (grams : Nat) (unsteady : Bool) (thickness : Option Nat) (p : Stored) :
    p.passes c grams unsteady thickness = true ↔
      (let n := if unsteady = true ∨ p.unsteady = true then 2 * c.weightTolerance else c.weightTolerance
       grams ≤ p.grams + n ∧ p.grams ≤ grams + n) ∧
      ∀ a b, thickness = some a → p.thickness = some b → a ≤ b + c.thicknessTolerance ∧ b ≤ a + c.thicknessTolerance := by
  have near (a b n : Nat) : absDiff a b ≤ n ↔ a ≤ b + n ∧ b ≤ a + n := by unfold absDiff; omega
  simp only [Stored.passes, Bool.and_eq_true, decide_eq_true_eq, near, Bool.or_eq_true]
  refine and_congr Iff.rfl ?_
  cases thickness <;> cases p.thickness <;> simp

theorem Station.rosterPasses_iff (grams : Nat) (unsteady : Bool) (thickness : Option Nat) (k : Key) :
    s.rosterPasses grams unsteady thickness k = true ↔ s.Passes grams unsteady thickness k := by
  unfold Station.rosterPasses Station.Passes
  cases found : s.entry k with
  | none => simp
  | some e => cases stored : e.stored <;> simp [Stored.passes_iff, stored]

/-- The match is the newest reference within the scan depth that passes. -/
theorem Station.scanRoster_eq_some {grams : Nat} {unsteady : Bool} {thickness : Option Nat} {roster newer older : List Key} {k : Key}
    (scan : roster.reverse.take s.cfg.scanDepth = newer ++ k :: older) (fails : ∀ a ∈ newer, ¬ s.Passes grams unsteady thickness a)
    (passes : s.Passes grams unsteady thickness k) : s.scanRoster grams unsteady thickness roster = some k := by
  rw [Station.scanRoster, scan]
  refine List.find?_eq_some_iff_append.mpr ⟨(s.rosterPasses_iff ..).mpr passes, newer, older, rfl, fun a listed => ?_⟩
  simpa using mt (s.rosterPasses_iff ..).mp (fails a listed)

theorem Station.scanRoster_eq_none {grams : Nat} {unsteady : Bool} {thickness : Option Nat} {roster : List Key}
    (fails : ∀ a ∈ roster.reverse.take s.cfg.scanDepth, ¬ s.Passes grams unsteady thickness a) :
    s.scanRoster grams unsteady thickness roster = none :=
  List.find?_eq_none.mpr fun a listed => mt (s.rosterPasses_iff ..).mp (fails a listed)

/-! ### The local commit (R87) -/

/-- The item with its key and the ordinal of a local commit. -/
def Item.matched (k : Key) (ordinal : Nat) (i : Item) : Item := { i with key := some k, ordinal := some ordinal, corr := .committed }

/-- A local commit of an item that has just taken its key. -/
theorem Station.commitProvisional_of_entry {k : Key} {e : Entry} (ref : ItemRef) (found : s.entry k = some e)
    (distinct : (s.table.entries.map Entry.key).Nodup) :
    s.commitProvisional ref k = (s.wrote k { e with committed := max e.committed (min 255 (e.committed + 1)) }).modifyItem ref
      (fun i => { i with ordinal := some (min 255 (e.committed + 1)), corr := .committed }) := by
  have wrote := s.writeEntry_eq_wrote (f := fun x => { x with committed := max x.committed (commitOrdinal e.committed 0) }) found
    (s.entry_key found :) distinct
  rw [Station.commitProvisional, found]
  exact congrArg (Station.modifyItem ref _) wrote

theorem Station.wrote_touch {k : Key} {e : Entry} (m : Entry) (found : s.entry k = some e)
    (distinct : (s.table.entries.map Entry.key).Nodup) : (s.touch k).wrote k m = s.wrote k m := by
  have gone : ∀ a ∈ s.table.entries.eraseP (fun a => a.key = k), ¬ (decide (a.key = k)) = true := fun a left => by
    simpa using key_ne_of_mem_eraseP distinct a left
  rw [Station.touch, found]
  simp only [Station.wrote]
  rw [List.eraseP_append_right _ gone]
  simp [s.entry_key found]

theorem Station.entry_touch {k : Key} {e : Entry} (found : s.entry k = some e) (distinct : (s.table.entries.map Entry.key).Nodup) :
    (s.touch k).entry k = some e ∧ ((s.touch k).table.entries.map Entry.key).Nodup := by
  have touched : s.touch k = s.wrote k e := by rw [Station.touch, found]; rfl
  rw [touched]
  exact ⟨s.entry_wrote (s.entry_key found) distinct, s.keys_wrote_nodup (s.entry_key found) distinct⟩

/-- The match: its key taken, the entry touched and written, the match counted. -/
theorem Station.matchRoster_of_match {i : Item} {grams : Nat} {c : Consignment} {newer older : List Key} {k : Key} {e : Entry}
    (scan : c.roster.reverse.take s.cfg.scanDepth = newer ++ k :: older)
    (fails : ∀ a ∈ newer, ¬ s.Passes grams i.unsteady i.thickness a) (passes : s.Passes grams i.unsteady i.thickness k)
    (found : s.entry k = some e) (distinct : (s.table.entries.map Entry.key).Nodup) :
    s.matchRoster i grams c =
      { s.wrote k { e with committed := max e.committed (min 255 (e.committed + 1)) } with
        tracker := { s.tracker with matches_ := s.tracker.matches_ + 1 } }.modifyItem i.ref
          (Item.matched k (min 255 (e.committed + 1))) := by
  rw [Station.matchRoster, s.scanRoster_eq_some scan fails passes]
  set t := s.modifyItem i.ref (fun x => { x with key := some k }) with keyed
  obtain ⟨there, nodup⟩ := t.entry_touch (show t.entry k = some e from found) distinct
  have touched := t.wrote_touch { e with committed := max e.committed (min 255 (e.committed + 1)) } (by exact found) distinct
  have committed := Station.commitProvisional_of_entry
    { t.touch k with tracker := { (t.touch k).tracker with matches_ := (t.touch k).tracker.matches_ + 1 } } i.ref (by exact there) nodup
  refine committed.trans ?_
  have written : Station.wrote k { e with committed := max e.committed (min 255 (e.committed + 1)) }
      { t.touch k with tracker := { (t.touch k).tracker with matches_ := (t.touch k).tracker.matches_ + 1 } } =
      { s.wrote k { e with committed := max e.committed (min 255 (e.committed + 1)) } with
        tracker := { s.tracker with matches_ := s.tracker.matches_ + 1 } }.modifyItem i.ref (fun x => { x with key := some k }) := by
    have tracker : (t.touch k).tracker = s.tracker := by
      rw [Station.touch]; split <;> rfl
    calc _ = { (t.touch k).wrote k { e with committed := max e.committed (min 255 (e.committed + 1)) } with
          tracker := { (t.touch k).tracker with matches_ := (t.touch k).tracker.matches_ + 1 } } := rfl
      _ = _ := by rw [touched, tracker]; rfl
  rw [written, Station.modifyItem_modifyItem (f := fun x => { x with key := some k }) _ _ _ fun _ => rfl]
  rfl

/-! ### The issue of a key (R85) -/

/-- The search finds the first index whose key the table does not hold. -/
theorem Station.freeIndex_eq (number : Nat) {n i last : Nat} (fuel : last ≤ n + i) (below : i ≤ last) (end_ : last ≤ 4095)
    (held : ∀ m, i ≤ m → m < last → (s.entry (provisionalKey number m)).isSome)
    (free : last = 4095 ∨ s.entry (provisionalKey number last) = none) : s.freeIndex number n i = last := by
  induction n generalizing i with
  | zero => rw [Station.freeIndex]; omega
  | succ n ih =>
    rw [Station.freeIndex, Config.lastProvisionalIndex]
    by_cases here : i = last
    · subst here
      rcases free with rfl | free
      · exact if_pos le_rfl
      · rw [free]
        split <;> rfl
    · have next := held i le_rfl (by omega)
      rw [if_neg (by omega), if_pos next]
      exact ih (by omega) (by omega) fun m above => held m (by omega)

/-- A full roster gives up its oldest reference. -/
theorem addToRoster_eq (k : Key) {roster : List Key} (short : roster.length ≤ 64) :
    addToRoster k roster = (if roster.length < 64 then roster else roster.drop 1) ++ [k] := by
  unfold addToRoster Config.rosterCapacity
  by_cases room : roster.length < 64
  · rw [if_pos room, if_pos room]
  · rw [if_neg room, if_neg room, show roster.length + 1 - 64 = 1 by omega]

/-- An entry written that has just joined the table. -/
theorem Station.writeEntry_addEntry {e : Entry} {f : Entry → Entry} (fresh : s.entry e.key = none) (keepsKey : (f e).key = e.key) :
    (s.addEntry e).writeEntry e.key f = s.addEntry (f e) := by
  have others := (s.entry_eq_none_iff e.key).mp fresh
  have clear : ∀ a ∈ s.table.entries, ¬ (decide (a.key = e.key)) = true := by simpa using others
  have put : (s.addEntry e).modifyEntry e.key f = s.addEntry (f e) := by
    have same : s.table.entries.map (fun a => if a.key = e.key then f a else a) = s.table.entries :=
      (List.map_congr_left (g := fun a => a) fun a listed => if_neg (others a listed)).trans (List.map_id' _)
    simp only [Station.modifyEntry, Station.addEntry, List.map_append, same, List.map_singleton, if_true]
  have read : (s.addEntry (f e)).entry e.key = some (f e) := by
    rw [Station.entry, Station.addEntry, List.find?_append, ← Station.entry, fresh]
    simp [keepsKey]
  rw [Station.writeEntry, put, Station.touch, read]
  simp only [Station.addEntry]
  rw [List.eraseP_append_right _ clear]
  simp [keepsKey]

section issue

variable {number n : Nat} {stored : Stored} {c : Consignment}

/-- A new PROVISIONAL key at a free place: its entry, its reference, and ordinal 1. -/
theorem Station.issueProvisional_of_place (ref : ItemRef) (index : s.freeIndex number 4096 c.nextIndex = n) (below : n < 4095)
    (fresh : s.entry (provisionalKey number n) = none) (place : s.table.entries.length < 4096) :
    s.issueProvisional ref number stored c =
      { s.addEntry { newEntry (provisionalKey number n) 1 .known with stored := some stored } with
        tracker := { s.tracker with
          context := s.tracker.context.map (fun (x : Consignment) => { x with nextIndex := n + 1, roster := addToRoster (provisionalKey number n) x.roster })
          issued := s.tracker.issued + 1 } }.modifyItem ref (Item.matched (provisionalKey number n) 1) := by
  set k := provisionalKey number n with key
  set new : Entry := { newEntry k 0 .known with stored := some stored } with made
  have created (t : Station) (room : t.table.entries.length < 4096) : t.createEntry new = (t.addEntry new, true) := if_pos room
  unfold Station.issueProvisional
  simp only [Config.lastProvisionalIndex, show 4095 + 1 = 4096 from rfl, index]
  rw [if_neg (by omega), ← key, ← made, created _ (by exact place)]
  simp only [Bool.not_true, Bool.false_eq_true, if_false]
  set t : Station := { s with tracker := { s.tracker with
    context := s.tracker.context.map (fun (x : Consignment) => { x with nextIndex := n + 1, roster := addToRoster k x.roster })
    issued := s.tracker.issued + 1 } }.modifyItem ref (fun i => { i with key := some k }) with keyed
  have context : (s.tracker.context.map fun (x : Consignment) => { x with nextIndex := n }).map
      (fun (x : Consignment) => { x with nextIndex := n + 1, roster := addToRoster k x.roster }) =
      s.tracker.context.map (fun (x : Consignment) => { x with nextIndex := n + 1, roster := addToRoster k x.roster }) := by
    cases s.tracker.context <;> rfl
  have whole : Station.commitProvisional ref k (t.addEntry new) = (t.addEntry { new with committed := 1 }).modifyItem ref
      (fun i => { i with ordinal := some 1, corr := .committed }) := by
    have read : (t.addEntry new).entry k = some new := by
      rw [Station.entry, Station.addEntry, List.find?_append, ← Station.entry, show t.entry k = none from fresh]
      simp [made, newEntry]
    have written := t.writeEntry_addEntry (e := new) (f := fun x => { x with committed := max x.committed (commitOrdinal new.committed 0) })
      (by exact fresh) rfl
    rw [Station.commitProvisional, read]
    exact congrArg (Station.modifyItem ref _) written
  refine Eq.trans ?_ (whole.trans ?_)
  · simp only [Station.modifyContext, Station.addEntry, keyed, Station.modifyItem, context]
  · rw [keyed]
    have joined := Station.modifyItem_modifyItem
      ({ s with tracker := { s.tracker with
        context := s.tracker.context.map (fun (x : Consignment) => { x with nextIndex := n + 1, roster := addToRoster k x.roster })
        issued := s.tracker.issued + 1 } }.addEntry { new with committed := 1 }) ref (f := fun i => { i with key := some k })
        (fun i => { i with ordinal := some 1, corr := .committed }) fun _ => rfl
    exact joined

theorem Station.issueProvisional_of_last (ref : ItemRef) (index : s.freeIndex number 4096 c.nextIndex = 4095) :
    s.issueProvisional ref number stored c = (s.modifyContext fun (x : Consignment) => { x with nextIndex := 4095 }).markItem ref .noKey := by
  unfold Station.issueProvisional
  simp only [Config.lastProvisionalIndex, show 4095 + 1 = 4096 from rfl, index, le_refl, if_true]

theorem Station.issueProvisional_of_pinned (ref : ItemRef) (index : s.freeIndex number 4096 c.nextIndex = n) (below : n < 4095)
    (full : 4096 ≤ s.table.entries.length) (pinned : ∀ e ∈ s.table.entries, s.pinned e = true) :
    s.issueProvisional ref number stored c = ({ s with
      table := { s.table with counts := { s.table.counts with fullRefusals := s.table.counts.fullRefusals + 1 } }
      tracker := { s.tracker with context := s.tracker.context.map fun (x : Consignment) => { x with nextIndex := n } } }.raise .tableFull).markItem
        ref .tableFull := by
  have refused (t : Station) (e : Entry) (full : ¬ t.table.entries.length < 4096) (pinned : ∀ e ∈ t.table.entries, t.pinned e = true) :
      t.createEntry e = ({ t with table := { t.table with
        counts := { t.table.counts with fullRefusals := t.table.counts.fullRefusals + 1 } } }.raise .tableFull, false) := by
    have none : t.table.entries.find? (fun x => !t.pinned x) = none := List.find?_eq_none.mpr fun e listed => by simp [pinned e listed]
    rw [Station.createEntry, none]
    exact if_neg full
  unfold Station.issueProvisional
  simp only [Config.lastProvisionalIndex, show 4095 + 1 = 4096 from rfl, index]
  rw [if_neg (by omega), refused _ _ (by exact not_lt.mpr full) (by exact pinned)]
  rfl

end issue

/-! ### Matching, run once (R82, R83) -/

/-- The tests before the scan, the first that applies giving its mark: no open consignment of the item's, LISTEN-ONLY, the calibration
mark, an absent weight. -/
def Station.TestedBeforeScan (s : Station) (i : Item) (mark : Option TrackerMark) : Prop :=
  ((∀ c, s.tracker.context = some c → i.ref ∉ c.members) ∧ mark = some .noKey) ∨
  ∃ c, s.tracker.context = some c ∧ i.ref ∈ c.members ∧
    ((s.startup.state = .listenOnly ∧ mark = some .notActive) ∨
     (s.startup.state ≠ .listenOnly ∧ i.calMark = true ∧ mark = i.trackerMark) ∨
     (s.startup.state ≠ .listenOnly ∧ i.calMark = false ∧ i.grams = none ∧ mark = some .weightAbsent))

/-- A write of nothing but an item's wait and mark. -/
def Item.Marks (f : Item → Item) : Prop := ∀ k, f k = { k with matching := (f k).matching, trackerMark := (f k).trackerMark }

theorem Item.Marks.ref {f : Item → Item} (marks : Item.Marks f) (k : Item) : (f k).ref = k.ref := by rw [marks k]

/-- An item the tests before the scan decide stays as it is, but for the mark and the end of its wait. -/
theorem Station.runMatching_of_tested {ref : ItemRef} {i : Item} {mark : Option TrackerMark} (found : s.findItem ref = some i)
    (unkeyed : i.corr = .unkeyed) (tested : s.TestedBeforeScan i mark) :
    ∃ f : Item → Item, s.runMatching ref = s.modifyItem ref f ∧ Item.Marks f ∧
      f i = { i with matching := false, trackerMark := mark } := by
  have own := s.findItem_ref found
  have marked (m : TrackerMark) : (s.modifyItem ref fun x => { x with matching := false }).markItem ref m =
      s.modifyItem ref fun x => { x with matching := false, trackerMark := some m } :=
    s.modifyItem_modifyItem ref (f := fun x => { x with matching := false }) _ fun _ => rfl
  unfold Station.runMatching
  rw [found]
  dsimp only
  rw [if_neg (by simp [unkeyed])]
  rcases tested with ⟨closed, rfl⟩ | ⟨c, open_, member, rest⟩
  · refine ⟨fun k => { k with matching := false, trackerMark := some .noKey }, ?_, fun k => rfl, rfl⟩
    cases open_ : s.tracker.context with
    | none => exact marked .noKey
    | some c => exact (if_pos (own ▸ closed c open_)).trans (marked .noKey)
  · rw [open_]
    dsimp only
    rw [if_neg (by simpa using own ▸ member)]
    rcases rest with ⟨listens, rfl⟩ | ⟨ready, calibrates, rfl⟩ | ⟨ready, plain, absent, rfl⟩
    · exact ⟨fun k => { k with matching := false, trackerMark := some .notActive },
        (if_pos (s.listening_iff.mpr listens)).trans (marked .notActive), fun k => rfl, rfl⟩
    · exact ⟨_, (if_neg (mt s.listening_iff.mp ready)).trans (if_pos calibrates), fun k => rfl, rfl⟩
    · refine ⟨fun k => { k with matching := false, trackerMark := some .weightAbsent },
        (if_neg (mt s.listening_iff.mp ready)).trans ((if_neg (by simp [plain])).trans ?_), fun k => rfl, rfl⟩
      rw [absent]
      exact marked .weightAbsent

/-- An item the tests let through is matched by its weight. -/
theorem Station.runMatching_of_scan {ref : ItemRef} {i : Item} {c : Consignment} {grams : Nat} (found : s.findItem ref = some i)
    (unkeyed : i.corr = .unkeyed) (open_ : s.tracker.context = some c) (member : ref ∈ c.members)
    (ready : s.startup.state ≠ .listenOnly) (plain : i.calMark = false) (present : i.grams = some grams) :
    s.runMatching ref = (s.modifyItem ref fun x => { x with matching := false }).matchRoster i grams c := by
  unfold Station.runMatching
  rw [found]
  dsimp only
  rw [if_neg (by simp [unkeyed]), open_]
  dsimp only
  rw [if_neg (by simpa using member), present]
  exact (if_neg (mt s.listening_iff.mp ready)).trans (if_neg (by simp [plain]))

/-! ### What matching leaves of the item -/

/-- Matching writes an item's key, correlation state, ordinal and mark, and may end its wait; nothing else of it changes. -/
def Item.MatchedFrom (i j : Item) : Prop :=
  j = { i with key := j.key, corr := j.corr, ordinal := j.ordinal, trackerMark := j.trackerMark, matching := j.matching } ∧
    (j.matching = true → i.matching = true)

theorem Item.MatchedFrom.refl (i : Item) : i.MatchedFrom i := ⟨rfl, id⟩

theorem Item.MatchedFrom.trans {i j k : Item} (h : i.MatchedFrom j) (g : j.MatchedFrom k) : i.MatchedFrom k :=
  ⟨by rw [g.1, h.1], fun waits => h.2 (g.2 waits)⟩

/-- The item of a ref reads as matching may leave it. -/
def Station.Matches (s t : Station) : Prop := ∀ ref i, s.findItem ref = some i → ∃ j, t.findItem ref = some j ∧ i.MatchedFrom j

theorem Station.Matches.of_lane {s t : Station} (lane : t.lane = s.lane) : s.Matches t := fun ref i found =>
  ⟨i, by rw [Station.findItem, lane]; exact found, .refl i⟩

theorem Station.Matches.trans {s t u : Station} (h : s.Matches t) (g : t.Matches u) : s.Matches u := fun ref i found => by
  obtain ⟨j, foundToo, first⟩ := h ref i found
  obtain ⟨k, foundThird, second⟩ := g ref j foundToo
  exact ⟨k, foundThird, first.trans second⟩

theorem Station.modifyItem_matches (r : ItemRef) {f : Item → Item} (writes : ∀ i : Item, i.MatchedFrom (f i)) : s.Matches (s.modifyItem r f) := by
  have keeps (i : Item) : (f i).ref = i.ref := by rw [(writes i).1]
  intro ref i found
  by_cases own : ref = r
  · subst own
    exact ⟨f i, by rw [s.findItem_modifyItem _ _ fun k own => (keeps k).trans own, found]; rfl, writes i⟩
  · exact ⟨i, by rw [s.findItem_modifyItem_other r ref f keeps own, found], .refl i⟩

theorem Station.matches_of_frame {bs : List Block} {s t : Station} (h : Changes bs s t) (apart : Block.items ∉ bs) : s.Matches t :=
  fun ref i found => ⟨i, by rw [Station.findItem, h .items apart]; exact found, .refl i⟩

theorem Station.commitProvisional_matches (ref : ItemRef) (k : Key) : s.Matches (s.commitProvisional ref k) := by
  unfold Station.commitProvisional
  split
  · exact .of_lane rfl
  · exact (Station.matches_of_frame (s.writeEntry_changes k _) (by decide)).trans
      (Station.modifyItem_matches _ ref fun _ => by exact ⟨rfl, id⟩)

theorem Station.markItem_matches (ref : ItemRef) (m : TrackerMark) : s.Matches (s.markItem ref m) :=
  s.modifyItem_matches ref fun _ => by exact ⟨rfl, id⟩

theorem Station.issueProvisional_matches (ref : ItemRef) (number : Nat) (stored : Stored) (c : Consignment) :
    s.Matches (s.issueProvisional ref number stored c) := by
  unfold Station.issueProvisional
  dsimp only
  split
  · exact Station.markItem_matches _ ref _
  · split
    · exact (Station.matches_of_frame ((s.modifyContext_changes _).then (Station.createEntry_changes _ _) rfl rfl :
        Changes [.context, .entries, .tableCounts, .flags] s _) (by decide)).trans (Station.markItem_matches _ ref _)
    · exact ((Station.matches_of_frame (((s.modifyContext_changes _).then (Station.createEntry_changes _ _) rfl rfl :
        Changes [.context, .entries, .tableCounts, .flags] s _).then (Station.modifyContext_changes _ _) rfl rfl :
        Changes [.context, .entries, .tableCounts, .flags] s _) (by decide)).trans
        ((Station.modifyItem_matches _ ref fun _ => by exact ⟨rfl, id⟩).trans
          (Station.matches_of_frame (changes_trackerCounts _ _ _) (by decide)))).trans (Station.commitProvisional_matches _ ref _)

theorem Station.matchRoster_matches (i : Item) (grams : Nat) (c : Consignment) : s.Matches (s.matchRoster i grams c) := by
  unfold Station.matchRoster
  split
  · exact (((s.modifyItem_matches i.ref fun _ => by exact ⟨rfl, id⟩).trans
      (Station.matches_of_frame (Station.touch_changes _ _) (by decide))).trans
      (Station.matches_of_frame (changes_trackerCounts _ _ _) (by decide))).trans (Station.commitProvisional_matches _ _ _)
  · exact s.issueProvisional_matches _ _ _ _

/-- Matching first ends the wait. -/
theorem Station.runMatching_matches_ended {ref : ItemRef} {i : Item} (found : s.findItem ref = some i) :
    (s.modifyItem ref fun x => { x with matching := false }).Matches (s.runMatching ref) := by
  set t := s.modifyItem ref fun x => { x with matching := false } with ended
  unfold Station.runMatching
  rw [found]
  dsimp only
  rw [← ended]
  split
  · exact .of_lane rfl
  · split
    · exact t.markItem_matches ref _
    · split
      · exact t.markItem_matches ref _
      · split
        · exact t.markItem_matches ref _
        · split
          · exact .of_lane rfl
          · split
            · exact t.markItem_matches ref _
            · exact t.matchRoster_matches _ _ _

theorem Station.runMatching_matches (ref : ItemRef) : s.Matches (s.runMatching ref) := by
  cases found : s.findItem ref with
  | none =>
    rw [Station.runMatching, found]
    exact .of_lane rfl
  | some i => exact (s.modifyItem_matches ref (f := fun x => { x with matching := false }) fun _ => ⟨rfl, fun no => absurd no Bool.false_ne_true⟩).trans (s.runMatching_matches_ended found)

theorem Station.runMatching_item {ref : ItemRef} {i : Item} (found : s.findItem ref = some i) :
    ∃ j, (s.runMatching ref).findItem ref = some j ∧ i.MatchedFrom j ∧ j.matching = false := by
  have ended : (s.modifyItem ref fun x => { x with matching := false }).findItem ref = some { i with matching := false } := by
    rw [s.findItem_modifyItem _ _ fun _ own => by exact own, found]
    rfl
  obtain ⟨j, there, matched⟩ := s.runMatching_matches_ended found ref _ ended
  refine ⟨j, there, .trans ⟨rfl, fun no => absurd no Bool.false_ne_true⟩ matched, ?_⟩
  cases waits : j.matching with
  | false => rfl
  | true => exact absurd (matched.2 waits) Bool.false_ne_true

end Sys2Proof.Machine
end

section
/-! SUPPORT. Weight outcomes (R58 to R63): the record, the freed buffer, the end of a wait in matching and of a calibration, and the
statements on the scale close and on the completion of a weight. -/

namespace Sys2Proof.Machine

variable (s : Station)

/-! ### Pieces put together -/

section same

variable {x t : Station}

theorem tracker_of_same (context : Block.context.same x t) (counts : Block.trackerCounts.same x t) : t.tracker = x.tracker :=
by
  cases h : t.tracker
  cases g : x.tracker
  simp only [Block.same, h, g] at context counts
  rw [context, counts.1, counts.2]

theorem claims_of_same (tally : Block.tally.same x t) (counts : Block.claimCounts.same x t) : t.claims = x.claims :=
by
  cases h : t.claims
  cases g : x.claims
  simp only [Block.same, h, g] at tally counts
  rw [tally, counts]

theorem link_of_same (txQueue : Block.txQueue.same x t) (rxQueue : Block.rxQueue.same x t) (line : Block.line.same x t)
    (generator : Block.generator.same x t) (gate : Block.gate.same x t) (counts : Block.linkCounts.same x t) : t.link = x.link := by
  cases h : t.link
  cases g : x.link
  simp only [Block.same, h, g] at txQueue rxQueue line generator gate counts
  obtain ⟨sending, holding, chain, lineIdle, reception⟩ := line
  rw [txQueue, rxQueue, sending, holding, chain, lineIdle, reception, generator, gate, counts]

end same

/-- An item written in place reads as written. -/
theorem Station.findItem_written {ref : ItemRef} {i : Item} {f : Item → Item} (keeps : ∀ k : Item, (f k).ref = k.ref)
    (found : s.findItem ref = some i) : (s.modifyItem ref f).findItem ref = some (f i) := by
  rw [s.findItem_modifyItem ref f fun k own => (keeps k).trans own, found, Option.map_some]

/-! ### The end of a calibration (R69, R70) -/

/-- An absent weight ends a calibration as a removal does. -/
theorem Station.endCalibration_none (ref : ItemRef) : s.endCalibration ref none = s.endCalibrationOf ref true := by
  unfold Station.endCalibration Station.endCalibrationOf
  cases s.measurement.calibration with
  | chosen g r =>
    dsimp only
    by_cases own : r = ref
    · rw [if_pos own, if_pos own]
      rfl
    · rw [if_neg own, if_neg own]
  | _ => rfl

theorem Station.endCalibration_of_chosen {ref : ItemRef} {j : Item} {g : Nat} (net : Int) (found : s.findItem ref = some j)
    (chosen : s.measurement.calibration = .chosen g ref) :
    (s.endCalibration ref (some net)).measurement.calibration = .none ∧
      if j.unsteady = false ∧ 0 < net ∧ 1 ≤ (g * 1024 + net / 2) / net ∧ (g * 1024 + net / 2) / net ≤ 65535 then
        (s.endCalibration ref (some net)).measurement.factor = ((g * 1024 + net / 2) / net).toNat ∧
          (s.endCalibration ref (some net)).flag .calDone = true
      else (s.endCalibration ref (some net)).measurement.factor = s.measurement.factor ∧
        (s.endCalibration ref (some net)).flag .calFailed = true := by
  have ended : s.endCalibration ref (some net) = match newFactor g j.unsteady (some net) with
      | some f => { s with measurement := { s.measurement with calibration := .none, factor := f } }.raise .calDone
      | none => { s with measurement := { s.measurement with calibration := .none } }.raise .calFailed := by
    rw [Station.endCalibration, chosen]
    dsimp only
    rw [if_pos rfl, found] <;> rfl
  rw [ended, newFactor, calibratedFactor]
  cases j.unsteady with
  | true => simp [Station.flag_raise]
  | false =>
    by_cases fits : 0 < net ∧ 1 ≤ (g * 1024 + net / 2) / net ∧ (g * 1024 + net / 2) / net ≤ 65535
    · simp [fits, Station.flag_raise]
    · simp [fits, Station.flag_raise]

theorem Station.endCalibration_of_other {ref : ItemRef} (net : Option Int) (other : ∀ g, s.measurement.calibration ≠ .chosen g ref) :
    s.endCalibration ref net = s := by
  unfold Station.endCalibration
  split
  next g r chosen =>
    refine if_neg fun own => other g ?_
    rw [chosen, own]
  next => rfl

theorem Station.findItem_of_items {s t : Station} (h : Block.items.same s t) (ref : ItemRef) : t.findItem ref = s.findItem ref := by
  rw [Station.findItem, h, Station.findItem]

/-! ### The weight outcome -/

/-- The station with a weight written and the item's buffer freed. -/
def Station.weighed (ref : ItemRef) (w : WeightRecord) (s : Station) : Station :=
  (s.modifyItem ref (fun i => { i with weight := some w })).freeBuffer ref

theorem Station.findItem_weighed {ref : ItemRef} {i : Item} (w : WeightRecord) (found : s.findItem ref = some i) :
    (s.weighed ref w).findItem ref = some { i with weight := some w } :=
  s.findItem_written (f := fun k => { k with weight := some w }) (fun _ => rfl) found

theorem Station.weightOutcome_eq (ref : ItemRef) (w : WeightRecord) (net : Option Int) :
    s.weightOutcome ref w net = ((s.weighed ref w).weightArrives ref).endCalibration ref net := rfl

theorem Station.weightArrives_of_no_wait {ref : ItemRef} {i : Item} (found : s.findItem ref = some i) (still : i.matching = false) :
    s.weightArrives ref = s := by
  rw [Station.weightArrives, found]
  exact if_neg (by simp [still])

theorem Station.weightArrives_of_wait {ref : ItemRef} {i : Item} (found : s.findItem ref = some i) (waits : i.matching = true) :
    s.weightArrives ref = s.runMatching ref := by
  rw [Station.weightArrives, found]
  exact if_pos waits

theorem Station.weightArrives_matches (ref : ItemRef) : s.Matches (s.weightArrives ref) := by
  unfold Station.weightArrives
  split
  · exact .of_lane rfl
  · split
    · exact s.runMatching_matches ref
    · exact .of_lane rfl

/-- The mark that the tests before the scan give an item with no weight. -/
def Station.absentMark (ref : ItemRef) (i : Item) (s : Station) : Option TrackerMark :=
  if ∀ c, s.tracker.context = some c → ref ∉ c.members then some .noKey
  else if s.startup.state = .listenOnly then some .notActive
  else if i.calMark then i.trackerMark else some .weightAbsent

theorem Station.testedBeforeScan_of_absent {ref : ItemRef} {i : Item} (own : i.ref = ref) (absent : i.grams = none) :
    s.TestedBeforeScan i (s.absentMark ref i) := by
  subst own
  unfold Station.absentMark
  by_cases closed : ∀ c, s.tracker.context = some c → i.ref ∉ c.members
  · exact .inl ⟨closed, if_pos closed⟩
  · rw [if_neg closed]
    simp only [not_forall, not_not] at closed
    obtain ⟨c, open_, member⟩ := closed
    refine .inr ⟨c, open_, member, ?_⟩
    by_cases listens : s.startup.state = .listenOnly
    · exact .inl ⟨listens, if_pos listens⟩
    · rw [if_neg listens]
      cases calibrates : i.calMark with
      | true => exact .inr (.inl ⟨listens, rfl, if_pos rfl⟩)
      | false => exact .inr (.inr ⟨listens, rfl, absent, if_neg Bool.false_ne_true⟩)

/-- A weight that is absent ends a wait with a mark, and matches nothing. -/
theorem Station.weightArrives_of_absent {ref : ItemRef} {i : Item} (found : s.findItem ref = some i) (absent : i.grams = none) :
    ∃ f : Item → Item, s.weightArrives ref = s.modifyItem ref f ∧ Item.Marks f ∧
      (i.matching = true → i.corr = .unkeyed → (f i).matching = false ∧ (f i).trackerMark = s.absentMark ref i) := by
  cases waits : i.matching with
  | false =>
    refine ⟨id, ?_, fun _ => rfl, fun no => absurd no Bool.false_ne_true⟩
    rw [s.weightArrives_of_no_wait found waits, Station.modifyItem]
    simp
  | true =>
    rw [s.weightArrives_of_wait found waits]
    by_cases unkeyed : i.corr = .unkeyed
    · obtain ⟨f, ran, keeps, item⟩ := s.runMatching_of_tested found unkeyed
        (s.testedBeforeScan_of_absent (s.findItem_ref found) absent)
      exact ⟨f, ran, keeps, fun _ _ => by rw [item]; exact ⟨rfl, rfl⟩⟩
    · refine ⟨fun k => { k with matching := false }, ?_, fun _ => rfl, fun _ is => absurd is unkeyed⟩
      unfold Station.runMatching
      rw [found]
      exact if_pos unkeyed

/-- What an absent weight does: the record, the buffer, the calibration and a wait. -/
theorem Station.weightOutcome_of_absent {ref : ItemRef} {i : Item} (cause : AbsenceCause) (found : s.findItem ref = some i) :
    ∃ j, (s.weightOutcome ref (.absent cause) none).findItem ref = some j ∧
      j = { i with weight := some (.absent cause), matching := j.matching, trackerMark := j.trackerMark } ∧
      (s.weightOutcome ref (.absent cause) none).measurement.bufferA = (s.measurement.freeBuffer ref).bufferA ∧
      (s.weightOutcome ref (.absent cause) none).measurement.bufferB = (s.measurement.freeBuffer ref).bufferB ∧
      s.CalibrationFails (s.weightOutcome ref (.absent cause) none) ref ∧
      (s.weightOutcome ref (.absent cause) none).table = s.table ∧
      (s.weightOutcome ref (.absent cause) none).tracker = s.tracker ∧
      (i.matching = true → i.corr = .unkeyed → j.matching = false ∧ j.trackerMark = s.absentMark ref i) := by
  have weighed := s.findItem_weighed (.absent cause) found
  obtain ⟨f, arrived, keeps, wait⟩ := (s.weighed ref (.absent cause)).weightArrives_of_absent weighed rfl
  set u := (s.weighed ref (.absent cause)).modifyItem ref f with written
  have ended : s.weightOutcome ref (.absent cause) none = u.endCalibrationOf ref true := by
    rw [s.weightOutcome_eq, arrived, Station.endCalibration_none]
  have frame := u.endCalibrationOf_changes ref true
  have there : u.findItem ref = some (f { i with weight := some (.absent cause) }) := by
    rw [written, Station.findItem_written _ keeps.ref weighed]
  have fails := u.endCalibrationOf_fails ref
  obtain ⟨bufferA, bufferB⟩ := frame .buffers (by decide)
  rw [ended]
  refine ⟨f { i with weight := some (.absent cause) }, (Station.findItem_of_items (frame .items (by decide)) ref).trans there, keeps _, bufferA, bufferB,
    fails.of_same (by simp [written, Station.weighed, Station.freeBuffer, Measurement.freeBuffer])
      (by simp [written, Station.weighed, Station.freeBuffer, Measurement.freeBuffer]) rfl, ?_, ?_, wait⟩
  · unfold Station.endCalibrationOf
    split
    · split <;> rfl
    · rfl
  · unfold Station.endCalibrationOf
    split
    · split <;> rfl
    · rfl

/-! ### The scale close (R58) -/

theorem Station.bufferOf_startComputation {ref : ItemRef} {b : SampleBuffer} (c : Computation) (holds : s.measurement.bufferOf ref = some b) :
    (s.startComputation ref c).measurement.bufferOf ref = some { b with computing := some c } := by
  unfold Measurement.bufferOf at holds
  simp only [Station.startComputation, Measurement.modifyBuffer]
  split_ifs at holds ⊢ with first second
  · cases holds
    simp [Measurement.bufferOf, first]
  · cases holds
    simp [Measurement.bufferOf, first, second]

/-- Settles O16: the tests in their order, an absent weight by its outcome and a computation as it starts. -/
theorem scaleClose : Obligations.ScaleClose := by
  unfold Obligations.ScaleClose
  intro x q ref i t found trail opened due absent
  set u := x.modifyItem ref (Item.closeWindow .scale) with closed
  have own : i.ref = ref := x.findItem_ref found
  have item : u.findItem ref = some (i.closeWindow .scale) :=
    x.findItem_written (f := Item.closeWindow .scale) (fun _ => rfl) found
  have runs : exec (.windowClose ref .scale) ⟨x, q⟩ = .next ⟨u.scaleClose ref, q⟩ := by
    rw [exec_windowClose, x.windowCloses_due (h := .scale) found trail opened due, Station.deliverClose, own]
  have outcome (cause : AbsenceCause) (short : Count) (t : Station) (counted : t = u.countMeasure fun c =>
      { c with shortWeights := c.shortWeights + short }) (is : u.scaleClose ref = t.weightOutcome ref (.absent cause) none) :
      absent cause short := by
    have there : t.findItem ref = some (i.closeWindow .scale) := by rw [counted, Station.countMeasure_findItem, item]
    obtain ⟨j, foundToo, kept, bufferA, bufferB, fails, table, -, wait⟩ := t.weightOutcome_of_absent cause there
    have measurement : t.measurement = { x.measurement with
        counts := { x.measurement.counts with shortWeights := x.measurement.counts.shortWeights + short } } := by rw [counted]; rfl
    have buffers : (t.measurement.freeBuffer ref).bufferA = (x.measurement.freeBuffer ref).bufferA ∧
        (t.measurement.freeBuffer ref).bufferB = (x.measurement.freeBuffer ref).bufferB := by
      rw [measurement]
      unfold Measurement.freeBuffer Measurement.modifyBuffer
      dsimp only
      split_ifs <;> exact ⟨rfl, rfl⟩
    refine ⟨_, j, by rw [runs, is], foundToo, by rw [kept], by rw [kept]; rfl, bufferA.trans buffers.1, bufferB.trans buffers.2, ?_,
      fails.of_same (by rw [measurement]) (by rw [measurement]) (by rw [counted]; rfl), by rw [kept]; rfl, by rw [kept]; rfl,
      table.trans (by rw [counted]; rfl), fun waits unkeyed => ?_⟩
    · rw [Station.weightOutcome_none_changes t ref _ .measureCounts (by decide), measurement]
    · have startup : t.startup = x.startup ∧ t.tracker = x.tracker := by rw [counted]; exact ⟨rfl, rfl⟩
      obtain ⟨ended, mark⟩ := wait waits unkeyed
      refine ⟨ended, mark.trans ?_⟩
      rw [Station.absentMark, startup.1, startup.2]
      rfl
  have plain : u = u.countMeasure fun c => { c with shortWeights := c.shortWeights + 0 } := by
    rw [show (fun c : MeasureCounts => { c with shortWeights := c.shortWeights + 0 }) = id from
      funext fun c => congrArg (fun n => { c with shortWeights := n }) (BitVec.add_zero c.shortWeights)]
    rfl
  have tests : u.scaleClose ref = if i.crowdMarks.scale then u.weightOutcome ref (.absent .crowded) none
      else if i.bufferRefused then u.weightOutcome ref (.absent .buffer) none
      else match x.measurement.bufferOf ref with
        | none => u.weightOutcome ref (.absent .noSamples) none
        | some b =>
          if b.samples.length < x.cfg.settleCount + 2 then
            (u.countMeasure (fun c => { c with shortWeights := c.shortWeights + 1 })).weightOutcome ref (.absent .tooFewSamples) none
          else match x.measurement.tare with
            | none => u.weightOutcome ref (.absent .noTare) none
            | some t => u.startComputation ref { tare := t, factor := x.measurement.factor } := by
    rw [Station.scaleClose, item] <;> rfl
  split_ifs with crowded refused
  · exact outcome .crowded 0 u plain (by rw [tests, if_pos crowded])
  · exact outcome .buffer 0 u plain (by rw [tests, if_neg crowded, if_pos refused])
  · rw [if_neg crowded, if_neg refused] at tests
    cases buffer : x.measurement.bufferOf ref with
    | none => exact outcome .noSamples 0 u plain (by rw [tests, buffer])
    | some b =>
      rw [buffer] at tests
      dsimp only at tests ⊢
      split_ifs with few
      · exact outcome .tooFewSamples 1 _ rfl (by rw [tests, if_pos few])
      · rw [if_neg few] at tests
        cases tare : x.measurement.tare with
        | none => exact outcome .noTare 0 u plain (by rw [tests, tare])
        | some tare' =>
          have starts : u.scaleClose ref = u.startComputation ref { tare := tare', factor := x.measurement.factor } := by
            rw [tests, tare]
          refine ⟨u.startComputation ref ⟨tare', x.measurement.factor⟩, _, by rw [runs, starts], item, rfl, rfl, u.bufferOf_startComputation _ buffer, ?_, ?_⟩
          · rw [Station.startComputation_changes u ref _ .measureCounts (by decide)]
            rfl
          · rw [Station.startComputation_changes u ref _ .factor (by decide)]
            rfl

/-! ### The completion of a weight (R59 to R63, R69) -/

theorem exec_weightCompletion (ref : ItemRef) (x : Station) (q : List Instr) :
    exec (.weightCompletion ref) ⟨x, q⟩ = .next ⟨x.weightCompletes ref, q⟩ := rfl

theorem Station.weightCompletes_of_computing {ref : ItemRef} {b : SampleBuffer} {c : Computation}
    (holds : s.measurement.bufferOf ref = some b) (computes : b.computing = some c) :
    s.weightCompletes ref = s.weightOutcome ref (computeWeight s.cfg.settleCount s.cfg.settleBand c b.samples).1
      (some (computeWeight s.cfg.settleCount s.cfg.settleBand c b.samples).2) := by
  rw [Station.weightCompletes, holds]
  dsimp only
  rw [computes]

/-- Settles O32: the end of the wait by the tests and the scan, and the end of the calibration behind it. -/
theorem weightCompletion : Obligations.WeightCompletion := by
  unfold Obligations.WeightCompletion
  intro x q ref i b c found holds computes w unsteady
  have own : i.ref = ref := x.findItem_ref found
  set v := x.weighed ref w.1 with weighed
  set u := v.weightArrives ref with arrived
  set i' : Item := { i with weight := some w.1 } with written
  have item : v.findItem ref = some i' := x.findItem_weighed w.1 found
  obtain ⟨j, there, matched⟩ := v.weightArrives_matches ref ref i' item
  change u.findItem ref = some j at there
  have ended := u.endCalibration_changes ref (some w.2)
  set y := u.endCalibration ref (some w.2) with done
  have arrives := v.weightArrives_changes ref
  have foundToo : y.findItem ref = some j := (Station.findItem_of_items (ended .items (by decide)) ref).trans there
  have weight : j.weight = some w.1 := by rw [matched.1]
  have gap : j.gap = i.gap := by rw [matched.1]
  have unsteadyNow (grams : Nat) (spread below : Bool) (present : w.1 = .present grams spread below) : i'.unsteady = unsteady := by
    simp only [unsteady, written, Item.unsteady, present]
  have sameTracker : y.tracker = u.tracker := tracker_of_same (ended .context (by decide)) (ended .trackerCounts (by decide))
  have sameTable : y.table = u.table := table_of_same (ended .entries (by decide)) (ended .tableCounts (by decide))
  have frame : Changes [.items, .buffers, .factor, .calibration, .context, .trackerCounts, .entries, .tableCounts, .flags] x y :=
    x.weightOutcome_changes ref w.1 (some w.2)
  refine ⟨y, j, ?runs, foundToo, weight, gap, ?bufferA, fun still => ?noWait, fun waits unkeyed => ?wait, ?bufferB, ?tare, ?calibration⟩
  case runs => rw [exec_weightCompletion, x.weightCompletes_of_computing holds computes]; rfl
  case bufferA => exact (ended .buffers (by decide)).1.trans (arrives .buffers (by decide)).1
  case bufferB => exact (ended .buffers (by decide)).2.trans (arrives .buffers (by decide)).2
  case tare => exact (frame .tare (by decide)).1
  case noWait =>
    have same : u = v := v.weightArrives_of_no_wait item still
    rw [same, item] at there
    cases there
    exact ⟨rfl, rfl, rfl, by rw [sameTable, same]; rfl, by rw [sameTracker, same]; rfl⟩
  case wait =>
    have runs : u = v.runMatching ref := v.weightArrives_of_wait item waits
    have tested {mark : Option TrackerMark} (before : v.TestedBeforeScan i' mark) :
        j.matching = false ∧ j.trackerMark = mark ∧ j.corr = .unkeyed ∧ j.key = i.key ∧ y.table = x.table := by
      obtain ⟨f, ran, keeps, is⟩ := v.runMatching_of_tested item unkeyed before
      rw [runs, ran, v.findItem_written keeps.ref item] at there
      cases there
      rw [is, sameTable, runs, ran]
      exact ⟨rfl, rfl, unkeyed, rfl, rfl⟩
    have matchedNow (grams : Nat) (spread below : Bool) (present : w.1 = .present grams spread below) (k : Consignment)
        (open_ : x.tracker.context = some k) (member : ref ∈ k.members) (ready : x.startup.state ≠ .listenOnly)
        (plain : i.calMark = false) : u = (v.modifyItem ref fun x => { x with matching := false }).matchRoster i' grams k :=
      runs.trans (v.runMatching_of_scan item unkeyed open_ member ready plain (by simp [Item.grams, written, present]))
    have reads {t : Station} {k : Key} {n : Nat} (is : u = t.modifyItem ref (Item.matched k n))
        (items : t.lane = (v.modifyItem ref fun x => { x with matching := false }).lane) :
        j = Item.matched k n { i' with matching := false } := by
      have before : t.findItem ref = some { i' with matching := false } := by
        rw [Station.findItem, items]
        exact v.findItem_written (f := fun x => { x with matching := false }) (fun _ => rfl) item
      rw [is, t.findItem_written (f := Item.matched k n) (fun _ => rfl) before] at there
      exact (Option.some.inj there).symm
    refine ⟨?ended, ?closed, fun k open_ member => ⟨?listens, ?calibrates, fun ready plain grams spread below present => ?scan⟩⟩
    case ended =>
      obtain ⟨j', there', -, stops⟩ := v.runMatching_item item
      rw [runs] at there
      exact (Option.some.inj (there.symm.trans there')) ▸ stops
    case closed => exact fun closed => (tested (.inl ⟨own ▸ closed, rfl⟩)).2
    case listens => exact fun listens => (tested (.inr ⟨k, open_, own ▸ member, .inl ⟨listens, rfl⟩⟩)).2
    case calibrates => exact fun ready calibrates => (tested (.inr ⟨k, open_, own ▸ member, .inr (.inl ⟨ready, calibrates, rfl⟩)⟩)).2
    case scan =>
      intro passes key
      have scans := matchedNow grams spread below present k open_ member ready plain
      set v' := v.modifyItem ref fun x => { x with matching := false } with stopped
      have passesNow (a : Key) : v'.Passes grams i'.unsteady i'.thickness a ↔ passes a := by
        rw [unsteadyNow grams spread below present]
        exact Iff.rfl
      have fromRef : i'.ref = ref := own
      refine ⟨fun fails below4095 short stamped place fresh => ?issued, fun newer older found' e scan fails pass entry distinct => ?match_⟩
      case issued =>
        have none := v'.scanRoster_eq_none (roster := k.roster) fun a listed => mt (passesNow a).mp (fails a listed)
        have index : v'.freeIndex k.number 4096 k.nextIndex = k.nextIndex :=
          v'.freeIndex_eq k.number (by omega) le_rfl (by omega) (fun m above below => absurd above (by omega)) (.inr fresh)
        have issued := v'.issueProvisional_of_place (stored := ⟨grams, unsteady, i.thickness⟩) ref index below4095 fresh place
        have number : i'.consignment.getD k.number = k.number := congrArg (Option.getD · k.number) stamped
        have runsIssue : v'.matchRoster i' grams k = v'.issueProvisional ref k.number ⟨grams, unsteady, i.thickness⟩ k := by
          rw [Station.matchRoster, none, fromRef, unsteadyNow grams spread below present, number]
        have is := scans.trans (runsIssue.trans issued)
        have item := reads is rfl
        refine ⟨by rw [item]; rfl, by rw [item]; rfl, by rw [item]; rfl, ?_, ?_, by rw [sameTracker, is]; rfl⟩
        · have added : y.table.entries = x.table.entries ++ [⟨key, 1, .known, [], [], false, some ⟨grams, unsteady, i.thickness⟩⟩] := by
            rw [sameTable, is]; rfl
          rw [Station.entry, added, List.find?_append, ← Station.entry, fresh]
          simp
        · rw [sameTracker, is, ← addToRoster_eq _ short]
          exact congrArg (Option.map _) open_
      case match_ =>
        intro ordinal
        have matched := v'.matchRoster_of_match (grams := grams) (i := i') scan (fun a listed => mt (passesNow a).mp (fails a listed))
          ((passesNow found').mpr pass) entry distinct
        rw [fromRef] at matched
        have is := scans.trans matched
        have item := reads is rfl
        refine ⟨by rw [item]; rfl, by rw [item]; rfl, by rw [item]; rfl, by rw [sameTable, is]; rfl, by rw [sameTracker, is]; rfl, ?_, ?_⟩
        · exact link_of_same (frame .txQueue (by decide)) (frame .rxQueue (by decide)) (frame .line (by decide))
            (frame .generator (by decide)) (frame .gate (by decide)) (frame .linkCounts (by decide))
        · exact claims_of_same (frame .tally (by decide)) (frame .claimCounts (by decide))
  case calibration =>
    have calibration : u.measurement.calibration = x.measurement.calibration :=
      (show Block.calibration.same v u from arrives .calibration (by decide)).trans
        (by simp [weighed, Station.weighed, Station.freeBuffer, Measurement.freeBuffer])
    have factor : u.measurement.factor = x.measurement.factor := (show Block.factor.same v u from arrives .factor (by decide)).trans
      (by simp [weighed, Station.weighed, Station.freeBuffer, Measurement.freeBuffer])
    have other (none : ∀ g, x.measurement.calibration ≠ .chosen g ref) :
        y.measurement.factor = x.measurement.factor ∧ y.measurement.calibration = x.measurement.calibration := by
      rw [done, u.endCalibration_of_other _ (by rw [calibration]; exact none)]
      exact ⟨factor, calibration⟩
    cases chosen : x.measurement.calibration with
    | none => exact ⟨(other (by simp [chosen])).1, (other (by simp [chosen])).2.trans chosen⟩
    | pending g => exact ⟨(other (by simp [chosen])).1, (other (by simp [chosen])).2.trans chosen⟩
    | chosen g r =>
      dsimp only
      by_cases mine : r = ref
      · subst mine
        have finished := u.endCalibration_of_chosen w.2 there (calibration.trans chosen)
        rw [factor] at finished
        rw [if_pos rfl]
        have same : j.unsteady = unsteady := by
          rw [Item.unsteady, gap, weight]
          refine congrArg (i.gap || ·) ?_
          cases w.1 <;> rfl
        rw [same] at finished
        exact finished
      · rw [if_neg mine, ← chosen]
        exact other fun g' is => mine (Calibration.chosen.inj (chosen.symm.trans is)).2

end Sys2Proof.Machine
end

section
/-! SUPPORT. The identifier close (sections 3.6, 3.7, 5.3): what the second reader's close runs, the stamp, a key taken, and the statement
on what becomes of the item. -/

namespace Sys2Proof.Machine

variable (s : Station)

/-! ### The second reader's close (R11, R48 to R50) -/

/-- An item with its outcome written and the candidates gone. -/
def Item.withOutcome (o : IdOutcome) (key : Option Key) (misread : Bool) (i : Item) : Item :=
  { i with slot0 := none, slot1 := none, outcome := some o, key := if key.isSome then key else i.key, misread := i.misread || misread }

/-- The station with a reader's window closed and the item's outcome written. -/
def Station.identified (ref : ItemRef) (h : Head) (o : IdOutcome) (key : Option Key) (misread : Bool) (s : Station) : Station :=
  s.modifyItem ref (fun i => (i.closeWindow h).withOutcome o key misread)

theorem Station.writeOutcome_closed (ref : ItemRef) (h : Head) (o : IdOutcome) (key : Option Key) (misread : Bool) :
    (s.modifyItem ref (Item.closeWindow h)).writeOutcome ref o key misread = s.identified ref h o key misread :=
  s.modifyItem_modifyItem ref (f := Item.closeWindow h) _ fun _ => rfl

theorem Station.findItem_identified {ref : ItemRef} {i : Item} (h : Head) (o : IdOutcome) (key : Option Key) (misread : Bool)
    (found : s.findItem ref = some i) :
    (s.identified ref h o key misread).findItem ref = some ((i.closeWindow h).withOutcome o key misread) :=
  s.findItem_written (f := fun i => (i.closeWindow h).withOutcome o key misread) (fun _ => rfl) found

section closes

variable {s} {ref : ItemRef} {h : Head} {i : Item}

theorem Station.SecondReaderCloses.runs (closes : s.SecondReaderCloses ref h i) :
    s.windowCloses ref h = (s.modifyItem ref (Item.closeWindow h)).identifierClose ref false := by
  obtain ⟨t, trail, due⟩ := closes.due
  rw [s.windowCloses_due closes.item trail closes.closes due]
  have own : i.ref = ref := s.findItem_ref closes.item
  rcases closes.second with ⟨rfl, before⟩ | ⟨rfl, before⟩ <;> rw [Station.deliverClose, if_pos before, own]

theorem Station.SecondReaderCloses.closed (closes : s.SecondReaderCloses ref h i) :
    (s.modifyItem ref (Item.closeWindow h)).findItem ref = some (i.closeWindow h) :=
  s.findItem_written (f := Item.closeWindow h) (fun _ => rfl) closes.item

theorem Station.SecondReaderCloses.of_crowded (closes : s.SecondReaderCloses ref h i)
    (crowded : i.crowdMarks.reader0 = true ∨ i.crowdMarks.reader1 = true) :
    s.windowCloses ref h = (s.identified ref h (.refused false) none false).stampItem ref false := by
  rw [closes.runs, Station.identifierClose, closes.closed]
  refine (if_pos ?_).trans (congrArg (Station.stampItem ref false) (s.writeOutcome_closed ref h _ _ _))
  show (false || i.crowdMarks.reader0 || i.crowdMarks.reader1) = true
  rcases crowded with mark | mark <;> simp [mark]

section clear

variable (closes : s.SecondReaderCloses ref h i) (clear0 : i.crowdMarks.reader0 = false) (clear1 : i.crowdMarks.reader1 = false)

include closes clear0 clear1

theorem Station.SecondReaderCloses.of_clear : s.windowCloses ref h =
    match reconcile (slotVerdict i.slot0) (slotVerdict i.slot1) with
    | .keyed k => ((s.identified ref h .keyed (some k) i.holdsMisread).stampItem ref false).takeKey ref k
    | .slip x => (s.identified ref h .slip none false).takeSlip x
    | .unidentified => (s.identified ref h .unidentified none i.holdsMisread).stampItem ref true
    | .ambiguous => { s.identified ref h (.refused true) none false with
        keyCounts := { s.keyCounts with ambiguous := s.keyCounts.ambiguous + 1 } }.stampItem ref false := by
  have clear : ¬ (false || i.crowdMarks.reader0 || i.crowdMarks.reader1) = true := by simp [clear0, clear1]
  rw [closes.runs, Station.identifierClose, closes.closed]
  refine (if_neg clear).trans ?_
  simp only [s.writeOutcome_closed]
  rfl

theorem Station.SecondReaderCloses.of_keyed {k : Key} (is : reconcile (slotVerdict i.slot0) (slotVerdict i.slot1) = .keyed k) :
    s.windowCloses ref h = ((s.identified ref h .keyed (some k) i.holdsMisread).stampItem ref false).takeKey ref k := by
  rw [closes.of_clear clear0 clear1, is]

theorem Station.SecondReaderCloses.of_slip {x : Slip} (is : reconcile (slotVerdict i.slot0) (slotVerdict i.slot1) = .slip x) :
    s.windowCloses ref h = (s.identified ref h .slip none false).takeSlip x := by
  rw [closes.of_clear clear0 clear1, is]

theorem Station.SecondReaderCloses.of_unidentified (is : reconcile (slotVerdict i.slot0) (slotVerdict i.slot1) = .unidentified) :
    s.windowCloses ref h = (s.identified ref h .unidentified none i.holdsMisread).stampItem ref true := by
  rw [closes.of_clear clear0 clear1, is]

theorem Station.SecondReaderCloses.of_ambiguous (is : reconcile (slotVerdict i.slot0) (slotVerdict i.slot1) = .ambiguous) :
    s.windowCloses ref h = { s.identified ref h (.refused true) none false with
        keyCounts := { s.keyCounts with ambiguous := s.keyCounts.ambiguous + 1 } }.stampItem ref false := by
  rw [closes.of_clear clear0 clear1, is]

end clear

end closes

/-! ### The stamp (R77) -/

/-- The station with an item stamped and counted in the open context. -/
def Station.stamped (ref : ItemRef) (c : Consignment) (s : Station) : Station :=
  (s.modifyItem ref (fun i => { i with consignment := some c.number })).modifyContext
    (fun x => { x with counted := min 65535 (c.counted + 1), members := x.members ++ [ref] })

theorem Station.findItem_stamped {ref : ItemRef} {i : Item} (c : Consignment) (found : s.findItem ref = some i) :
    (s.stamped ref c).findItem ref = some { i with consignment := some c.number } :=
  s.findItem_written (f := fun i => { i with consignment := some c.number }) (fun _ => rfl) found

section stampItem

variable {ref : ItemRef} {c : Consignment}

theorem Station.stampItem_of_none (unidentified : Bool) (none : s.tracker.context = none) :
    s.stampItem ref unidentified = if unidentified then s.markItem ref .noKey else s := by
  rw [Station.stampItem, none]

theorem Station.stampItem_of_open (unidentified : Bool) (open_ : s.tracker.context = some c)
    (more : c.declared = 0 ∨ min 65535 (c.counted + 1) ≠ c.declared) :
    s.stampItem ref unidentified = if unidentified then (s.stamped ref c).takeIntoMatching ref else s.stamped ref c := by
  rw [Station.stampItem, open_]
  refine if_neg fun full => ?_
  rcases more with undeclared | short
  · exact full.1 undeclared
  · exact short full.2

theorem Station.stampItem_of_last (unidentified : Bool) (open_ : s.tracker.context = some c) (declared : c.declared ≠ 0)
    (last : min 65535 (c.counted + 1) = c.declared) : s.stampItem ref unidentified =
      (if unidentified then (s.stamped ref c).takeIntoMatching ref else s.stamped ref c).closeContext .complete := by
  rw [Station.stampItem, open_]
  exact if_pos ⟨declared, last⟩

/-- The stamp of an item that is not taken into matching writes its consignment alone. -/
theorem Station.findItem_stampItem_identified {i : Item} (found : s.findItem ref = some i) :
    (s.stampItem ref false).findItem ref = some { i with consignment := match s.tracker.context with
      | some c => some c.number
      | none => i.consignment } := by
  cases open_ : s.tracker.context with
  | none =>
    rw [s.stampItem_of_none false open_]
    exact found
  | some c =>
    have stamped := s.findItem_stamped c found
    by_cases more : c.declared = 0 ∨ min 65535 (c.counted + 1) ≠ c.declared
    · rw [s.stampItem_of_open false open_ more]
      exact stamped
    · rw [not_or, not_not] at more
      rw [s.stampItem_of_last false open_ more.1 more.2]
      exact (Station.findItem_of_items (Station.closeContext_changes _ _ .items (by decide)) ref).trans stamped

theorem Station.takeIntoMatching_of_weight {i : Item} (found : s.findItem ref = some i) (weighs : i.weight.isSome = true) :
    s.takeIntoMatching ref = s.runMatching ref := by
  rw [Station.takeIntoMatching, found]
  exact if_pos weighs

theorem Station.takeIntoMatching_of_no_weight {i : Item} (found : s.findItem ref = some i) (none : i.weight = none) :
    s.takeIntoMatching ref = s.modifyItem ref (fun x => { x with matching := true }) := by
  rw [Station.takeIntoMatching, found]
  exact if_neg (by simp [none])

/-- What being taken into matching may write of an item. -/
theorem Station.findItem_takeIntoMatching {i : Item} (found : s.findItem ref = some i) :
    ∃ j, (s.takeIntoMatching ref).findItem ref = some j ∧
      j = { i with key := j.key, corr := j.corr, ordinal := j.ordinal, trackerMark := j.trackerMark, matching := j.matching } ∧
      (i.weight = none → j = { i with matching := true }) ∧ (i.weight.isSome = true → j.matching = false) := by
  by_cases weighs : i.weight.isSome = true
  · rw [s.takeIntoMatching_of_weight found weighs]
    obtain ⟨j, there, matched, ended⟩ := s.runMatching_item found
    exact ⟨j, there, matched.1, fun none => by simp [none] at weighs, fun _ => ended⟩
  · rw [s.takeIntoMatching_of_no_weight found (by simpa using weighs)]
    exact ⟨{ i with matching := true }, s.findItem_written (f := fun x => { x with matching := true }) (fun _ => rfl) found, rfl,
      fun _ => rfl, fun weighs' => absurd weighs' weighs⟩

/-- What the stamp of an unidentified item may write of it. -/
theorem Station.findItem_stampItem_unidentified {i : Item} (found : s.findItem ref = some i) :
    ∃ j, (s.stampItem ref true).findItem ref = some j ∧
      j = { i with
        consignment := match s.tracker.context with
          | some c => some c.number
          | none => i.consignment
        key := j.key, corr := j.corr, ordinal := j.ordinal, trackerMark := j.trackerMark, matching := j.matching } ∧
      (i.weight = none → j.key = i.key) := by
  cases open_ : s.tracker.context with
  | none =>
    rw [s.stampItem_of_none true open_, if_pos rfl]
    exact ⟨{ i with trackerMark := some .noKey }, s.findItem_written (f := fun x => { x with trackerMark := some .noKey }) (fun _ => rfl) found,
      rfl, fun _ => rfl⟩
  | some c =>
    obtain ⟨j, there, is, unweighed, -⟩ := (s.stamped ref c).findItem_takeIntoMatching (s.findItem_stamped c found)
    refine ⟨j, ?_, is, fun none => by rw [unweighed none]⟩
    by_cases more : c.declared = 0 ∨ min 65535 (c.counted + 1) ≠ c.declared
    · rw [s.stampItem_of_open true open_ more]
      exact there
    · rw [not_or, not_not] at more
      rw [s.stampItem_of_last true open_ more.1 more.2]
      exact (Station.findItem_of_items (Station.closeContext_changes _ _ .items (by decide)) ref).trans there

end stampItem

/-! ### A key taken (R119, R120) -/

/-- A report leaves an item that has no claim sent. -/
theorem Station.findItem_report_of_unsent {k : Key} {ref : ItemRef} {j : Item} (before : Option Entry) (o : Bool)
    (item : s.findItem ref = some j) (unsent : j.settlingOrWaiting = false) : (s.report k before o).findItem ref = some j := by
  have still : j.corr ≠ .waiting := fun waits => by simp [Item.settlingOrWaiting, waits] at unsent
  cases o with
  | false => exact s.findItem_report_of_not_waiting before item still
  | true =>
    unfold Station.report
    split
    · exact item
    next e found =>
      split
      · have marked : (s.markOverfull k).findItem ref = some j := by
          rw [s.findItem_markOverfull found, item, Option.map_some, unsent]
          rfl
        refine (s.markOverfull k).retest_keeps (P := fun t => t.findItem ref = some j) (fun t e c held _ _ _ waits => ?_) marked
        have other : ref ≠ c.ref := by
          rintro rfl
          obtain ⟨i, there, waiting⟩ := (t.isWaiting_iff c.ref).mp waits
          cases held.symm.trans there
          exact still waiting
        exact (t.findItem_commitAs_other _ _ _ _ _ _ other).trans held
      · exact item

section takeKey

variable {ref : ItemRef} {k : Key} {i : Item}

theorem Station.findItem_reject (r : Rejection) (found : s.findItem ref = some i) :
    (s.reject ref r).findItem ref = some { i with corr := .rejected r } :=
  s.findItem_written (f := fun i => { i with corr := .rejected r }) (fun _ => rfl) found

theorem Station.findItem_offerClaim (e : Entry) (found : s.findItem ref = some i) :
    (s.offerClaim ref k e).findItem ref = some (if s.txRoom then { i with claimTally := some (s.claims.tally + 1), corr := .queued }
      else { i with corr := .rejected .claimAbandoned }) := by
  unfold Station.offerClaim
  dsimp only
  rw [show s.takeTally.txRoom = s.txRoom from rfl]
  by_cases room : s.txRoom = true
  · rw [if_pos room, if_pos room]
    refine Station.findItem_report_of_unsent _ _ _ (Station.findItem_written _
      (f := fun i => { i with claimTally := some (s.claims.tally + 1), corr := .queued }) (fun _ => rfl) ?_) rfl
    refine (Station.findItem_of_items (Station.countDropped_changes _ _ .items (by decide)) ref).trans
      ((Station.findItem_of_items (Station.writeEntry_changes _ k _ .items (by decide)) ref).trans found)
  · rw [if_neg room, if_neg room]
    exact Station.findItem_reject _ _ found

/-- Of the item a key taken writes the correlation state and the claim tally alone. -/
theorem Station.findItem_takeKey (found : s.findItem ref = some i) :
    ∃ corr tally, (s.takeKey ref k).findItem ref = some { i with corr := corr, claimTally := tally } := by
  have made : (s.ensureEntry k 0 s.freshHoldings).1.findItem ref = some i :=
    (Station.findItem_of_items (s.ensureEntry_changes k 0 s.freshHoldings .items (by decide)) ref).trans found
  have touched : ((s.ensureEntry k 0 s.freshHoldings).1.touch k).findItem ref = some i :=
    (Station.findItem_of_items (Station.touch_changes _ k .items (by decide)) ref).trans made
  unfold Station.takeKey
  rw [found]
  dsimp only
  split
  · exact ⟨_, _, found⟩
  · split
    · exact ⟨_, _, found⟩
    · split
      · exact ⟨_, _, s.findItem_reject _ found⟩
      · split
        · exact ⟨_, _, Station.findItem_reject _ _ made⟩
        · split
          · exact ⟨_, _, touched⟩
          · split
            · exact ⟨_, _, Station.findItem_reject _ _ touched⟩
            · rw [Station.findItem_offerClaim _ _ touched]
              split <;> exact ⟨_, _, rfl⟩

end takeKey

/-! ### The reader close (R11) -/

/-- Settles O17: a first close as one write of its item, and the second by the outcome of the identifier close. -/
theorem readerClose : Obligations.ReaderClose := by
  unfold Obligations.ReaderClose
  intro x q ref i t h other heads found trail opened due
  rw [exec_windowClose]
  have own : i.ref = ref := x.findItem_ref found
  refine ⟨fun first => ?first, fun second => ?second⟩
  case first =>
    rw [x.windowCloses_due found trail opened due]
    rcases heads with ⟨rfl, rfl⟩ | ⟨rfl, rfl⟩ <;> exact congrArg (fun y => Host.Outcome.next (State.mk y q)) (if_neg first)
  case second =>
    have closes : x.SecondReaderCloses ref h i := ⟨found, ⟨t, trail, due⟩, opened, by
      rcases heads with ⟨rfl, rfl⟩ | ⟨rfl, rfl⟩
      · exact .inl ⟨rfl, second⟩
      · exact .inr ⟨rfl, second⟩⟩
    set lane := (if i.lane = .reading ∧ (i.windows.set h .closed).toList.all WindowState.over then LaneState.read else i.lane)
    have stamp (o : IdOutcome) (ne : o ≠ .slip) : (match x.tracker.context with
        | some c => some c.number
        | none => i.consignment) = match x.tracker.context with
          | some c => if some o = some .slip then i.consignment else some c.number
          | none => i.consignment := by
      simp [ne]
    by_cases crowded : i.crowdMarks.reader0 = true ∨ i.crowdMarks.reader1 = true
    · have item := Station.findItem_stampItem_identified _ (x.findItem_identified h (.refused false) none false found)
      refine ⟨_, _, congrArg (fun y => Host.Outcome.next (State.mk y q)) (closes.of_crowded crowded), item, rfl, rfl, rfl, rfl,
        stamp _ (by simp), ?_⟩
      rw [if_pos crowded]
      exact ⟨rfl, rfl⟩
    · simp only [if_neg crowded]
      simp only [not_or, Bool.not_eq_true] at crowded
      obtain ⟨clear0, clear1⟩ := crowded
      cases is : reconcile (slotVerdict i.slot0) (slotVerdict i.slot1) with
      | keyed k =>
        obtain ⟨corr, tally, item⟩ := Station.findItem_takeKey (k := k) _
          (Station.findItem_stampItem_identified _ (x.findItem_identified h .keyed (some k) i.holdsMisread found))
        exact ⟨_, _, congrArg (fun y => Host.Outcome.next (State.mk y q)) (closes.of_keyed clear0 clear1 is), item, rfl, rfl, rfl, rfl,
          stamp _ (by simp), rfl, rfl, rfl⟩
      | slip slip =>
        have item := x.findItem_identified h .slip none false found
        refine ⟨_, _, congrArg (fun y => Host.Outcome.next (State.mk y q)) (closes.of_slip clear0 clear1 is),
          (Station.findItem_of_items (Station.takeSlip_changes _ slip .items (by decide)) ref).trans item, rfl, rfl, rfl, rfl, ?_, rfl, rfl, 
          Bool.or_false _⟩
        cases x.tracker.context <;> rfl
      | unidentified =>
        obtain ⟨j, item, is', unweighed⟩ := Station.findItem_stampItem_unidentified _
          (x.findItem_identified h .unidentified none i.holdsMisread found)
        refine ⟨_, j, congrArg (fun y => Host.Outcome.next (State.mk y q)) (closes.of_unidentified clear0 clear1 is), item, ?_⟩
        have key : i.weight = none → j.key = i.key := unweighed
        rw [is']
        exact ⟨rfl, rfl, rfl, rfl, stamp _ (by simp), rfl, key, rfl⟩
      | ambiguous =>
        have item := Station.findItem_stampItem_identified { x.identified ref h (.refused true) none false with
          keyCounts := { x.keyCounts with ambiguous := x.keyCounts.ambiguous + 1 } }
          (x.findItem_identified h (.refused true) none false found)
        refine ⟨_, _, congrArg (fun y => Host.Outcome.next (State.mk y q)) (closes.of_ambiguous clear0 clear1 is), item, rfl, rfl, rfl, rfl,
          stamp _ (by simp), rfl, rfl, ?_⟩
        rw [Station.stampItem_changes _ ref false .keyCounts (by decide)]

end Sys2Proof.Machine
end

section
/-! SUPPORT. A key taken (R119, R120) in each of its ends, what it leaves of the transmit queue and the open context, and the
statement on it. -/

namespace Sys2Proof.Machine

variable (s : Station)

/-! ### The summary of a context that closes (R80) -/

theorem Station.closeContext_of_open {c : Consignment} (cause : EndCause) (open_ : s.tracker.context = some c) :
    s.closeContext cause = { s with tracker := { s.tracker with context := none } }.buildRecord (.summary (c.summary cause)) := by
  rw [Station.closeContext, open_]

theorem Station.closeContext_context (cause : EndCause) : (s.closeContext cause).tracker.context = none := by
  cases open_ : s.tracker.context with
  | none => rw [Station.closeContext, open_, open_]
  | some c =>
    rw [s.closeContext_of_open cause open_]
    exact Station.buildRecord_changes _ _ .context (by decide)

theorem Station.buildRecord_of_room (b : Body) (ready : s.startup.state ≠ .listenOnly) (room : s.link.txQueue.length < 16) :
    s.buildRecord b = s.txPush b := by
  have placed : s.placing = .queued := if_pos (s.txRoom_iff.mpr room)
  rw [Station.buildRecord, if_neg (mt s.listening_iff.mp ready), Station.offerRecord, placed]

/-- A record offered takes no frame out of the queue, and at most one place. -/
theorem Station.buildRecord_txQueue (b : Body) : (∃ fs, (s.buildRecord b).link.txQueue = s.link.txQueue ++ fs ∧ fs.length ≤ 1) ∧
    (16 ≤ s.link.txQueue.length → (s.buildRecord b).link.txQueue = s.link.txQueue) := by
  unfold Station.buildRecord
  split
  · exact ⟨⟨[], by simp⟩, fun _ => rfl⟩
  · rcases s.offerRecord_cases b with ⟨room, queue, -⟩ | ⟨full, -, link, -⟩ | ⟨full, -, link, -⟩
    · exact ⟨⟨_, queue, by simp⟩, fun full => absurd full (by omega)⟩
    · exact ⟨⟨[], by simp [link]⟩, fun _ => by rw [link]⟩
    · exact ⟨⟨[], by simp [link]⟩, fun _ => by rw [link]⟩

theorem Station.closeContext_txQueue (cause : EndCause) :
    (∃ fs, (s.closeContext cause).link.txQueue = s.link.txQueue ++ fs ∧ fs.length ≤ 1) ∧
      (16 ≤ s.link.txQueue.length → (s.closeContext cause).link.txQueue = s.link.txQueue) := by
  cases open_ : s.tracker.context with
  | none =>
    rw [Station.closeContext, open_]
    exact ⟨⟨[], by simp⟩, fun _ => rfl⟩
  | some c =>
    rw [s.closeContext_of_open cause open_]
    exact Station.buildRecord_txQueue _ _

/-- The blocks a stamp may touch where no item is taken into matching. -/
theorem Station.stampItem_identified_changes (ref : ItemRef) :
    Changes [.items, .context, .txQueue, .overflow, .recordCounts] s (s.stampItem ref false) := by
  unfold Station.stampItem
  split
  · exact .refl s
  · have stamped : ∀ (f : Item → Item) (g : Consignment → Consignment), Changes [.items, .context] s
        ((s.modifyItem ref f).modifyContext g) := fun f g => (s.modifyItem_changes ref f).then (Station.modifyContext_changes _ g) rfl rfl
    dsimp only
    rw [if_neg Bool.false_ne_true]
    split
    · exact (stamped _ _).then (Station.closeContext_changes _ _) rfl rfl
    · exact (stamped _ _).mono rfl

/-- The stamp takes at most one place in the queue, and none with no consignment open. -/
theorem Station.stampItem_identified_txQueue (ref : ItemRef) :
    (∃ fs, (s.stampItem ref false).link.txQueue = s.link.txQueue ++ fs ∧ fs.length ≤ 1) ∧
      (16 ≤ s.link.txQueue.length ∨ s.tracker.context = none → (s.stampItem ref false).link.txQueue = s.link.txQueue) := by
  cases open_ : s.tracker.context with
  | none =>
    rw [s.stampItem_of_none false open_]
    exact ⟨⟨[], by simp⟩, fun _ => rfl⟩
  | some c =>
    by_cases more : c.declared = 0 ∨ min 65535 (c.counted + 1) ≠ c.declared
    · rw [s.stampItem_of_open false open_ more]
      exact ⟨⟨[], by simp [Station.stamped]⟩, fun _ => rfl⟩
    · rw [not_or, not_not] at more
      rw [s.stampItem_of_last false open_ more.1 more.2]
      obtain ⟨added, full⟩ := (s.stamped ref c).closeContext_txQueue .complete
      exact ⟨added, fun is => is.elim full (nomatch ·)⟩

/-! ### The ends of a key taken -/

section takeKey

variable {ref : ItemRef} {k : Key} {i : Item}

theorem Station.takeKey_of_calibrating (found : s.findItem ref = some i) (marked : i.calMark = true) : s.takeKey ref k = s := by
  rw [Station.takeKey, found]
  dsimp only
  rw [if_pos marked]
  split <;> rfl

variable (found : s.findItem ref = some i) (unkeyed : i.corr = .unkeyed) (plain : i.calMark = false)

include found unkeyed plain

theorem Station.takeKey_of_not_active (idle : s.startup.state ≠ .active) : s.takeKey ref k = s.reject ref .notActive := by
  rw [Station.takeKey, found]
  exact (if_neg (by simp [unkeyed])).trans ((if_neg (by simp [plain])).trans (if_pos idle))

theorem Station.takeKey_of_full (active : s.startup.state = .active) {e : Entry} (entry : s.entry k = some e)
    (distinct : (s.table.entries.map Entry.key).Nodup) (full : 6 ≤ (e.pending.filter (fun c => c.own)).length) :
    s.takeKey ref k = (s.touch k).reject ref .claimsFull := by
  have made : s.ensureEntry k 0 s.freshHoldings = (s, true) := by rw [Station.ensureEntry, entry]
  have touched := (s.entry_touch entry distinct).1
  rw [Station.takeKey, found]
  refine (if_neg (by simp [unkeyed])).trans ((if_neg (by simp [plain])).trans ((if_neg (by simp [active])).trans ?_))
  rw [made]
  dsimp only
  rw [touched]
  exact (if_neg (by simp)).trans (if_pos full)

/-- An entry found or made with a place for one more own claim: the claim is offered. -/
theorem Station.takeKey_of_place (active : s.startup.state = .active) (placed : (s.entry k).isSome ∨ s.table.entries.length < 4096)
    (distinct : (s.table.entries.map Entry.key).Nodup)
    (short : ∀ e, s.entry k = some e → (e.pending.filter (fun c => c.own)).length < 6) :
    ∃ u, s.takeKey ref k = u.offerClaim ref k ((s.entry k).getD (newEntry k 0 s.freshHoldings)) ∧
      u.entry k = some ((s.entry k).getD (newEntry k 0 s.freshHoldings)) ∧ (u.table.entries.map Entry.key).Nodup ∧
      Changes [.entries, .tableCounts, .context, .flags] s u ∧ u.cfg = s.cfg ∧ u.ownId = s.ownId := by
  obtain ⟨made, is, entry, nodup, -⟩ := s.ensureEntry_placed 0 s.freshHoldings placed distinct
  have before : Changes [.entries, .tableCounts, .context, .flags] s made := by
    have changes := s.ensureEntry_changes k 0 s.freshHoldings
    rw [is] at changes
    exact changes.mono rfl
  obtain ⟨touched, nodupToo⟩ := made.entry_touch entry nodup
  have frame : Changes [.entries, .tableCounts, .context, .flags] s (made.touch k) := before.then (made.touch_changes k) rfl rfl
  obtain ⟨settings, stationId, -⟩ := frame .settings (by decide)
  refine ⟨made.touch k, ?_, touched, nodupToo, frame, by rw [Station.cfg, settings, Station.cfg], by rw [Station.ownId, stationId, Station.ownId]⟩
  have room : ¬ 6 ≤ ((((s.entry k).getD (newEntry k 0 s.freshHoldings)).pending.filter (fun c => c.own)).length) := by
    cases there : s.entry k with
    | none => simp [newEntry]
    | some e => exact not_le.mpr (short e there)
  rw [Station.takeKey, found]
  refine (if_neg (by simp [unkeyed])).trans ((if_neg (by simp [plain])).trans ((if_neg (by simp [active])).trans ?_))
  rw [is]
  dsimp only
  rw [touched]
  exact (if_neg (by simp)).trans (if_neg room)

end takeKey

/-! ### The claim offered (R120) -/

/-- A report takes no frame out of the queue. -/
theorem Station.mem_txQueue_report (k : Key) (before : Option Entry) (o : Bool) {f : TxFrame} (queued : f ∈ s.link.txQueue) :
    f ∈ (s.report k before o).link.txQueue := by
  unfold Station.report
  split
  · exact queued
  · split
    · refine Station.mem_txQueue_retest _ k ?_
      split
      · rw [Station.markOverfull_changes s k .txQueue (by decide)]
        exact queued
      · exact queued
    · exact queued

section offerClaim

variable {ref : ItemRef} {k : Key} {e : Entry}

/-- The own claim of an offer. -/
def Station.newClaim (ref : ItemRef) (s : Station) : Claim := ⟨s.ownId, s.claims.tally + 1, ref, none, true⟩

/-- The entry with the claim of an offer in it. -/
def Entry.claimed (c : Claim) (now : Millis) (e : Entry) : Entry :=
  { (e.insert c).1 with holdings := if e.holdings = .unknown then .requested now false else e.holdings }

/-- The station with a claim offered and taken, before the report. -/
def Station.offered (ref : ItemRef) (k : Key) (e : Entry) (s : Station) : Station :=
  ((((s.takeTally.txPush (.claim k (s.claims.tally + 1) ref e.committed (decide (e.holdings = .unknown)))).wrote k
    (e.claimed (s.newClaim ref) s.clock)).countDropped (e.insert (s.newClaim ref)).2).modifyItem ref
      (fun i => { i with claimTally := some (s.claims.tally + 1), corr := .queued }))

theorem Station.offerClaim_of_room (room : s.link.txQueue.length < 16) (entry : s.entry k = some e)
    (distinct : (s.table.entries.map Entry.key).Nodup) :
    s.offerClaim ref k e = (s.offered ref k e).report k (some e) (e.insert (s.newClaim ref)).2 := by
  have written := Station.writeEntry_eq_wrote (s.takeTally.txPush (.claim k (s.claims.tally + 1) ref e.committed (decide (e.holdings = .unknown))))
    (f := fun x => { (x.insert (s.newClaim ref)).1 with
      holdings := if decide (e.holdings = .unknown) then .requested s.clock false else x.holdings }) (by exact entry)
    (show e.key = k from s.entry_key entry) distinct
  have same : ({ (e.insert (s.newClaim ref)).1 with
      holdings := if decide (e.holdings = .unknown) then .requested s.clock false else e.holdings } : Entry) =
      e.claimed (s.newClaim ref) s.clock := by
    simp only [Entry.claimed, decide_eq_true_eq]
  rw [same] at written
  rw [Station.offered, ← written]
  exact if_pos (s.txRoom_iff.mpr room)

theorem Station.offerClaim_of_full (full : 16 ≤ s.link.txQueue.length) :
    s.offerClaim ref k e = s.takeTally.reject ref .claimAbandoned :=
  if_neg fun room => absurd (s.txRoom_iff.mp room) (by omega)

/-- An own claim comes into a list that has fewer than six of them. -/
theorem mem_insertLimited_of_own_few {c : Claim} {l : List Claim} (own : c.own = true) (few : (l.filter (fun a => a.own)).length < 6) :
    c ∈ (insertLimited c l).1 := by
  rcases insertLimited_cases c l with ⟨-, is⟩ | ⟨long, all, -⟩ | ⟨-, foreign, -⟩ | ⟨-, x, -, -, is⟩
  · rw [is]
    exact (insertClaim_perm c l).mem_iff.mpr List.mem_cons_self
  · rw [List.filter_eq_self.mpr fun a listed => all a (List.mem_cons_of_mem _ listed)] at few
    omega
  · exact absurd (own.symm.trans foreign) (by simp)
  · rw [is]
    exact (insertClaim_perm c _).mem_iff.mpr List.mem_cons_self

theorem Station.entry_offered (entry : s.entry k = some e) (distinct : (s.table.entries.map Entry.key).Nodup) :
    (s.offered ref k e).entry k = some (e.claimed (s.newClaim ref) s.clock) ∧ ((s.offered ref k e).table.entries.map Entry.key).Nodup := by
  have own : (e.claimed (s.newClaim ref) s.clock).key = k := (s.entry_key entry :)
  set w := (s.takeTally.txPush (.claim k (s.claims.tally + 1) ref e.committed (decide (e.holdings = .unknown)))).wrote k
    (e.claimed (s.newClaim ref) s.clock) with wrote
  have entries : (s.offered ref k e).table.entries = w.table.entries :=
    Station.countDropped_changes w (e.insert (s.newClaim ref)).2 .entries (by decide)
  rw [Station.entry, entries, ← Station.entry]
  exact ⟨Station.entry_wrote _ own distinct, Station.keys_wrote_nodup _ own distinct⟩

theorem Station.offered_txQueue : (s.offered ref k e).link.txQueue =
    s.link.txQueue ++ [⟨.claim k (s.claims.tally + 1) ref e.committed (decide (e.holdings = .unknown)), 0, .ready, false⟩] :=
  Station.countDropped_changes ((s.takeTally.txPush (.claim k (s.claims.tally + 1) ref e.committed (decide (e.holdings = .unknown)))).wrote k
    (e.claimed (s.newClaim ref) s.clock)) (e.insert (s.newClaim ref)).2 .txQueue (by decide)

theorem Station.offered_tally : (s.offered ref k e).claims.tally = s.claims.tally + 1 :=
  Station.countDropped_changes ((s.takeTally.txPush (.claim k (s.claims.tally + 1) ref e.committed (decide (e.holdings = .unknown)))).wrote k
    (e.claimed (s.newClaim ref) s.clock)) (e.insert (s.newClaim ref)).2 .tally (by decide)

end offerClaim

/-- Settles O19: the stamp leaves the item, the table and the tally to the key, and the key is taken by the claim offered or by the
reason for which none is. -/
theorem takingAKey : Obligations.TakingAKey := by
  unfold Obligations.TakingAKey
  have stamping (x : Station) (ref : ItemRef) (h : Head) (i : Item) (k : Key) (closes : x.SecondReaderCloses ref h i)
      (clear0 : i.crowdMarks.reader0 = false) (clear1 : i.crowdMarks.reader1 = false)
      (is : reconcile (slotVerdict i.slot0) (slotVerdict i.slot1) = .keyed k) :
      ∃ t j, x.windowCloses ref h = t.takeKey ref k ∧ t.findItem ref = some j ∧ j.key = some k ∧ j.corr = i.corr ∧ j.calMark = i.calMark ∧
        Changes [.items, .context, .txQueue, .overflow, .recordCounts] x t ∧
        (∃ fs, t.link.txQueue = x.link.txQueue ++ fs ∧ fs.length ≤ 1) ∧
        (16 ≤ x.link.txQueue.length ∨ x.tracker.context = none → t.link.txQueue = x.link.txQueue) := by
    have item := Station.findItem_stampItem_identified _ (x.findItem_identified h .keyed (some k) i.holdsMisread closes.item)
    exact ⟨_, _, closes.of_keyed clear0 clear1 is, item, rfl, rfl, rfl,
      (x.modifyItem_changes ref _).then (Station.stampItem_identified_changes _ ref) rfl rfl,
      Station.stampItem_identified_txQueue (x.identified ref h .keyed (some k) i.holdsMisread) ref⟩
  refine ⟨fun x q ref h i k closes clear0 clear1 is unkeyed plain active room placed distinct few => ?claimed,
    fun x q ref h i k closes clear0 clear1 is unkeyed distinct => ?refused⟩
  case claimed =>
    intro before
    obtain ⟨t, j, runs, item, key, corr, mark, stamp, ⟨fs, queue, one⟩, unopened⟩ := stamping x ref h i k closes clear0 clear1 is
    have table : t.table = x.table := table_of_same (stamp .entries (by decide)) (stamp .tableCounts (by decide))
    have settings := stamp .settings (by decide)
    have fresh : t.freshHoldings = if x.cfg.gatewayPresent then .unknown else .known := by
      rw [Station.freshHoldings, Station.cfg, settings.1, Station.cfg]
    obtain ⟨u, taken, entry, nodup, made, -, ownId⟩ := t.takeKey_of_place item (corr.trans unkeyed) (mark.trans plain)
      ((stamp .stationState (by decide)).trans active) (by rw [Station.entry, table]; exact placed) (by rw [table]; exact distinct)
      (k := k) (by rw [Station.entry, table]; exact few)
    have same : (t.entry k).getD (newEntry k 0 t.freshHoldings) = before := by rw [Station.entry, table, fresh]; rfl
    rw [same] at taken entry
    have whole : Changes [.items, .context, .txQueue, .overflow, .recordCounts, .entries, .tableCounts, .flags] x u :=
      stamp.then made rfl rfl
    have tally : u.claims.tally = x.claims.tally := whole .tally (by decide)
    have clock : u.clock = x.clock := whole .clock (by decide)
    have roomy : u.link.txQueue.length < 16 := by
      rw [show u.link.txQueue = t.link.txQueue from made .txQueue (by decide)]
      rcases room with short | ⟨short, closed⟩
      · rw [queue, List.length_append]; omega
      · rw [unopened (.inr closed)]; exact short
    have itemToo : u.findItem ref = some j := (Station.findItem_of_items (made .items (by decide)) ref).trans item
    have final := u.findItem_offerClaim (k := k) before itemToo
    rw [if_pos (u.txRoom_iff.mpr roomy)] at final
    have offer := u.offerClaim_of_room (ref := ref) roomy entry nodup
    obtain ⟨there, nodupToo⟩ := u.entry_offered (ref := ref) entry nodup
    obtain ⟨e, found, -, -, holdings, -, kept⟩ := (Station.report_ripples _ there nodupToo (some before) (before.insert (u.newClaim ref)).2).entry
    have few' : (before.pending.filter (fun c => c.own)).length < 6 := by
      cases was : x.entry k with
      | none => simp [before, was, newEntry]
      | some e => simpa [before, was] using few e was
    have listed : u.newClaim ref ∈ (before.claimed (u.newClaim ref) u.clock).pending := mem_insertLimited_of_own_few rfl few'
    have unsent : (u.offered ref k before).isWaiting ref = false := by
      have queued : (u.offered ref k before).findItem ref = some { j with claimTally := some (u.claims.tally + 1), corr := .queued } :=
        Station.findItem_written _ (f := fun i => { i with claimTally := some (u.claims.tally + 1), corr := .queued }) (fun _ => rfl)
          ((Station.findItem_of_items (Station.countDropped_changes _ _ .items (by decide)) ref).trans itemToo)
      rw [Station.isWaiting, queued]
      rfl
    have claim : u.newClaim ref = ⟨x.ownId, x.claims.tally + 1, ref, none, true⟩ := by
      rw [Station.newClaim, tally, ownId, Station.ownId, settings.2.1, Station.ownId]
    refine ⟨_, _, e, congrArg (fun y => Host.Outcome.next (State.mk y q)) (runs.trans taken), ?_, final, rfl, key, by rw [tally], ?_, ?_, ?_, ?_⟩
    · rw [offer, Station.report_changes _ k _ _ .tally (by decide), Station.offered_tally, tally]
    · rw [offer]
      refine Station.mem_txQueue_report _ k _ _ ?_
      rw [Station.offered_txQueue, tally]
      exact List.mem_append_right _ List.mem_cons_self
    · rw [offer]
      exact found
    · rw [← claim]
      exact (kept _ listed).resolve_right fun both => by rw [show (u.newClaim ref).ref = ref from rfl, unsent] at both; exact absurd both.2 (by simp)
    · rw [holdings, Entry.claimed, clock]
  case refused =>
    intro full reach reached
    obtain ⟨t, j, runs, item, key, corr, mark, stamp, -, unroomed⟩ := stamping x ref h i k closes clear0 clear1 is
    have table : t.table = x.table := table_of_same (stamp .entries (by decide)) (stamp .tableCounts (by decide))
    have claims : t.claims = x.claims := claims_of_same (stamp .tally (by decide)) (stamp .claimCounts (by decide))
    have state : t.startup.state = x.startup.state := stamp .stationState (by decide)
    have nodup : (t.table.entries.map Entry.key).Nodup := by rw [table]; exact distinct
    have ends {y : Station} (is : t.takeKey ref k = y) : exec (.windowClose ref h) ⟨x, q⟩ = .next ⟨y, q⟩ :=
      congrArg (fun y => Host.Outcome.next (State.mk y q)) (runs.trans is)
    cases calibrates : i.calMark with
    | true =>
      exact ⟨t, j, ends (t.takeKey_of_calibrating item (mark.trans calibrates)), item, key, fun _ => ⟨corr.trans unkeyed, table, claims⟩,
        (nomatch ·), (nomatch ·), (nomatch ·)⟩
    | false =>
      have plain := mark.trans calibrates
      by_cases active : x.startup.state = .active
      · by_cases held : full
        · obtain ⟨e, entry, six⟩ := held
          have touched : (t.touch k).findItem ref = some j := (Station.findItem_of_items (t.touch_changes k .items (by decide)) ref).trans item
          have rejected := t.takeKey_of_full item (corr.trans unkeyed) plain (state.trans active)
            (by rw [Station.entry, table]; exact entry) nodup six
          refine ⟨_, _, ends rejected, Station.findItem_reject _ _ touched, key, (nomatch ·), fun _ no => absurd active no,
            fun _ _ _ => ⟨rfl, ?_⟩, fun _ _ no => absurd ⟨e, entry, six⟩ no⟩
          exact (claims_of_same (t.touch_changes k .tally (by decide)) (t.touch_changes k .claimCounts (by decide))).trans claims
        · obtain ⟨placed, crowd⟩ : ((x.entry k).isSome ∨ x.table.entries.length < 4096) ∧ 16 ≤ x.link.txQueue.length := by
            rcases reached with no | no | no | yes
            · exact absurd no (by simp [calibrates])
            · exact absurd active no
            · exact absurd no held
            · exact yes
          obtain ⟨u, taken, entry, -, made, -, -⟩ := t.takeKey_of_place item (corr.trans unkeyed) plain (state.trans active)
            (by rw [Station.entry, table]; exact placed) nodup (k := k) fun e there => by
              rw [Station.entry, table] at there
              by_contra six
              exact held ⟨e, there, not_lt.mp six⟩
          have fullToo : 16 ≤ u.link.txQueue.length := by
            rw [show u.link.txQueue = t.link.txQueue from made .txQueue (by decide), unroomed (.inl crowd)]
            exact crowd
          have tally : u.claims.tally = t.claims.tally := made .tally (by decide)
          have itemToo : u.takeTally.findItem ref = some j := (Station.findItem_of_items (made .items (by decide)) ref).trans item
          refine ⟨_, _, ends (taken.trans (u.offerClaim_of_full fullToo)), Station.findItem_reject _ _ itemToo, key, (nomatch ·),
            fun _ no => absurd active no, fun _ _ yes => absurd yes held, fun _ _ _ => ⟨rfl, ?_⟩⟩
          rw [← claims, ← tally]
          rfl
      · exact ⟨_, _, ends (t.takeKey_of_not_active item (corr.trans unkeyed) plain (by rw [state]; exact active)),
          Station.findItem_reject _ _ item, key, (nomatch ·), fun _ _ => ⟨rfl, table, claims⟩, fun _ yes => absurd yes active,
          fun _ yes => absurd yes active⟩

end Sys2Proof.Machine
end

section
/-! SUPPORT. The identifier close at the tracker (sections 5.2 to 5.6): a slip, matching at the close, and the context that a stamp
completes, with the statement on them. -/

namespace Sys2Proof.Machine

variable (s : Station)

/-! ### What matching and a key taken leave of the open context -/

/-- The open context stays open, with the three numbers and the counts that its summary samples. -/
def Station.KeepsSummary (s t : Station) : Prop :=
  ∀ c, s.tracker.context = some c → ∃ c', t.tracker.context = some c' ∧ ∀ cause, c'.summary cause = c.summary cause

theorem Station.KeepsSummary.refl : s.KeepsSummary s := fun c open_ => ⟨c, open_, fun _ => rfl⟩

theorem Station.KeepsSummary.trans {s t u : Station} (h : s.KeepsSummary t) (g : t.KeepsSummary u) : s.KeepsSummary u := fun c open_ => by
  obtain ⟨c', openToo, same⟩ := h c open_
  obtain ⟨c'', openThird, sameToo⟩ := g c' openToo
  exact ⟨c'', openThird, fun cause => (sameToo cause).trans (same cause)⟩

theorem Station.KeepsSummary.of_frame {bs : List Block} {s t : Station} (h : Changes bs s t) (apart : Block.context ∉ bs) : s.KeepsSummary t :=
  fun c open_ => ⟨c, (show t.tracker.context = s.tracker.context from h .context apart).trans open_, fun _ => rfl⟩

theorem Station.modifyContext_keepsSummary {f : Consignment → Consignment} (keeps : ∀ c cause, (f c).summary cause = c.summary cause) :
    s.KeepsSummary (s.modifyContext f) := fun c open_ => ⟨f c, congrArg (Option.map f) open_, keeps c⟩

theorem Station.createEntry_keepsSummary (e : Entry) : s.KeepsSummary (s.createEntry e).1 := by
  unfold Station.createEntry
  split
  · exact .refl _
  · split
    · exact s.modifyContext_keepsSummary (f := fun c => { c with roster := c.roster.filter (fun k => k ≠ _) }) fun _ _ => rfl
    · exact .refl _

theorem Station.issueProvisional_keepsSummary (ref : ItemRef) (number : Nat) (stored : Stored) (c : Consignment) :
    s.KeepsSummary (s.issueProvisional ref number stored c) := by
  have indexed (n : Nat) : s.KeepsSummary (s.modifyContext fun x => { x with nextIndex := n }) := s.modifyContext_keepsSummary fun _ _ => rfl
  unfold Station.issueProvisional
  dsimp only
  split
  · exact (indexed _).trans (.of_frame (Station.markItem_changes _ ref _) (by decide))
  · split
    · exact ((indexed _).trans (Station.createEntry_keepsSummary _ _)).trans (.of_frame (Station.markItem_changes _ ref _) (by decide))
    · exact (((indexed _).trans (Station.createEntry_keepsSummary _ _)).trans
        (Station.modifyContext_keepsSummary _ (by exact fun _ _ => rfl))).trans
        ((KeepsSummary.of_frame ((Station.modifyItem_changes _ ref _).then (changes_trackerCounts _ _ _) rfl rfl :
          Changes [.items, .trackerCounts] _ _) (by decide)).trans (.of_frame (Station.commitProvisional_changes _ ref _) (by decide)))

theorem Station.runMatching_keepsSummary (ref : ItemRef) : s.KeepsSummary (s.runMatching ref) := by
  have ended : s.KeepsSummary (s.modifyItem ref fun x => { x with matching := false }) := .of_frame (s.modifyItem_changes ref _) (by decide)
  have marked (m : TrackerMark) := ended.trans (.of_frame (Station.markItem_changes _ ref m) (by decide))
  have matched (t : Station) (i : Item) (grams : Nat) (c : Consignment) : t.KeepsSummary (t.matchRoster i grams c) := by
    unfold Station.matchRoster
    split
    · exact .of_frame ((((t.modifyItem_changes _ _).then (Station.touch_changes _ _) rfl rfl :
        Changes [.items, .entries] t _).then (changes_trackerCounts _ _ _) rfl rfl :
        Changes [.items, .entries, .trackerCounts] t _).then (Station.commitProvisional_changes _ _ _) rfl rfl :
        Changes [.items, .entries, .trackerCounts] t _) (by decide)
    · exact t.issueProvisional_keepsSummary _ _ _ _
  unfold Station.runMatching
  split
  · exact .refl s
  · dsimp only
    split
    · exact ended
    · split
      · exact marked _
      · split
        · exact marked _
        · split
          · exact marked _
          · split
            · exact ended
            · split
              · exact marked _
              · exact ended.trans (matched _ _ _ _)

theorem Station.takeIntoMatching_keepsSummary (ref : ItemRef) : s.KeepsSummary (s.takeIntoMatching ref) := by
  unfold Station.takeIntoMatching
  split
  · exact .refl s
  · split
    · exact s.runMatching_keepsSummary ref
    · exact .of_frame (s.modifyItem_changes ref _) (by decide)

/-- A claim offered takes no frame out of the queue. -/
theorem Station.mem_txQueue_offerClaim (ref : ItemRef) (k : Key) (e : Entry) {f : TxFrame} (queued : f ∈ s.link.txQueue) :
    f ∈ (s.offerClaim ref k e).link.txQueue := by
  unfold Station.offerClaim
  dsimp only
  split
  · refine Station.mem_txQueue_report _ k _ _ ?_
    rw [Station.modifyItem_link, Station.countDropped_changes _ _ .txQueue (by decide), Station.writeEntry_link]
    exact List.mem_append_left _ queued
  · exact queued

/-- A key taken opens no context, and takes no frame out of the queue. -/
theorem Station.takeKey_closed {ref : ItemRef} (k : Key) (closed : s.tracker.context = none) : (s.takeKey ref k).tracker.context = none ∧
    ∀ f ∈ s.link.txQueue, f ∈ (s.takeKey ref k).link.txQueue := by
  have same {bs : List Block} {t u : Station} (h : Changes bs t u) (apart : Block.context ∉ bs ∧ Block.txQueue ∉ bs)
      (kept : t.tracker.context = none ∧ ∀ f ∈ s.link.txQueue, f ∈ t.link.txQueue) :
      u.tracker.context = none ∧ ∀ f ∈ s.link.txQueue, f ∈ u.link.txQueue := by
    have context : u.tracker.context = t.tracker.context := h .context apart.1
    have queue : u.link.txQueue = t.link.txQueue := h .txQueue apart.2
    rw [context, queue]
    exact kept
  have start : s.tracker.context = none ∧ ∀ f ∈ s.link.txQueue, f ∈ s.link.txQueue := ⟨closed, fun _ listed => listed⟩
  have made : (s.ensureEntry k 0 s.freshHoldings).1.tracker.context = none ∧
      ∀ f ∈ s.link.txQueue, f ∈ (s.ensureEntry k 0 s.freshHoldings).1.link.txQueue := by
    have queue : (s.ensureEntry k 0 s.freshHoldings).1.link.txQueue = s.link.txQueue := s.ensureEntry_changes k 0 _ .txQueue (by decide)
    refine ⟨?_, by rw [queue]; exact start.2⟩
    unfold Station.ensureEntry Station.createEntry
    split
    · exact closed
    · split
      · exact closed
      · split
        · exact congrArg (Option.map _) closed
        · exact closed
  have touched := same (Station.touch_changes _ k) ⟨by decide, by decide⟩ made
  unfold Station.takeKey
  split
  · exact start
  · dsimp only
    split
    · exact start
    · split
      · exact start
      · split
        · exact same (s.reject_changes ref _) ⟨by decide, by decide⟩ start
        · split
          · exact same (Station.reject_changes _ ref _) ⟨by decide, by decide⟩ made
          · split
            · exact touched
            next e found =>
              split
              · exact same (Station.reject_changes _ ref _) ⟨by decide, by decide⟩ touched
              · refine ⟨(Station.offerClaim_changes _ ref k e .context (by decide)).trans touched.1, fun f listed => ?_⟩
                exact Station.mem_txQueue_offerClaim _ ref k e (touched.2 f listed)

/-! ### A slip (R75, R76) -/

theorem exec_windowClose_closes {x : Station} {ref : ItemRef} {h : Head} {y : Station} (q : List Instr) (is : x.windowCloses ref h = y) :
    exec (.windowClose ref h) ⟨x, q⟩ = .next ⟨y, q⟩ := congrArg (fun y => Host.Outcome.next (State.mk y q)) is

theorem Station.takeSlip_tracker (slip : Slip) : (s.takeSlip slip).tracker = { s.tracker with context := some (Consignment.ofSlip slip) } := by
  unfold Station.takeSlip
  split
  · rfl
  next c open_ =>
    have counts := s.closeContext_changes (c.causeBySlip slip) .trackerCounts (by decide)
    simp only [Station.openContext, counts.1, counts.2]

/-! ### The last stamp (R78) -/

/-- The stamp that reaches the declared count closes the context, with its summary. -/
theorem Station.stampItem_completes {ref : ItemRef} {i : Item} {c : Consignment} (unidentified : Bool) (found : s.findItem ref = some i)
    (open_ : s.tracker.context = some c) (declared : c.declared ≠ 0) (last : min 65535 (c.counted + 1) = c.declared) :
    (∃ j, (s.stampItem ref unidentified).findItem ref = some j ∧ j.consignment = some c.number) ∧
      (s.stampItem ref unidentified).tracker.context = none ∧
      (s.startup.state ≠ .listenOnly → s.link.txQueue.length < 16 →
        ⟨.summary ⟨c.number, c.publisher, c.declared, c.declared, c.identified, c.provisional, c.review, .complete⟩, 0, .ready, false⟩
          ∈ (s.stampItem ref unidentified).link.txQueue) := by
  refine ⟨?item, ?context, fun ready room => ?summary⟩
  case item =>
    cases unidentified with
    | false => exact ⟨_, s.findItem_stampItem_identified found, by rw [open_]⟩
    | true =>
      obtain ⟨j, there, is, -⟩ := s.findItem_stampItem_unidentified found
      exact ⟨j, there, by rw [is, open_]⟩
  case context =>
    rw [s.stampItem_of_last unidentified open_ declared last]
    exact Station.closeContext_context _ _
  case summary =>
    rw [s.stampItem_of_last unidentified open_ declared last]
    set u := if unidentified then (s.stamped ref c).takeIntoMatching ref else s.stamped ref c with matched
    have keeps : (s.stamped ref c).KeepsSummary u ∧ u.link.txQueue = s.link.txQueue ∧ u.startup.state = s.startup.state := by
      rw [matched]
      split
      · exact ⟨Station.takeIntoMatching_keepsSummary _ ref, Station.takeIntoMatching_changes _ ref .txQueue (by decide),
          Station.takeIntoMatching_changes _ ref .stationState (by decide)⟩
      · exact ⟨.refl _, rfl, rfl⟩
    obtain ⟨summarized, queue, state⟩ := keeps
    obtain ⟨c', openToo, same⟩ := summarized _ (show (s.stamped ref c).tracker.context = some _ from congrArg (Option.map _) open_)
    rw [u.closeContext_of_open .complete openToo, Station.buildRecord_of_room _ _ (by rw [← state] at ready; exact ready)
      (by rw [← queue] at room; exact room), same]
    refine List.mem_append_right _ ?_
    simp only [Consignment.summary, last, List.mem_singleton]

/-! ### An unidentified item at its close (R82 to R85) -/

/-- An item that is written with its key kept pins what it pinned. -/
theorem Station.pinned_modifyItem {ref : ItemRef} {f : Item → Item} (keeps : ∀ i : Item, (f i).key = i.key) (e : Entry) :
    (s.modifyItem ref f).pinned e = s.pinned e := by
  simp only [Station.pinned, Station.modifyItem, List.any_map]
  congr 2
  funext i
  dsimp only [Function.comp]
  split
  · rw [keeps]
  · rfl

section unidentified

variable {x : Station} {ref : ItemRef} {h : Head} {i : Item} {c : Consignment}

/-- An unidentified item as the close leaves it before matching. -/
def Item.unidentified (h : Head) (n : Option Nat) (i : Item) : Item :=
  { (i.closeWindow h).withOutcome .unidentified none i.holdsMisread with consignment := n }

/-- The open context with an item stamped. -/
def Consignment.stamp (ref : ItemRef) (c : Consignment) : Consignment :=
  { c with counted := min 65535 (c.counted + 1), members := c.members ++ [ref] }

/-- The station with an unidentified item stamped in the open context. -/
def Station.taken (ref : ItemRef) (h : Head) (i : Item) (c : Consignment) (x : Station) : Station :=
  (x.identified ref h .unidentified none i.holdsMisread).stamped ref c

/-- The station with an unidentified item past the tests before the scan. -/
def Station.scanned (ref : ItemRef) (h : Head) (i : Item) (c : Consignment) (x : Station) : Station :=
  (x.taken ref h i c).modifyItem ref fun k => { k with matching := false }

theorem Station.findItem_taken (found : x.findItem ref = some i) :
    (x.taken ref h i c).findItem ref = some (i.unidentified h (some c.number)) :=
  Station.findItem_stamped _ c (x.findItem_identified h .unidentified none i.holdsMisread found)

theorem Station.taken_context (open_ : x.tracker.context = some c) : (x.taken ref h i c).tracker.context = some (c.stamp ref) :=
  congrArg (Option.map _) open_

theorem Station.findItem_scanned (found : x.findItem ref = some i) :
    (x.scanned ref h i c).findItem ref = some { i.unidentified h (some c.number) with matching := false } :=
  Station.findItem_written _ (f := fun k => { k with matching := false }) (fun _ => rfl) (x.findItem_taken found)

theorem Station.scanned_context (open_ : x.tracker.context = some c) : (x.scanned ref h i c).tracker.context = some (c.stamp ref) :=
  x.taken_context open_

theorem Station.pinned_scanned (e : Entry) : (x.scanned ref h i c).pinned e = x.pinned e := by
  have identified : (x.identified ref h .unidentified none i.holdsMisread).pinned e = x.pinned e :=
    x.pinned_modifyItem (f := fun k => (k.closeWindow h).withOutcome .unidentified none i.holdsMisread) (fun _ => rfl) e
  have taken : (x.taken ref h i c).pinned e = (x.identified ref h .unidentified none i.holdsMisread).pinned e :=
    Station.pinned_modifyItem _ (f := fun k => { k with consignment := some c.number }) (fun _ => rfl) e
  exact (Station.pinned_modifyItem _ (f := fun k => { k with matching := false }) (fun _ => rfl) e).trans (taken.trans identified)

variable (closes : x.SecondReaderCloses ref h i) (clear0 : i.crowdMarks.reader0 = false) (clear1 : i.crowdMarks.reader1 = false)
  (is : reconcile (slotVerdict i.slot0) (slotVerdict i.slot1) = .unidentified) (open_ : x.tracker.context = some c)
  (more : c.declared = 0 ∨ min 65535 (c.counted + 1) ≠ c.declared)

include closes clear0 clear1 is open_ more

theorem Station.SecondReaderCloses.takes : x.windowCloses ref h = (x.taken ref h i c).takeIntoMatching ref :=
  (closes.of_unidentified clear0 clear1 is).trans
    ((Station.stampItem_of_open _ true (by exact open_) more).trans (if_pos rfl))

theorem Station.SecondReaderCloses.takes_weighed (weighs : i.weight.isSome = true) :
    x.windowCloses ref h = (x.taken ref h i c).runMatching ref :=
  (closes.takes clear0 clear1 is open_ more).trans (Station.takeIntoMatching_of_weight _ (x.findItem_taken closes.item) weighs)

/-- The tests before the scan decide an item with a weight outcome. -/
theorem Station.SecondReaderCloses.tested {mark : Option TrackerMark} (weighs : i.weight.isSome = true) (unkeyed : i.corr = .unkeyed)
    (tested : (x.startup.state = .listenOnly ∧ mark = some .notActive) ∨
      (x.startup.state ≠ .listenOnly ∧ i.calMark = true ∧ mark = i.trackerMark) ∨
      (x.startup.state ≠ .listenOnly ∧ i.calMark = false ∧ i.grams = none ∧ mark = some .weightAbsent)) :
    ∃ f : Item → Item, x.windowCloses ref h = (x.taken ref h i c).modifyItem ref f ∧ (∀ k, (f k).ref = k.ref) ∧
      f (i.unidentified h (some c.number)) = { i.unidentified h (some c.number) with matching := false, trackerMark := mark } := by
  have own : (i.unidentified h (some c.number)).ref = ref := (x.findItem_ref closes.item :)
  have member : (i.unidentified h (some c.number)).ref ∈ (c.stamp ref).members := by simp [own, Consignment.stamp]
  obtain ⟨f, ran, keeps, item⟩ := Station.runMatching_of_tested _ (x.findItem_taken closes.item) unkeyed
    (.inr ⟨_, x.taken_context open_, member, tested⟩)
  exact ⟨f, (closes.takes_weighed clear0 clear1 is open_ more weighs).trans ran, keeps.ref, item⟩

variable {grams : Nat} {spread below : Bool} (unkeyed : i.corr = .unkeyed) (plain : i.calMark = false)
  (weighs : i.weight = some (.present grams spread below)) (ready : x.startup.state ≠ .listenOnly)

include unkeyed plain weighs ready

theorem Station.SecondReaderCloses.scans : x.windowCloses ref h = (x.scanned ref h i c).matchRoster (i.unidentified h (some c.number)) grams (c.stamp ref) :=
  (closes.takes_weighed clear0 clear1 is open_ more (by rw [weighs]; rfl)).trans
    (Station.runMatching_of_scan _ (x.findItem_taken closes.item) unkeyed (x.taken_context open_) (by simp [Consignment.stamp]) ready plain
      (by simp [Item.unidentified, Item.withOutcome, Item.closeWindow, Item.grams, weighs]))

omit closes clear0 clear1 is open_ more unkeyed plain ready in
theorem Item.unidentified_unsteady (n : Option Nat) : (i.unidentified h n).unsteady = (i.gap || spread) := by
  rw [show (i.unidentified h n).unsteady = i.unsteady from rfl, Item.unsteady, weighs]

/-- No reference passes: a key is issued. -/
theorem Station.SecondReaderCloses.issues
    (fails : ∀ k ∈ c.roster.reverse.take x.cfg.scanDepth, ¬ x.Passes grams (i.gap || spread) i.thickness k) :
    x.windowCloses ref h = (x.scanned ref h i c).issueProvisional ref c.number ⟨grams, i.gap || spread, i.thickness⟩ (c.stamp ref) := by
  have unsteady := Item.unidentified_unsteady (h := h) weighs (some c.number)
  have own : (i.unidentified h (some c.number)).ref = ref := (x.findItem_ref closes.item :)
  have none : (x.scanned ref h i c).scanRoster grams (i.unidentified h (some c.number)).unsteady
      (i.unidentified h (some c.number)).thickness (c.stamp ref).roster = none := by
    rw [unsteady]
    exact Station.scanRoster_eq_none _ fails
  rw [closes.scans clear0 clear1 is open_ more unkeyed plain weighs ready, Station.matchRoster, none, own, unsteady]
  rfl

/-- The newest reference that passes is the match. -/
theorem Station.SecondReaderCloses.matches_ {newer older : List Key} {k : Key} {e : Entry}
    (distinct : (x.table.entries.map Entry.key).Nodup) (scan : c.roster.reverse.take x.cfg.scanDepth = newer ++ k :: older)
    (fails : ∀ a ∈ newer, ¬ x.Passes grams (i.gap || spread) i.thickness a) (pass : x.Passes grams (i.gap || spread) i.thickness k)
    (entry : x.entry k = some e) : x.windowCloses ref h =
      { (x.scanned ref h i c).wrote k { e with committed := max e.committed (min 255 (e.committed + 1)) } with
        tracker := { (x.scanned ref h i c).tracker with matches_ := x.tracker.matches_ + 1 } }.modifyItem ref
          (Item.matched k (min 255 (e.committed + 1))) := by
  have unsteady := Item.unidentified_unsteady (h := h) weighs (some c.number)
  have own : (i.unidentified h (some c.number)).ref = ref := (x.findItem_ref closes.item :)
  have matched := (x.scanned ref h i c).matchRoster_of_match (grams := grams) (i := i.unidentified h (some c.number)) (c := c.stamp ref) scan
    (fun a listed => by rw [unsteady]; exact fails a listed) (by rw [unsteady]; exact pass) entry distinct
  rw [own] at matched
  exact (closes.scans clear0 clear1 is open_ more unkeyed plain weighs ready).trans matched

end unidentified

/-- Settles O18: a slip by its two contexts, matching by its scan, its tests and the wait for a weight, and a last stamp by the summary. -/
theorem consignmentAtTheIdentifierClose : Obligations.ConsignmentAtTheIdentifierClose := by
  unfold Obligations.ConsignmentAtTheIdentifierClose
  refine ⟨fun x q ref h i slip closes clear0 clear1 is => ?slip,
    fun x q ref h i c grams spread below => ?issue,
    fun x q ref h i c grams spread below newer older k e => ?match_,
    fun x q ref h i closes clear0 clear1 is unkeyed more => ?tests,
    fun x q ref h i c closes noSlip open_ declared last => ?completes⟩
  case slip =>
    refine ⟨_, exec_windowClose_closes q (closes.of_slip clear0 clear1 is), Station.takeSlip_tracker _ slip, ?_⟩
    cases open_ : x.tracker.context with
    | none => 
      have opened : (x.identified ref h .slip none false).takeSlip slip = (x.identified ref h .slip none false).openContext slip := by
        rw [Station.takeSlip, show (x.identified ref h .slip none false).tracker.context = none from open_]
      rw [opened]
      exact ⟨rfl, rfl⟩
    | some c =>
      intro ready room
      have closed : (x.identified ref h .slip none false).takeSlip slip =
          ((x.identified ref h .slip none false).closeContext (c.causeBySlip slip)).openContext slip := by
        rw [Station.takeSlip, show (x.identified ref h .slip none false).tracker.context = some c from open_]
      rw [closed, Station.closeContext_of_open _ _ (by exact open_), Station.buildRecord_of_room _ _ (by exact ready) (by exact room)]
      rfl
  case issue =>
    intro key closes clear0 clear1 is unkeyed plain weighs ready open_ more short fails n above below4096 held stamped
    have runs := closes.issues clear0 clear1 is open_ more unkeyed plain weighs ready fails
    set v := x.scanned ref h i c with scanned
    have context : v.tracker.context = some stamped := x.scanned_context open_
    have frame := v.issueProvisional_changes ref c.number ⟨grams, i.gap || spread, i.thickness⟩ (c.stamp ref)
    have item := x.findItem_scanned (h := h) (c := c) closes.item
    obtain ⟨j, there, -⟩ := v.issueProvisional_matches ref c.number ⟨grams, i.gap || spread, i.thickness⟩ (c.stamp ref) ref _ item
    have index (free : n = 4095 ∨ x.entry (key n) = none) : v.freeIndex c.number 4096 (c.stamp ref).nextIndex = n :=
      v.freeIndex_eq c.number (by omega) above below4096 held free
    have reads {t : Station} {f : Item → Item} (keeps : ∀ k, (f k).ref = k.ref)
        (is : v.issueProvisional ref c.number ⟨grams, i.gap || spread, i.thickness⟩ (c.stamp ref) = t.modifyItem ref f)
        (lane : t.lane = v.lane) : j = f { i.unidentified h (some c.number) with matching := false } := by
      rw [is, t.findItem_written keeps (by rw [Station.findItem, lane]; exact item)] at there
      exact (Option.some.inj there).symm
    refine ⟨_, j, exec_windowClose_closes q runs, there, ?_, ?_, fun below fresh place => ?_, fun last => ?_, fun below fresh full pinned => ?_⟩
    · exact link_of_same (frame .txQueue (by decide)) (frame .rxQueue (by decide)) (frame .line (by decide))
        (frame .generator (by decide)) (frame .gate (by decide)) (frame .linkCounts (by decide))
    · exact claims_of_same (frame .tally (by decide)) (frame .claimCounts (by decide))
    · have issued := v.issueProvisional_of_place (stored := ⟨grams, i.gap || spread, i.thickness⟩) ref (index (.inr fresh)) below fresh place
      rw [reads (f := Item.matched (provisionalKey c.number n) 1) (fun _ => rfl) issued rfl, issued]
      refine ⟨rfl, rfl, rfl, rfl, ?_⟩
      rw [Station.modifyItem_tracker, context, ← addToRoster_eq _ short]
      rfl
    · have issued := v.issueProvisional_of_last (number := c.number) (stored := ⟨grams, i.gap || spread, i.thickness⟩) ref
        (last ▸ index (.inl last))
      rw [reads (f := fun k => { k with trackerMark := some .noKey }) (fun _ => rfl) issued rfl, issued]
      refine ⟨rfl, unkeyed, rfl, rfl, ?_⟩
      simp only [Station.markItem, Station.modifyItem_tracker, Station.modifyContext, context]
      rfl
    · have issued := v.issueProvisional_of_pinned (stored := ⟨grams, i.gap || spread, i.thickness⟩) ref (index (.inr fresh)) below full
        fun e listed => (x.pinned_scanned e).trans (pinned e listed)
      rw [reads (f := fun k => { k with trackerMark := some .tableFull }) (fun _ => rfl) issued rfl, issued]
      refine ⟨rfl, unkeyed, rfl, rfl, (Station.flag_raise _ .tableFull .tableFull).trans (by simp), ?_⟩
      simp only [Station.markItem, Station.modifyItem_tracker, Station.raise_tracker, context]
      rfl
  case match_ =>
    intro passes closes clear0 clear1 is unkeyed plain weighs ready open_ more distinct scan fails pass entry ordinal e'
    have runs := closes.matches_ clear0 clear1 is open_ more unkeyed plain weighs ready distinct scan fails pass entry
    refine ⟨_, _, exec_windowClose_closes q runs, Station.findItem_written _ (f := Item.matched k (min 255 (e.committed + 1))) (fun _ => rfl)
      (by exact x.findItem_scanned closes.item), rfl, rfl, rfl, rfl, rfl, ?_, rfl, rfl, rfl⟩
    exact congrArg (fun o => { x.tracker with context := o, matches_ := x.tracker.matches_ + 1 }) (x.scanned_context open_)
  case tests =>
    cases open_ : x.tracker.context with
    | none =>
      have runs := closes.of_unidentified clear0 clear1 is
      rw [Station.stampItem_of_none _ true (by exact open_), if_pos rfl] at runs
      exact ⟨_, _, exec_windowClose_closes q runs, Station.findItem_written _ (f := fun k => { k with trackerMark := some .noKey }) (fun _ => rfl)
        (x.findItem_identified h .unidentified none i.holdsMisread closes.item), ⟨rfl, unkeyed, rfl, rfl, rfl, rfl⟩, rfl⟩
    | some c =>
      have item := x.findItem_taken (h := h) (c := c) closes.item
      cases weighs : i.weight with
      | none =>
        have runs := (closes.takes clear0 clear1 is open_ (more c open_)).trans (Station.takeIntoMatching_of_no_weight _ item weighs)
        exact ⟨_, _, exec_windowClose_closes q runs, Station.findItem_written _ (f := fun k => { k with matching := true }) (fun _ => rfl) item,
          rfl, ⟨rfl, unkeyed, rfl, rfl, rfl, rfl⟩, rfl⟩
      | some w =>
        have weighed : i.weight.isSome = true := by rw [weighs]; rfl
        have runs := closes.takes_weighed clear0 clear1 is open_ (more c open_) weighed
        obtain ⟨j, there, matched, ended⟩ := Station.runMatching_item _ item
        have left {mark : Option TrackerMark} (before : (x.startup.state = .listenOnly ∧ mark = some .notActive) ∨
            (x.startup.state ≠ .listenOnly ∧ i.calMark = true ∧ mark = i.trackerMark) ∨
            (x.startup.state ≠ .listenOnly ∧ i.calMark = false ∧ i.grams = none ∧ mark = some .weightAbsent)) :
            j.trackerMark = mark ∧ j.corr = .unkeyed ∧ j.key = i.key ∧
              ((x.taken ref h i c).runMatching ref).table = x.table ∧ ((x.taken ref h i c).runMatching ref).claims = x.claims ∧
              ((x.taken ref h i c).runMatching ref).link = x.link := by
          obtain ⟨f, ran, keeps, is⟩ := closes.tested clear0 clear1 is open_ (more c open_) weighed unkeyed before
          rw [runs] at ran
          rw [ran, Station.findItem_written _ keeps item, is] at there
          cases there
          rw [ran]
          exact ⟨rfl, unkeyed, rfl, rfl, rfl, rfl⟩
        refine ⟨_, j, exec_windowClose_closes q runs, there, by rw [matched.1]; rfl, ended, fun listens => left (.inl ⟨listens, rfl⟩),
          fun ready calibrates => left (.inr (.inl ⟨ready, calibrates, rfl⟩)), fun ready plain absent => ?_⟩
        obtain ⟨cause, rfl⟩ := absent
        exact left (.inr (.inr ⟨ready, plain, by rw [Item.grams, weighs], rfl⟩))
  case completes =>
    by_cases crowded : i.crowdMarks.reader0 = true ∨ i.crowdMarks.reader1 = true
    · obtain ⟨⟨j, there, consignment⟩, context, summary⟩ := Station.stampItem_completes _ false
        (x.findItem_identified h (.refused false) none false closes.item) (by exact open_) declared last
      exact ⟨_, j, exec_windowClose_closes q (closes.of_crowded crowded), there, consignment, context, summary⟩
    · have noSlip' : ∀ slip, reconcile (slotVerdict i.slot0) (slotVerdict i.slot1) ≠ .slip slip := by
        rcases noSlip with mark | mark | no
        · exact absurd (.inl mark) crowded
        · exact absurd (.inr mark) crowded
        · exact no
      simp only [not_or, Bool.not_eq_true] at crowded
      obtain ⟨clear0, clear1⟩ := crowded
      cases is : reconcile (slotVerdict i.slot0) (slotVerdict i.slot1) with
      | slip slip => exact absurd is (noSlip' slip)
      | keyed k =>
        obtain ⟨⟨j, there, consignment⟩, context, summary⟩ := Station.stampItem_completes _ false
          (x.findItem_identified h .keyed (some k) i.holdsMisread closes.item) (by exact open_) declared last
        obtain ⟨corr, tally, taken⟩ := Station.findItem_takeKey (k := k) _ there
        obtain ⟨closed, sent⟩ := Station.takeKey_closed _ (ref := ref) k context
        exact ⟨_, _, exec_windowClose_closes q (closes.of_keyed clear0 clear1 is), taken, consignment, closed,
          fun ready room => sent _ (summary ready room)⟩
      | unidentified =>
        obtain ⟨⟨j, there, consignment⟩, context, summary⟩ := Station.stampItem_completes _ true
          (x.findItem_identified h .unidentified none i.holdsMisread closes.item) (by exact open_) declared last
        exact ⟨_, j, exec_windowClose_closes q (closes.of_unidentified clear0 clear1 is), there, consignment, context, summary⟩
      | ambiguous =>
        obtain ⟨⟨j, there, consignment⟩, context, summary⟩ := Station.stampItem_completes { x.identified ref h (.refused true) none false with
          keyCounts := { x.keyCounts with ambiguous := x.keyCounts.ambiguous + 1 } } false
          (x.findItem_identified h (.refused true) none false closes.item) (by exact open_) declared last
        exact ⟨_, j, exec_windowClose_closes q (closes.of_ambiguous clear0 clear1 is), there, consignment, context, summary⟩

end Sys2Proof.Machine
end

section
/-! SUPPORT. Items and frames through an operation: each item left comes from one with its ref, and frames only join the transmit queue at
its back; what a departure's room does of both (R168, R184). -/

namespace Sys2Proof.Machine

/-! ### Items that evolve -/

/-- Every item read in the second station comes from the one of its ref in the first, and stands to it as the relation says. -/
def Station.Evolves (R : Item → Item → Prop) (s t : Station) : Prop :=
  ∀ ref j, t.findItem ref = some j → ∃ i, s.findItem ref = some i ∧ R i j

section evolves

variable {R S T : Item → Item → Prop} {s t u : Station}

theorem Station.Evolves.refl (alike : ∀ i, R i i) : s.Evolves R s := fun _ j found => ⟨j, found, alike j⟩

theorem Station.Evolves.comp (h : s.Evolves R t) (g : t.Evolves S u) (joins : ∀ i j k, R i j → S j k → T i k) : s.Evolves T u :=
  fun ref k found => by
    obtain ⟨j, before, second⟩ := g ref k found
    obtain ⟨i, start, first⟩ := h ref j before
    exact ⟨i, start, joins i j k first second⟩

theorem Station.Evolves.trans (joins : ∀ {i j k}, R i j → R j k → R i k) (h : s.Evolves R t) (g : t.Evolves R u) : s.Evolves R u :=
  h.comp g fun _ _ _ => joins

theorem Station.Evolves.mono (h : s.Evolves R t) (weaker : ∀ i j, R i j → S i j) : s.Evolves S t := fun ref j found => by
  obtain ⟨i, start, first⟩ := h ref j found
  exact ⟨i, start, weaker i j first⟩

theorem Station.Evolves.of_queue (same : t.lane.queue = s.lane.queue) (alike : ∀ i, R i i) : s.Evolves R t := fun ref j found =>
  ⟨j, by rw [Station.findItem, ← same]; exact found, alike j⟩

theorem Station.Evolves.of_frame {bs : List Block} (h : Changes bs s t) (apart : Block.items ∉ bs) (alike : ∀ i, R i i) : s.Evolves R t :=
  .of_queue (h .items apart) alike

/-- A write of every item, by a function that keeps refs. -/
theorem Station.Evolves.of_map {f : Item → Item} (queue : t.lane.queue = s.lane.queue.map f) (keeps : ∀ i, (f i).ref = i.ref)
    (writes : ∀ i, R i (f i)) : s.Evolves R t := fun ref j found => by
  rw [Station.findItem, queue, List.find?_map] at found
  obtain ⟨i, there, rfl⟩ := Option.map_eq_some_iff.mp found
  refine ⟨i, ?_, writes i⟩
  rw [← there, Station.findItem]
  congr 1
  funext k
  simp only [Function.comp, keeps]

variable (s)

theorem Station.modifyItem_evolves (r : ItemRef) {f : Item → Item} (keeps : ∀ i, (f i).ref = i.ref) (alike : ∀ i, R i i)
    (writes : ∀ i, R i (f i)) : s.Evolves R (s.modifyItem r f) := by
  refine .of_map (f := fun i => if i.ref = r then f i else i) rfl (fun i => ?_) fun i => ?_
  · split
    · exact keeps i
    · rfl
  · split
    · exact writes i
    · exact alike i

/-- A write of the items of one ref, judged by the one that is read. -/
theorem Station.modifyItem_evolves_found {r : ItemRef} {f : Item → Item} (keeps : ∀ i, (f i).ref = i.ref) (alike : ∀ i, R i i)
    (writes : ∀ i, s.findItem r = some i → R i (f i)) : s.Evolves R (s.modifyItem r f) := fun ref j found => by
  by_cases own : ref = r
  · subst own
    rw [s.findItem_modifyItem ref f fun k own => (keeps k).trans own] at found
    obtain ⟨i, there, rfl⟩ := Option.map_eq_some_iff.mp found
    exact ⟨i, there, writes i there⟩
  · rw [s.findItem_modifyItem_other r ref f keeps own] at found
    exact ⟨j, found, alike j⟩

theorem Station.removeItem_evolves (r : ItemRef) (g : Bool) (alike : ∀ i, R i i) : s.Evolves R (s.removeItem r g) := fun ref j found => by
  have own := Station.findItem_ref _ found
  rw [Station.findItem, s.removeItem_queue, List.find?_filter] at found
  refine ⟨j, ?_, alike j⟩
  have listed := List.mem_of_find?_eq_some found
  by_cases same : ref = r
  · have no := List.find?_some found
    simp [own, same] at no
  · rw [← found, Station.findItem]
    congr 1
    funext k
    by_cases mine : k.ref = ref <;> simp [mine, same]

theorem Station.removeItem_keeps {r ref : ItemRef} (g : Bool) (other : ref ≠ r) : (s.removeItem r g).findItem ref = s.findItem ref := by
  rw [Station.findItem, s.removeItem_queue, List.find?_filter, Station.findItem]
  congr 1
  funext k
  by_cases mine : k.ref = ref <;> simp [mine, other]

end evolves

/-! ### Frames that join the transmit queue -/

/-- Frames of a kind join the transmit queue at its back, and every other frame stays at its place. -/
def Station.Sends (P : TxFrame → Prop) (s t : Station) : Prop := ∃ fs, t.link.txQueue = s.link.txQueue ++ fs ∧ ∀ f ∈ fs, P f

section sends

variable {P Q : TxFrame → Prop} {s t u : Station}

theorem Station.Sends.of_queue (same : t.link.txQueue = s.link.txQueue) : s.Sends P t := ⟨[], by rw [same, List.append_nil], fun _ no => absurd no List.not_mem_nil⟩

theorem Station.Sends.of_frame {bs : List Block} (h : Changes bs s t) (apart : Block.txQueue ∉ bs) : s.Sends P t := .of_queue (h .txQueue apart)

theorem Station.Sends.trans (h : s.Sends P t) (g : t.Sends P u) : s.Sends P u := by
  obtain ⟨fs, queue, first⟩ := h
  obtain ⟨gs, queueToo, second⟩ := g
  exact ⟨fs ++ gs, by rw [queueToo, queue, List.append_assoc], fun f listed => (List.mem_append.mp listed).elim (first f) (second f)⟩

theorem Station.Sends.mono (h : s.Sends P t) (weaker : ∀ f, P f → Q f) : s.Sends Q t := by
  obtain ⟨fs, queue, first⟩ := h
  exact ⟨fs, queue, fun f listed => weaker f (first f listed)⟩

theorem Station.Sends.mem (h : s.Sends P t) {f : TxFrame} (queued : f ∈ s.link.txQueue) : f ∈ t.link.txQueue := by
  obtain ⟨fs, queue, -⟩ := h
  rw [queue]
  exact List.mem_append_left _ queued

theorem Station.Sends.origin (h : s.Sends P t) {f : TxFrame} (queued : f ∈ t.link.txQueue) : f ∈ s.link.txQueue ∨ P f := by
  obtain ⟨fs, queue, kind⟩ := h
  rw [queue] at queued
  exact (List.mem_append.mp queued).imp_right (kind f)

variable (s)

theorem Station.txPush_sends {b : Body} (kind : P ⟨b, 0, .ready, false⟩) : s.Sends P (s.txPush b) :=
  ⟨[⟨b, 0, .ready, false⟩], rfl, fun f listed => by rw [List.mem_singleton.mp listed]; exact kind⟩

theorem Station.offerNotice_sends {b : Body} (kind : P ⟨b, 0, .ready, false⟩) : s.Sends P (s.offerNotice b) := by
  rw [Station.offerNotice_eq]
  split
  · exact s.txPush_sends kind
  · exact .of_queue rfl

theorem Station.buildRecord_sends {b : Body} (kind : P ⟨b, 0, .ready, false⟩) : s.Sends P (s.buildRecord b) := by
  unfold Station.buildRecord
  split
  · exact .of_queue rfl
  · rcases s.offerRecord_cases b with ⟨-, queue, -⟩ | ⟨-, -, link, -⟩ | ⟨-, -, link, -⟩
    · exact ⟨_, queue, fun f listed => by rw [List.mem_singleton.mp listed]; exact kind⟩
    · exact .of_queue (by rw [link])
    · exact .of_queue (by rw [link])

/-- The frame of a COMMIT as it joins. -/
def TxFrame.isNewCommit (f : TxFrame) : Prop := ∃ k t r o, f = ⟨.commit k t r o, 0, .ready, false⟩

theorem Station.retest_sends (k : Key) : s.Sends TxFrame.isNewCommit (s.retest k) :=
  s.retest_keeps (P := s.Sends TxFrame.isNewCommit) (fun t e c held _ _ _ _ => held.trans (by
    rw [Station.commitOrdinary, Station.commitAs]
    exact (Station.Sends.of_queue (by simp)).trans (Station.offerNotice_sends _ ⟨_, _, _, _, rfl⟩))) (.of_queue rfl)

theorem Station.report_sends (k : Key) (before : Option Entry) (o : Bool) : s.Sends TxFrame.isNewCommit (s.report k before o) := by
  unfold Station.report
  split
  · exact .of_queue rfl
  · split
    · split
      · exact (Station.Sends.of_frame (s.markOverfull_changes k) (by decide)).trans (Station.retest_sends _ k)
      · exact s.retest_sends k
    · exact .of_queue rfl

end sends

/-! ### The room that a departure leaves (R168, R184) -/

/-- An item as the room may leave it: its DEPOSIT held in the slot. -/
def Item.HeldFrom (i j : Item) : Prop := j = { i with depositHeld := j.depositHeld }

theorem Item.HeldFrom.refl (i : Item) : i.HeldFrom i := rfl

theorem Item.HeldFrom.trans {i j k : Item} (h : i.HeldFrom j) (g : j.HeldFrom k) : i.HeldFrom k := by
  unfold Item.HeldFrom at *
  rw [g, h]

/-- A frame that a departure's room may bring into the queue. -/
def Station.FromRoom (s : Station) (restarting : Bool) (f : TxFrame) : Prop :=
  f = ⟨f.body, 0, .ready, false⟩ ∧ (s.records.overflow = some f.body ∨ (restarting = false ∧ ∃ d, f.body = .deposit d) ∨
    (s.startup.announce = .waiting ∧ f.body = .announce s.claims.tally s.cfg.version))

/-- No item of a ref has departed or holds the slot. -/
def Station.Present (ref : ItemRef) (s : Station) : Prop := ∀ k ∈ s.lane.queue, k.ref = ref → k.departed = false ∧ k.depositHeld = false

variable (s : Station)

theorem Station.offerDeposit_evolves (i : Item) (g : Bool) : s.Evolves Item.HeldFrom (s.offerDeposit i g) := by
  unfold Station.offerDeposit
  split
  · exact .trans Item.HeldFrom.trans (.of_queue (t := s.txPush (.deposit i.deposit)) rfl .refl) (Station.removeItem_evolves _ _ _ .refl)
  · exact .trans Item.HeldFrom.trans (.of_frame (changes_overflow s _) (by decide) .refl)
      (Station.modifyItem_evolves _ _ (fun _ => rfl) .refl (fun _ => by exact rfl))
  · exact .refl .refl

theorem Station.removeDeposited_evolves (b : Body) (g : Bool) : s.Evolves Item.HeldFrom (s.removeDeposited b g) := by
  unfold Station.removeDeposited
  split
  · split
    · split
      · exact s.removeItem_evolves _ _ .refl
      · exact .refl .refl
    · exact .refl .refl
  · exact .refl .refl

theorem Station.moveOverflow_evolves (restarting : Bool) : s.Evolves Item.HeldFrom (s.moveOverflow restarting) := by
  unfold Station.moveOverflow
  split
  · exact .refl .refl
  next b slot =>
    split
    · have moved : s.Evolves Item.HeldFrom (({ s with records := { s.records with overflow := none } }.txPush b).removeDeposited b (!restarting)) :=
        .trans Item.HeldFrom.trans (.of_queue (t := { s with records := { s.records with overflow := none } }.txPush b) rfl .refl)
          (Station.removeDeposited_evolves _ b _)
      dsimp only
      split
      · exact moved
      · split
        · exact .trans Item.HeldFrom.trans moved (Station.offerDeposit_evolves _ _ _)
        · exact moved
    · exact .refl .refl

/-- Of the items the room removes some, and marks the one whose DEPOSIT takes the slot. -/
theorem Station.roomReport_evolves (restarting : Bool) : s.Evolves Item.HeldFrom (s.roomReport restarting) := by
  unfold Station.roomReport
  dsimp only
  split
  · exact .trans Item.HeldFrom.trans (s.moveOverflow_evolves restarting) (.of_frame (Station.offerAnnounce_changes _) (by decide) .refl)
  · exact s.moveOverflow_evolves restarting

theorem Station.offerDeposit_keeps {ref : ItemRef} {i : Item} (g : Bool) (other : ref ≠ i.ref) :
    (s.offerDeposit i g).findItem ref = s.findItem ref := by
  unfold Station.offerDeposit
  split
  · exact (Station.removeItem_keeps _ g other).trans rfl
  · exact (Station.findItem_modifyItem_other _ i.ref ref _ (fun _ => by rfl) other).trans rfl
  · rfl

/-- An item that has neither departed nor holds the slot stays as it is. -/
theorem Station.findItem_roomReport {ref : ItemRef} (restarting : Bool) (present : s.Present ref) :
    (s.roomReport restarting).findItem ref = s.findItem ref := by
  have deposited (t : Station) (b : Body) (g : Bool) (queue : t.lane.queue = s.lane.queue) :
      (t.removeDeposited b g).findItem ref = s.findItem ref ∧ ∀ k ∈ (t.removeDeposited b g).lane.queue, k ∈ s.lane.queue := by
    have same : t.findItem ref = s.findItem ref := by rw [Station.findItem, queue, Station.findItem]
    unfold Station.removeDeposited
    split
    next d =>
      split
      next i found =>
        split
        next held =>
          refine ⟨(t.removeItem_keeps g fun own => ?_).trans same, fun k listed => ?_⟩
          · have listed := t.findItem_mem found
            rw [queue] at listed
            exact absurd (held.symm.trans (present i listed ((t.findItem_ref found).trans own.symm)).2) (by simp)
          · rw [t.removeItem_queue, queue] at listed
            exact List.mem_of_mem_filter listed
        next => exact ⟨same, by rw [queue]; exact fun _ => id⟩
      next => exact ⟨same, by rw [queue]; exact fun _ => id⟩
    next => exact ⟨same, by rw [queue]; exact fun _ => id⟩
  have moved : (s.moveOverflow restarting).findItem ref = s.findItem ref := by
    unfold Station.moveOverflow
    split
    · rfl
    next b slot =>
      split
      · obtain ⟨same, fewer⟩ := deposited ({ s with records := { s.records with overflow := none } }.txPush b) b (!restarting) rfl
        dsimp only
        split
        · exact same
        · split
          next i oldest =>
            refine (Station.offerDeposit_keeps _ true fun own => ?_).trans same
            have departed := List.find?_some oldest
            have stays := (present i (fewer i (List.mem_of_find?_eq_some oldest)) own.symm).1
            exact absurd (departed.symm.trans stays) (by simp)
          next => exact same
      · rfl
  unfold Station.roomReport
  dsimp only
  split
  · exact (Station.findItem_of_items (Station.offerAnnounce_changes _ .items (by decide)) ref).trans moved
  · exact moved

/-- What joins the queue at the room: the slot's record, then a departed item's DEPOSIT, then a waiting ANNOUNCE. -/
theorem Station.roomReport_sends (restarting : Bool) : s.Sends (s.FromRoom restarting) (s.roomReport restarting) := by
  have deposit (t : Station) (i : Item) (g : Bool) (going : restarting = false) : t.Sends (s.FromRoom restarting) (t.offerDeposit i g) := by
    unfold Station.offerDeposit
    split
    · exact (t.txPush_sends ⟨rfl, .inr (.inl ⟨going, _, rfl⟩)⟩).trans (.of_frame (Station.removeItem_changes _ _ _) (by decide))
    · exact .of_queue rfl
    · exact .of_queue rfl
  have moved : s.Sends (s.FromRoom restarting) (s.moveOverflow restarting) := by
    unfold Station.moveOverflow
    split
    · exact .of_queue rfl
    next b slot =>
      split
      · have record : s.Sends (s.FromRoom restarting)
            (({ s with records := { s.records with overflow := none } }.txPush b).removeDeposited b (!restarting)) :=
          (Station.txPush_sends { s with records := { s.records with overflow := none } } ⟨rfl, .inl slot⟩ : s.Sends _ _).trans
            (.of_frame (Station.removeDeposited_changes _ b _) (by decide))
        dsimp only
        split
        · exact record
        next going =>
          split
          · exact record.trans (deposit _ _ _ (by simpa using going))
          · exact record
      · exact .of_queue rfl
  have frame := s.moveOverflow_changes restarting
  unfold Station.roomReport
  dsimp only
  split
  next waits =>
    refine moved.trans ?_
    unfold Station.offerAnnounce
    refine (Station.offerNotice_sends _ ⟨rfl, .inr (.inr ⟨?_, ?_⟩)⟩).trans (.of_queue rfl)
    · rw [← show (s.moveOverflow restarting).startup.announce = s.startup.announce from frame .announce (by decide)]
      exact waits
    · obtain ⟨settings, -⟩ := frame .settings (by decide)
      have tally : (s.moveOverflow restarting).claims.tally = s.claims.tally := frame .tally (by decide)
      rw [tally, Station.cfg, settings, Station.cfg]
  next => exact moved

end Sys2Proof.Machine
end

section
/-! SUPPORT. Entries through a command: counts that never go back, and the entries of other keys (R95, R96, R111); the tally (R117). -/

namespace Sys2Proof.Machine

/-! ### Counts -/

/-- An entry as a command may leave it: its count no smaller, KNOWN not left (R95, R96). -/
structure Entry.GrownFrom (e e' : Entry) : Prop where
  key : e'.key = e.key
  count : e.committed ≤ e'.committed
  known : e.holdings = .known → e'.holdings = .known

theorem Entry.GrownFrom.refl (e : Entry) : e.GrownFrom e := ⟨rfl, le_rfl, id⟩

theorem Entry.GrownFrom.trans {a b c : Entry} (h : a.GrownFrom b) (g : b.GrownFrom c) : a.GrownFrom c :=
  ⟨g.key.trans h.key, h.count.trans g.count, g.known ∘ h.known⟩

theorem Entry.removeClaims_grown (p : Claim → Bool) (e : Entry) : e.GrownFrom (e.removeClaims p) := ⟨rfl, le_rfl, id⟩

theorem Entry.commitOwn_grown (ref : ItemRef) (n : Nat) (t : Tally) (e : Entry) : e.GrownFrom (e.commitOwn ref n t) :=
  ⟨rfl, le_max_left _ _, id⟩

theorem Entry.noteAge_grown (n : Nat) (now : Millis) (e : Entry) : e.GrownFrom (e.noteAge n now) := by
  unfold Entry.noteAge
  split
  next asked => exact ⟨rfl, le_rfl, fun known => absurd (asked.symm.trans known) (by simp)⟩
  next => exact .refl e

/-- Every entry of the second station is grown from one of the first, but for those of some new keys. -/
def Station.Grows (new : Key → Prop) (s t : Station) : Prop :=
  ∀ e' ∈ t.table.entries, new e'.key ∨ ∃ e ∈ s.table.entries, e.GrownFrom e'

section grows

variable {new : Key → Prop} {s t u : Station}

theorem Station.Grows.of_fewer (fewer : ∀ e ∈ t.table.entries, e ∈ s.table.entries) : s.Grows new t :=
  fun e listed => .inr ⟨e, fewer e listed, .refl e⟩

theorem Station.Grows.of_entries (same : t.table.entries = s.table.entries) : s.Grows new t := .of_fewer fun _ listed => by rwa [← same]

theorem Station.Grows.of_frame {bs : List Block} (h : Changes bs s t) (apart : Block.entries ∉ bs) : s.Grows new t :=
  .of_entries (h .entries apart)

theorem Station.Grows.refl (s : Station) : s.Grows new s := .of_entries rfl

theorem Station.Grows.trans (h : s.Grows new t) (g : t.Grows new u) : s.Grows new u := fun e'' listed => by
  rcases g e'' listed with made | ⟨e', between, later⟩
  · exact .inl made
  rcases h e' between with made | ⟨e, before, first⟩
  · exact .inl (by rwa [later.key])
  · exact .inr ⟨e, before, first.trans later⟩

/-- Frames on both sides of a growth. -/
theorem Station.Grows.after {bs : List Block} (g : t.Grows new u) (h : Changes bs s t) (apart : Block.entries ∉ bs) : s.Grows new u :=
  (Station.Grows.of_frame h apart).trans g

theorem Station.Grows.then {bs : List Block} (g : s.Grows new t) (h : Changes bs t u) (apart : Block.entries ∉ bs) : s.Grows new u :=
  g.trans (.of_frame h apart)

theorem Station.Grows.foldl {α : Type} {f : Station → α → Station} (step : ∀ (t : Station) a, t.Grows new (f t a)) (l : List α) (s : Station) :
    s.Grows new (l.foldl f s) := by
  induction l generalizing s with
  | nil => exact .refl s
  | cons a l ih => exact (step s a).trans (ih _)

variable (s)

theorem Station.modifyEntry_grows (k : Key) {f : Entry → Entry}
    (writes : ∀ e ∈ s.table.entries, e.key = k → ∃ a ∈ s.table.entries, a.GrownFrom (f e)) : s.Grows new (s.modifyEntry k f) :=
  fun e' listed => by
    obtain ⟨e, before, rfl⟩ := List.mem_map.mp listed
    split
    next own => exact .inr (writes e before own)
    next => exact .inr ⟨e, before, .refl e⟩

theorem Station.touch_grows (k : Key) : s.Grows new (s.touch k) := by
  unfold Station.touch
  split
  · exact .refl s
  next e found =>
    refine .of_fewer fun a listed => ?_
    rcases List.mem_append.mp listed with stays | last
    · exact List.mem_of_mem_eraseP stays
    · rw [List.mem_singleton.mp last]
      exact s.entry_mem found

theorem Station.writeEntry_grows (k : Key) {f : Entry → Entry} (writes : ∀ e : Entry, e.GrownFrom (f e)) :
    s.Grows new (s.writeEntry k f) :=
  (s.modifyEntry_grows k fun e before _ => ⟨e, before, writes e⟩).trans (Station.touch_grows _ k)

/-- An entry put in the place of the one found. -/
theorem Station.writeEntry_const_grows {k : Key} {e m : Entry} (found : s.entry k = some e) (grown : e.GrownFrom m) :
    s.Grows new (s.writeEntry k fun _ => m) :=
  (s.modifyEntry_grows k fun _ _ _ => ⟨e, s.entry_mem found, grown⟩).trans (Station.touch_grows _ k)

theorem Station.createEntry_grows {e : Entry} (fresh : new e.key) : s.Grows new (s.createEntry e).1 := by
  have added (t : Station) (fewer : ∀ a ∈ t.table.entries, a ∈ s.table.entries) : s.Grows new (t.addEntry e) := fun a listed => by
    rcases List.mem_append.mp listed with stays | last
    · exact .inr ⟨a, fewer a stays, .refl a⟩
    · rw [List.mem_singleton.mp last]
      exact .inl fresh
  unfold Station.createEntry
  split_ifs
  · exact added s fun _ => id
  · split
    next x _ => exact added (s.evict x) fun _ => List.mem_of_mem_eraseP
    next => exact .of_frame ((changes_tableCounts s _).then (Station.raise_changes _ _) rfl rfl : Changes [.tableCounts, .flags] s _) (by decide)

variable {s} in
/-- The entries of a key that are not there may be new. -/
def Station.Admits (new : Key → Prop) (s : Station) : Prop := ∀ k, s.entry k = none → new k

variable {s} in
theorem Station.Admits.of_frame {bs : List Block} (fresh : s.Admits new) (h : Changes bs s t) (apart : Block.entries ∉ bs) : t.Admits new :=
  fun k none => fresh k (by rw [Station.entry, ← show t.table.entries = s.table.entries from h .entries apart]; exact none)

theorem Station.ensureEntry_grows (fresh : s.Admits new) (k : Key) (n : Nat) (h : Holdings) : s.Grows new (s.ensureEntry k n h).1 := by
  unfold Station.ensureEntry
  split
  · exact .refl s
  next none => exact s.createEntry_grows (e := newEntry k n h) (fresh k none)

theorem Station.commitAs_grows (k : Key) (c : Claim) (n : Nat) (a b d : Bool) : s.Grows new (s.commitAs k c n a b d) :=
  (s.writeEntry_grows k (Entry.commitOwn_grown c.ref n c.tally)).then
    (((Station.modifyItem_changes _ c.ref _).then (Station.countCommit_changes _ a) rfl rfl :
      Changes [.items, .claimCounts] (s.writeEntry k (Entry.commitOwn c.ref n c.tally)) _).then
        (Station.offerNotice_changes _ (.commit k c.tally c.ref n)) rfl rfl :
      Changes [.items, .claimCounts, .txQueue, .linkCounts, .flags] (s.writeEntry k (Entry.commitOwn c.ref n c.tally)) _) (by decide)

theorem Station.retest_grows (k : Key) : s.Grows new (s.retest k) :=
  s.retest_keeps (P := s.Grows new) (fun t _ _ held _ _ _ _ => held.trans (t.commitAs_grows k _ _ _ _ _)) (.refl s)

theorem Station.report_grows (k : Key) (before : Option Entry) (o : Bool) : s.Grows new (s.report k before o) := by
  unfold Station.report
  split
  · exact .refl s
  · split_ifs
    · exact (Station.retest_grows _ k).after (s.markOverfull_changes k) (by decide)
    · exact s.retest_grows k
    · exact .refl s

theorem Station.removeOwnClaim_grows (k : Key) (r : ItemRef) : s.Grows new (s.removeOwnClaim k r) :=
  s.writeEntry_grows k (Entry.removeClaims_grown _)

/-- A write of every entry. -/
theorem Station.Grows.of_map {f : Entry → Entry} (same : t.table.entries = s.table.entries.map f) (writes : ∀ e : Entry, e.GrownFrom (f e)) :
    s.Grows new t := fun e' listed => by
  rw [same] at listed
  obtain ⟨e, before, rfl⟩ := List.mem_map.mp listed
  exact .inr ⟨e, before, writes e⟩

/-! ### Keys taken, weights matched -/

theorem Station.wrote_grows {k : Key} {e m : Entry} (found : s.entry k = some e) (grown : e.GrownFrom m) : s.Grows new (s.wrote k m) :=
  fun a listed => by
    rcases List.mem_append.mp listed with stays | last
    · exact .inr ⟨a, List.mem_of_mem_eraseP stays, .refl a⟩
    · rw [List.mem_singleton.mp last]
      exact .inr ⟨e, s.entry_mem found, grown⟩

theorem Entry.claimed_grown (c : Claim) (now : Millis) (e : Entry) : e.GrownFrom (e.claimed c now) :=
  ⟨rfl, le_rfl, fun known => by simp [Entry.claimed, known]⟩

theorem Station.offerClaim_grows (r : ItemRef) {k : Key} {e : Entry} (entry : s.entry k = some e)
    (distinct : (s.table.entries.map Entry.key).Nodup) : s.Grows new (s.offerClaim r k e) := by
  by_cases room : s.link.txQueue.length < 16
  · rw [s.offerClaim_of_room room entry distinct, Station.offered]
    exact (((Station.wrote_grows (s.takeTally.txPush _) (by exact entry) (Entry.claimed_grown _ _ e)).after
      (s.takeTally_changes.then (Station.txPush_changes _ _) rfl rfl : Changes [.tally, .claimCounts, .txQueue] s _) (by decide)).then
      ((Station.countDropped_changes _ _).then (Station.modifyItem_changes _ r _) rfl rfl : Changes [.items, .tableCounts] _ _)
        (by decide)).trans (Station.report_grows _ k _ _)
  · rw [s.offerClaim_of_full (by omega)]
    exact .of_frame (s.takeTally_changes.then (Station.reject_changes _ r _) rfl rfl : Changes [.items, .tally, .claimCounts] s _) (by decide)

theorem Station.takeKey_grows (fresh : s.Admits new) (within : s.Bounded) (r : ItemRef) (k : Key) : s.Grows new (s.takeKey r k) := by
  have made := s.ensureEntry_grows fresh k 0 s.freshHoldings
  have kept := ((s.ensureEntry_steady k (Nat.zero_le _) s.freshHoldings).trans (Station.touch_steady _ k)).bounded within
  have touched := made.trans (Station.touch_grows _ k)
  unfold Station.takeKey
  dsimp only
  split
  · exact .refl s
  · split_ifs
    · exact .refl s
    · exact .refl s
    · exact .of_frame (s.reject_changes r _) (by decide)
    · exact made.then (Station.reject_changes _ r _) (by decide)
    · split
      · exact touched
      next entry =>
        split_ifs
        · exact touched.then (Station.reject_changes _ r _) (by decide)
        · exact touched.trans (Station.offerClaim_grows _ r entry kept.keys)

theorem Station.commitProvisional_grows (r : ItemRef) (k : Key) : s.Grows new (s.commitProvisional r k) := by
  unfold Station.commitProvisional
  split
  · exact .refl s
  · exact (s.writeEntry_grows k fun _ => by exact ⟨rfl, le_max_left _ _, id⟩).then (Station.modifyItem_changes _ r _) (by decide)

theorem Station.issueProvisional_grows (fresh : s.Admits new) (r : ItemRef) (number : Nat) (stored : Stored) (c : Consignment) :
    s.Grows new (s.issueProvisional r number stored c) := by
  unfold Station.issueProvisional
  dsimp only
  split
  · exact .of_frame ((s.modifyContext_changes _).then (Station.markItem_changes _ r _) rfl rfl : Changes [.items, .context] s _) (by decide)
  next more =>
    have free := s.freeIndex_fresh number (show 4095 ≤ Config.lastProvisionalIndex + 1 + c.nextIndex by
      rw [Config.lastProvisionalIndex]; omega) (not_le.mp more)
    have made := Station.Grows.after (Station.createEntry_grows (new := new) _
      (e := { newEntry (provisionalKey number (s.freeIndex number (Config.lastProvisionalIndex + 1) c.nextIndex)) 0 .known with stored := some stored })
      (by exact fresh _ free)) (s.modifyContext_changes fun x => { x with
        nextIndex := s.freeIndex number (Config.lastProvisionalIndex + 1) c.nextIndex }) (by decide)
    split
    · exact made.then (Station.markItem_changes _ r _) (by decide)
    · exact (made.then (((Station.modifyContext_changes _ _).then (Station.modifyItem_changes _ r _) rfl rfl :
        Changes [.items, .context] _ _).then (changes_trackerCounts _ _ _) rfl rfl : Changes [.items, .context, .trackerCounts] _ _)
        (by decide)).trans (Station.commitProvisional_grows _ r _)

theorem Station.matchRoster_grows (fresh : s.Admits new) (i : Item) (g : Nat) (c : Consignment) : s.Grows new (s.matchRoster i g c) := by
  unfold Station.matchRoster
  split
  · exact (((Station.touch_grows _ _).after (s.modifyItem_changes i.ref _) (by decide)).then
      (changes_trackerCounts _ _ _) (by decide)).trans (Station.commitProvisional_grows _ _ _)
  · exact s.issueProvisional_grows fresh _ _ _ _

end grows

end Sys2Proof.Machine
end

section
/-! SUPPORT. The operations that reach the table, and the commands over them: an entry that stays keeps at least its count (R95, R96). -/

namespace Sys2Proof.Machine

section grows

variable {new : Key → Prop} (s : Station)

theorem Station.runMatching_grows (fresh : s.Admits new) (r : ItemRef) : s.Grows new (s.runMatching r) := by
  have ended := s.modifyItem_changes r fun x => { x with matching := false }
  have marked (m : TrackerMark) : s.Grows new ((s.modifyItem r fun x => { x with matching := false }).markItem r m) :=
    .of_frame (ended.then (Station.markItem_changes _ r m) rfl rfl : Changes [.items] s _) (by decide)
  have stays : s.Grows new (s.modifyItem r fun x => { x with matching := false }) := .of_frame ended (by decide)
  unfold Station.runMatching
  split
  · exact .refl s
  · dsimp only
    split
    · exact stays
    · split
      · exact marked _
      · split_ifs
        · exact marked _
        · exact stays
        · split
          · exact marked _
          · exact (Station.matchRoster_grows _ (fresh.of_frame ended (by decide)) _ _ _).after ended (by decide)
        · exact marked _

theorem Station.takeIntoMatching_grows (fresh : s.Admits new) (r : ItemRef) : s.Grows new (s.takeIntoMatching r) := by
  unfold Station.takeIntoMatching
  split
  · exact .refl s
  · split_ifs
    · exact s.runMatching_grows fresh r
    · exact .of_frame (s.modifyItem_changes r _) (by decide)

theorem Station.weightArrives_grows (fresh : s.Admits new) (r : ItemRef) : s.Grows new (s.weightArrives r) := by
  unfold Station.weightArrives
  split
  · exact .refl s
  · split_ifs
    · exact s.runMatching_grows fresh r
    · exact .refl s

theorem Station.weightOutcome_grows (fresh : s.Admits new) (r : ItemRef) (w : WeightRecord) (n : Option Int) :
    s.Grows new (s.weightOutcome r w n) := by
  have written : Changes [.items, .buffers] s ((s.modifyItem r fun i => { i with weight := some w }).freeBuffer r) :=
    (s.modifyItem_changes r _).then (Station.freeBuffer_changes _ r) rfl rfl
  exact ((Station.weightArrives_grows _ (fresh.of_frame written (by decide)) r).after written (by decide)).then
    (Station.endCalibration_changes _ r n) (by decide)

theorem Station.scaleClose_grows (fresh : s.Admits new) (r : ItemRef) : s.Grows new (s.scaleClose r) := by
  unfold Station.scaleClose
  split
  · exact .refl s
  · split_ifs
    · exact s.weightOutcome_grows fresh r _ _
    · exact s.weightOutcome_grows fresh r _ _
    · split
      · exact s.weightOutcome_grows fresh r _ _
      · split_ifs
        · exact (Station.weightOutcome_grows _ (fresh.of_frame (s.countMeasure_changes _) (by decide)) r _ _).after
            (s.countMeasure_changes _) (by decide)
        · split
          · exact s.weightOutcome_grows fresh r _ _
          · exact .of_frame (s.startComputation_changes r _) (by decide)

theorem Station.lateScaleClose_grows (fresh : s.Admits new) (r : ItemRef) : s.Grows new (s.lateScaleClose r) := by
  unfold Station.lateScaleClose
  split
  · exact .refl s
  · exact s.weightOutcome_grows fresh r _ _

theorem Station.weightCompletes_grows (fresh : s.Admits new) (r : ItemRef) : s.Grows new (s.weightCompletes r) := by
  unfold Station.weightCompletes
  split
  · exact .refl s
  · split
    · exact .refl s
    · exact s.weightOutcome_grows fresh r _ _

theorem Station.stampItem_grows (fresh : s.Admits new) (r : ItemRef) (u : Bool) : s.Grows new (s.stampItem r u) := by
  unfold Station.stampItem
  split
  · split_ifs
    · exact .of_frame (s.markItem_changes r _) (by decide)
    · exact .refl s
  · dsimp only
    have stamped (f : Item → Item) (g : Consignment → Consignment) : Changes [.items, .context] s ((s.modifyItem r f).modifyContext g) :=
      (s.modifyItem_changes r f).then (Station.modifyContext_changes _ g) rfl rfl
    have matched (f : Item → Item) (g : Consignment → Consignment) :
        s.Grows new (((s.modifyItem r f).modifyContext g).takeIntoMatching r) :=
      (Station.takeIntoMatching_grows _ (fresh.of_frame (stamped f g) (by decide)) r).after (stamped f g) (by decide)
    split_ifs
    · exact (matched _ _).then (Station.closeContext_changes _ _) (by decide)
    · exact Station.Grows.then (.of_frame (stamped _ _) (by decide)) (Station.closeContext_changes _ _) (by decide)
    · exact matched _ _
    · exact .of_frame (stamped _ _) (by decide)

theorem Station.identifierClose_grows (fresh : s.Admits new) (within : s.Bounded) (r : ItemRef) (late : Bool) :
    s.Grows new (s.identifierClose r late) := by
  have stamps (t : Station) (h : Changes [.items, .keyCounts] s t) (u : Bool) : s.Grows new (t.stampItem r u) :=
    (t.stampItem_grows (fresh.of_frame h (by decide)) r u).after h (by decide)
  have wrote (o : IdOutcome) (k : Option Key) (m : Bool) : Changes [.items, .keyCounts] s (s.writeOutcome r o k m) :=
    (s.writeOutcome_changes r o k m).mono rfl
  unfold Station.identifierClose
  split
  · exact .refl s
  next i _ =>
    split
    · exact stamps _ (wrote _ _ _) _
    · split
      next k _ =>
        have stamped : Changes [.items, .context, .txQueue, .overflow, .recordCounts] s
            ((s.writeOutcome r .keyed (some k) i.holdsMisread).stampItem r false) :=
          (s.writeOutcome_changes r _ _ _).then (Station.stampItem_identified_changes _ r) rfl rfl
        have kept := ((s.modifyItem_steady r _).trans (Station.stampItem_steady (s.writeOutcome r .keyed (some k) i.holdsMisread) r false)).bounded within
        exact (Station.takeKey_grows _ (fresh.of_frame stamped (by decide)) kept r k).after stamped (by decide)
      · exact .of_frame ((s.writeOutcome_changes r _ _ _).then (Station.takeSlip_changes _ _) rfl rfl :
          Changes [.items, .context, .txQueue, .overflow, .recordCounts] s _) (by decide)
      · exact stamps _ (wrote _ _ _) _
      · exact stamps _ ((s.writeOutcome_changes r _ _ _).then (changes_keyCounts _ _) rfl rfl) _

theorem Station.windowCloses_grows (fresh : s.Admits new) (within : s.Bounded) (r : ItemRef) (h : Head) :
    s.Grows new (s.windowCloses r h) := by
  have closed := s.modifyItem_changes r (Item.closeWindow h)
  have freshToo := fresh.of_frame closed (by decide)
  have kept := (s.modifyItem_steady r (Item.closeWindow h)).bounded within
  have delivered (i : Item) : (s.modifyItem r (Item.closeWindow h)).Grows new ((s.modifyItem r (Item.closeWindow h)).deliverClose i h) := by
    unfold Station.deliverClose
    split
    · split_ifs
      · exact Station.identifierClose_grows _ freshToo kept _ _
      · exact .refl _
    · split_ifs
      · exact Station.identifierClose_grows _ freshToo kept _ _
      · exact .refl _
    · exact Station.scaleClose_grows _ freshToo _
    · exact .of_frame (Station.gaugeClose_changes _ _) (by decide)
  unfold Station.windowCloses
  split
  · exact .refl s
  · split
    · exact .refl s
    · split_ifs
      · exact (delivered _).after closed (by decide)
      · exact .refl s

/-! ### Claims -/

theorem Station.claimAbandoned_grows (k : Key) (r : ItemRef) : s.Grows new (s.claimAbandoned k r) :=
  ((Station.removeOwnClaim_grows _ k r).after (s.modifyItem_changes r _) (by decide)).trans (Station.report_grows _ k _ _)

theorem Station.settleExpires_grows (r : ItemRef) : s.Grows new (s.settleExpires r) := by
  have waits : s.Grows new (s.modifyItem r fun x => { x with corr := .waiting }) := .of_frame (s.modifyItem_changes r _) (by decide)
  unfold Station.settleExpires
  split
  · exact .refl s
  · split
    · split_ifs
      · split
        · exact waits
        · split
          · split_ifs
            · exact (s.commitAs_grows _ _ _ _ _ _).trans (Station.retest_grows _ _)
            · exact waits
          · exact waits
      · exact .refl s
    · exact .refl s

theorem Station.finalizeItem_grows (r : ItemRef) : s.Grows new (s.finalizeItem r) := by
  have removed (k : Key) : s.Grows new ((s.reject r .unsettled).removeOwnClaim k r) :=
    (Station.removeOwnClaim_grows _ k r).after (s.reject_changes r _) (by decide)
  unfold Station.finalizeItem
  split
  · exact .refl s
  · split
    · unfold Station.finalizeWaiting
      split
      · exact .refl s
      · split
        · exact .refl s
        · split_ifs
          · exact (s.commitAs_grows _ _ _ _ _ _).trans (Station.retest_grows _ _)
          · exact (s.commitAs_grows _ _ _ _ _ _).trans (Station.retest_grows _ _)
    · exact ((removed _).then (Station.takeBack_changes _ r false) (by decide)).trans (Station.report_grows _ _ _ _)
    · exact ((removed _).then (Station.offerWithdraw_changes _ _ _ _) (by decide)).trans (Station.report_grows _ _ _ _)
    · exact .refl s

theorem Station.lateCloses_grows (fresh : s.Admits new) (i : Item) : s.Grows new (s.lateCloses i) := by
  have marked := s.modifyItem_changes i.ref fun x => { x with lateReadings := true, windows := x.windows.map forceOpen }
  have refused (t : Station) : Changes [.items, .context, .txQueue, .overflow, .recordCounts] t (t.identifierClose i.ref true) := by
    unfold Station.identifierClose
    split
    · exact .refl t
    · simp only [Bool.true_or, if_true]
      exact (t.writeOutcome_changes i.ref _ _ _).then (Station.stampItem_identified_changes _ i.ref) rfl rfl
  unfold Station.lateCloses
  dsimp only
  set t := s.modifyItem i.ref fun x => { x with lateReadings := true, windows := x.windows.map forceOpen }
  have read : Changes [.items, .context, .txQueue, .overflow, .recordCounts] s
      (if i.windows.reader0 = .opened ∨ i.windows.reader1 = .opened then t.identifierClose i.ref true else t) := by
    split_ifs
    · exact marked.then (refused t) rfl rfl
    · exact marked.mono rfl
  generalize (if i.windows.reader0 = .opened ∨ i.windows.reader1 = .opened then t.identifierClose i.ref true else t) = u at read ⊢
  have weighed : s.Grows new (if i.windows.scale = .opened then u.lateScaleClose i.ref else u) := by
    split_ifs
    · exact (u.lateScaleClose_grows (fresh.of_frame read (by decide)) i.ref).after read (by decide)
    · exact .of_frame read (by decide)
  split
  · exact weighed.then (Station.lateGaugeClose_changes _ _) (by decide)
  · exact weighed

theorem Station.decisionDue_grows (fresh : s.Admits new) (r : ItemRef) : s.Grows new (s.decisionDue r) := by
  have decided (t : Station) : t.Grows new ((((t.finalizeItem r).endWait r).fixChute r).modifyItem r (fun x => { x with lane := .decided })) :=
    (t.finalizeItem_grows r).then (((Station.endWait_changes _ r).then (Station.fixChute_changes _ r) rfl rfl :
      Changes [.items, .context, .recordCounts] _ _).then (Station.modifyItem_changes _ r _) rfl rfl :
      Changes [.items, .context, .recordCounts] _ _) (by decide)
  unfold Station.decisionDue
  split
  · exact .refl s
  · dsimp only
    split_ifs
    · exact decided s
    · exact (s.lateCloses_grows fresh _).trans (decided _)
    · exact .refl s

theorem Station.claimExpires_grows (k : Key) (n : Nat) (r : ItemRef) : s.Grows new (s.claimExpires k n r) := by
  unfold Station.claimExpires
  split
  · exact .refl s
  · dsimp only
    split_ifs
    · exact ((s.modifyEntry_grows k fun e there _ => ⟨e, there, Entry.removeClaims_grown _ e⟩).then
        (changes_tableCounts _ _) (by decide)).trans (Station.report_grows _ k _ _)
    · exact .refl s

theorem Station.requestLapses_grows (within : s.Bounded) (k : Key) : s.Grows new (s.requestLapses k) := by
  unfold Station.requestLapses
  split
  · exact .refl s
  next e found =>
    split
    next asked =>
      split_ifs
      · exact .refl s
      · refine s.modifyEntry_grows k fun x there own => ⟨x, there, rfl, le_rfl, fun known => ?_⟩
        have one : x = e := List.inj_on_of_nodup_map within.keys there (s.entry_mem found) (own.trans (s.entry_key found).symm)
        rw [one, asked] at known
        cases known
    · exact .refl s

/-! ### Heard frames -/

theorem Station.mergeClaim_grows (fresh : s.Admits new) (k : Key) (t : Tally) (n : Nat) (r : ItemRef) (c : Nat) (w : Bool) :
    s.Grows new (s.mergeClaim k t n r c w) := by
  have made := s.ensureEntry_grows fresh k 0 s.freshHoldings
  unfold Station.mergeClaim
  dsimp only
  split
  · exact made
  · split
    · exact made
    next e entry =>
      refine ((made.trans (Station.writeEntry_const_grows _ entry ?_)).then ((Station.countDropped_changes _ _).then
        (Station.countMerge_changes _) rfl rfl : Changes [.tableCounts] _ _) (by decide)).trans (Station.report_grows _ k _ _)
      refine ⟨?_, le_max_left _ _, fun known => ?_⟩
      · split <;> rfl
      · simp [known]

theorem Station.mergeCommit_grows (fresh : s.Admits new) (k : Key) (t : Tally) (n : Nat) (r : ItemRef) (o : Nat) :
    s.Grows new (s.mergeCommit k t n r o) := by
  have made := s.ensureEntry_grows fresh k o s.freshHoldings
  unfold Station.mergeCommit
  dsimp only
  split
  · exact made
  · exact ((made.trans (Station.writeEntry_grows _ k fun _ => by exact ⟨rfl, le_max_left _ _, id⟩)).then
      ((Station.countMerge_changes _).then (Station.clashTest_changes _ k _ _ _ _) rfl rfl :
        Changes [.tableCounts, .claimCounts, .txQueue, .overflow, .recordCounts, .flags] _ _) (by decide)).trans
      (Station.report_grows _ k _ _)

theorem Station.mergeWithdraw_grows (k : Key) (n : Nat) (r : ItemRef) : s.Grows new (s.mergeWithdraw k n r) := by
  unfold Station.mergeWithdraw
  split
  · exact .refl s
  · exact ((s.writeEntry_grows k (Entry.removeClaims_grown _)).then (Station.countMerge_changes _) (by decide)).trans
      (Station.report_grows _ k _ _)

theorem Station.mergeHoldings_grows (fresh : s.Admits new) (k : Key) (c n : Nat) (t : Tally) :
    s.Grows new (s.mergeHoldings k c n t) := by
  have made := s.ensureEntry_grows fresh k c .known
  unfold Station.mergeHoldings
  dsimp only
  split
  · exact made
  · exact ((made.trans (Station.writeEntry_grows _ k fun _ => by exact ⟨rfl, le_max_left _ _, fun _ => rfl⟩)).then
      ((Station.countMerge_changes _).then (Station.lateHoldings_changes _ k _ _ _) rfl rfl :
        Changes [.tableCounts, .claimCounts, .txQueue, .overflow, .recordCounts] _ _) (by decide)).trans (Station.report_grows _ k _ _)

theorem Station.stationFrame_grows (fresh : s.Admits new) (f : RxFrame) (usable : Bool) {merge : Key → Station → Station}
    (merged : ∀ k (t : Station), t.Admits new → t.Grows new (merge k t)) : s.Grows new (s.stationFrame f usable merge) := by
  unfold Station.stationFrame
  split_ifs
  · exact .of_frame s.countUnusable_changes (by decide)
  · dsimp only
    split
    · exact (merged _ _ (fresh.of_frame (s.adopt_changes _) (by decide))).after (s.adopt_changes _) (by decide)
    · exact .of_frame ((s.adopt_changes _).then (Station.countUnusable_changes _) rfl rfl : Changes [.tally, .tableCounts] s _) (by decide)

theorem Station.deliverHoldings_grows (fresh : s.Admits new) (f : RxFrame) : s.Grows new (s.deliverHoldings f) := by
  unfold Station.deliverHoldings
  dsimp only
  split
  · exact (Station.mergeHoldings_grows _ (fresh.of_frame (s.adopt_changes _) (by decide)) _ _ _ _).after (s.adopt_changes _) (by decide)
  · exact .of_frame ((s.adopt_changes _).then (Station.countUnusable_changes _) rfl rfl : Changes [.tally, .tableCounts] s _) (by decide)

theorem Station.deliver_grows (fresh : s.Admits new) (d : Delivery) {use : RxFrame → Station → Station}
    (used : ∀ f (t : Station), t.Admits new → t.Grows new (use f t)) : s.Grows new (s.deliver d use) := by
  unfold Station.deliver
  split
  · exact .refl s
  next f t front => exact (used f t (fresh.of_frame (s.takeFront_changes front) (by decide))).after (s.takeFront_changes front) (by decide)

/-! ### Own claims given up, and a lane restarted -/

theorem Station.removeOwnClaims_grows : s.Grows new s.removeOwnClaims := .of_map s rfl (Entry.removeClaims_grown _)

theorem Station.duplicateId_grows : s.Grows new s.duplicateId := by
  unfold Station.duplicateId
  split_ifs
  · refine Station.Grows.then ?_ (Station.stopRecords_changes _) (by decide)
    exact Station.Grows.trans (.of_entries rfl) (Station.removeOwnClaims_grows _)
  · exact .refl s

theorem Station.frameEnds_grows (bits : List Bool) : s.Grows new (s.frameEnds bits) := by
  unfold Station.frameEnds
  split_ifs
  · split
    next f _ =>
      unfold Station.frameTaken Station.ownIdReport
      have seeks := s.reception_steady
      split_ifs
      · exact ((Station.duplicateId_grows _).after (changes_line s _ _ _ _ .seeking) (by decide)).then
          (Station.enqueueReceived_changes _ f) (by decide)
      · exact Station.Grows.then (.of_frame (changes_line s _ _ _ _ .seeking) (by decide)) (Station.enqueueReceived_changes _ f) (by decide)
      · exact .of_frame s.checkFails_changes (by decide)
    · exact .of_frame s.checkFails_changes (by decide)
    · exact .of_frame (changes_line s _ _ _ _ .seeking) (by decide)
    · exact .refl s
  · exact .refl s

theorem Station.laneRestart_grows : s.Grows new s.laneRestart := by
  unfold Station.laneRestart
  dsimp only
  refine .trans (((Station.removeOwnClaims_grows _).after (Changes.foldl Station.restartClaim_changes s.lane.queue s) (by decide)).then
    ((Station.clearLane_changes _).then (Station.closeContext_changes _ .interrupted) rfl rfl :
      Changes [.items, .sensorOwner, .diverter, .context, .txQueue, .overflow, .recordCounts] _ _) (by decide)) (.of_entries rfl)

theorem Station.restartPressed_grows : s.Grows new s.restartPressed := by
  unfold Station.restartPressed
  dsimp only
  split_ifs
  · exact .refl s
  · exact Station.Grows.trans (.of_entries rfl) (Station.laneRestart_grows _)
  · exact .of_entries rfl

theorem Station.jamEnds_grows : s.Grows new s.jamEnds := by
  have quiet := changes_line s .quiet s.link.holding s.link.chain s.link.lineIdle .seeking
  unfold Station.jamEnds
  split_ifs
  · dsimp only
    split
    · exact .of_frame quiet (by decide)
    · split_ifs
      · exact Station.Grows.then (.of_frame quiet (by decide)) (Station.departOnLine_changes _) (by decide)
      · exact Station.Grows.then (.of_frame quiet (by decide)) (Station.backOff_changes _ _) (by decide)
      · refine Station.Grows.trans (.of_frame quiet (by decide)) ?_
        have left (t : Station) : Changes [.txQueue, .overflow, .items, .buffers, .calibration, .flags, .linkCounts, .announce] t
            t.countAbandon.departOnLine := (t.countAbandon_changes).then (Station.departOnLine_changes _) rfl rfl
        unfold Station.abandon
        dsimp only
        split
        · exact (Station.claimAbandoned_grows _ _ _).after (left _) (by decide)
        · exact Station.Grows.then (.of_frame (left _) (by decide)) (Station.raise_changes _ _) (by decide)
        · exact Station.Grows.then (.of_frame (left _) (by decide)) (Station.raise_changes _ _) (by decide)
        · exact (Station.Grows.then (.of_frame (left _) (by decide)) (Station.raise_changes _ _) (by decide)).then
            (Station.offerAnnounce_changes _) (by decide)
        all_goals exact .of_frame (left _) (by decide)
      · exact Station.Grows.then (.of_frame quiet (by decide)) (Station.backOff_changes _ _) (by decide)
  · exact .refl s

end grows

/-- Whatever a command leaves of the table has grown, but for entries of keys the table did not hold. -/
theorem exec_grows {c : Instr} {x y : Station} {q : List Instr} (within : x.Bounded) (run : exec c ⟨x, q⟩ = .next ⟨y, q⟩) :
    x.Grows (fun k => x.entry k = none) y := by
  have fresh : x.Admits fun k => x.entry k = none := fun _ => id
  by_cases apart : Block.entries ∈ touches c
  case neg => exact .of_frame (exec_changes run) apart
  cases c with
  | powerOn => cases run; exact fun _ listed => absurd listed List.not_mem_nil
  | millisecondTick => cases run; exact .of_map x rfl (Entry.noteAge_grown _ _)
  | windowClose r h => cases run; exact x.windowCloses_grows fresh within r h
  | weightCompletion r => cases run; exact x.weightCompletes_grows fresh r
  | decisionDue r => cases run; exact x.decisionDue_grows fresh r
  | settleExpiry r => cases run; exact x.settleExpires_grows r
  | claimExpiry k n r => cases run; exact x.claimExpires_grows k n r
  | requestedLapse k => cases run; exact x.requestLapses_grows within k
  | jamEnd => cases run; exact x.jamEnds_grows
  | frameReceived bits => cases run; exact x.frameEnds_grows bits
  | heardClaim =>
    cases run
    exact x.deliver_grows fresh _ fun f t ready => t.stationFrame_grows ready f _ fun k u now => u.mergeClaim_grows now k _ _ _ _ _
  | heardCommit =>
    cases run
    exact x.deliver_grows fresh _ fun f t ready => t.stationFrame_grows ready f _ fun k u now => u.mergeCommit_grows now k _ _ _ _
  | heardWithdraw =>
    cases run
    exact x.deliver_grows fresh _ fun f t ready => t.stationFrame_grows ready f _ fun k u _ => u.mergeWithdraw_grows k _ _
  | heardHoldings => cases run; exact x.deliver_grows fresh _ fun f t ready => t.deliverHoldings_grows ready f
  | restart => cases run; exact x.deliver_grows fresh _ fun _ t _ => t.laneRestart_grows
  | localRestart => cases run; exact x.restartPressed_grows
  | _ => simp [touches] at apart

end Sys2Proof.Machine
end

section
/-! SUPPORT. The entries of other keys through a heard frame and an expiry (R104 to R108), the tally's moves (R116, R117), and the
statement these settle. -/

namespace Sys2Proof.Machine

/-! ### The entries of other keys -/

/-- Every entry but that of one key stays, each at its place among them. -/
def Station.Apart (k : Key) (s t : Station) : Prop :=
  t.table.entries.filter (fun e => e.key ≠ k) = s.table.entries.filter (fun e => e.key ≠ k)

section apart

variable {s t u : Station} {k : Key}

theorem Station.Apart.refl (s : Station) : s.Apart k s := rfl

theorem Station.Apart.trans (h : s.Apart k t) (g : t.Apart k u) : s.Apart k u := Eq.trans g h

theorem Station.Apart.of_frame {bs : List Block} (h : Changes bs s t) (apart : Block.entries ∉ bs) : s.Apart k t := by
  rw [Station.Apart, show t.table.entries = s.table.entries from h .entries apart]

theorem Station.Apart.then {bs : List Block} (g : s.Apart k t) (h : Changes bs t u) (apart : Block.entries ∉ bs) : s.Apart k u :=
  g.trans (.of_frame h apart)

theorem Station.Apart.entry (h : s.Apart k t) {other : Key} (ne : other ≠ k) : t.entry other = s.entry other := by
  have among (l : List Entry) : l.find? (fun e => e.key = other) = (l.filter fun e => e.key ≠ k).find? (fun e => e.key = other) := by
    rw [List.find?_filter]
    congr 1
    funext e
    by_cases own : e.key = other <;> simp [own, ne]
  rw [Station.entry, among, h, ← among, Station.entry]

theorem Entry.commitOwn_keeps (ref : ItemRef) (n : Nat) (t : Tally) (e : Entry) : e.key = k → (e.commitOwn ref n t).key = k := id

theorem Entry.removeClaims_keeps (p : Claim → Bool) (e : Entry) : e.key = k → (e.removeClaims p).key = k := id

variable (s) (k)

theorem Station.modifyEntry_apart {f : Entry → Entry} (keepsKey : ∀ e : Entry, e.key = k → (f e).key = k) : s.Apart k (s.modifyEntry k f) := by
  have same (l : List Entry) : (l.map fun e => if e.key = k then f e else e).filter (fun e => e.key ≠ k) = l.filter fun e => e.key ≠ k := by
    induction l with
    | nil => rfl
    | cons e l ih =>
      by_cases own : e.key = k
      · simpa [own, keepsKey e own] using ih
      · simpa [own] using ih
  exact same _

theorem filter_eraseP_key (l : List Entry) :
    (l.eraseP fun x => x.key = k).filter (fun e => e.key ≠ k) = l.filter fun e => e.key ≠ k := by
  induction l with
  | nil => rfl
  | cons a l ih =>
    by_cases own : a.key = k
    · simp [own]
    · simpa [own] using ih

theorem Station.evict_apart (x : Entry) : s.Apart x.key (s.evict x) := filter_eraseP_key x.key s.table.entries

theorem Station.touch_apart : s.Apart k (s.touch k) := by
  unfold Station.touch
  split
  · exact .refl s
  next e found =>
    have own : e.key = k := s.entry_key found
    show (s.table.entries.eraseP _ ++ [e]).filter _ = _
    rw [List.filter_append, filter_eraseP_key, List.filter_cons_of_neg (by simp [own]), List.filter_nil, List.append_nil]

theorem Station.writeEntry_apart {f : Entry → Entry} (keepsKey : ∀ e : Entry, e.key = k → (f e).key = k) : s.Apart k (s.writeEntry k f) :=
  (s.modifyEntry_apart k keepsKey).trans (Station.touch_apart _ k)

theorem Station.commitAs_apart (c : Claim) (n : Nat) (a b d : Bool) : s.Apart k (s.commitAs k c n a b d) :=
  (s.writeEntry_apart k (Entry.commitOwn_keeps c.ref n c.tally)).then
    (((Station.modifyItem_changes _ c.ref _).then (Station.countCommit_changes _ a) rfl rfl :
      Changes [.items, .claimCounts] (s.writeEntry k (Entry.commitOwn c.ref n c.tally)) _).then
        (Station.offerNotice_changes _ (.commit k c.tally c.ref n)) rfl rfl :
      Changes [.items, .claimCounts, .txQueue, .linkCounts, .flags] (s.writeEntry k (Entry.commitOwn c.ref n c.tally)) _) (by decide)

theorem Station.retest_apart : s.Apart k (s.retest k) :=
  s.retest_keeps (P := s.Apart k) (fun t _ _ held _ _ _ _ => held.trans (t.commitAs_apart k _ _ _ _ _)) (.refl s)

theorem Station.report_apart (before : Option Entry) (o : Bool) : s.Apart k (s.report k before o) := by
  unfold Station.report
  split
  · exact .refl s
  · split_ifs
    · exact Station.Apart.trans (.of_frame (s.markOverfull_changes k) (by decide)) (Station.retest_apart _ k)
    · exact s.retest_apart k
    · exact .refl s

theorem Station.claimExpires_apart (n : Nat) (r : ItemRef) : s.Apart k (s.claimExpires k n r) := by
  unfold Station.claimExpires
  split
  · exact .refl s
  · dsimp only
    split_ifs
    · exact ((s.modifyEntry_apart k (Entry.removeClaims_keeps _)).then (changes_tableCounts _ _) (by decide)).trans
        (Station.report_apart _ k _ _)
    · exact .refl s

theorem Station.mergeWithdraw_apart (n : Nat) (r : ItemRef) : s.Apart k (s.mergeWithdraw k n r) := by
  unfold Station.mergeWithdraw
  split
  · exact .refl s
  · exact ((s.writeEntry_apart k (Entry.removeClaims_keeps _)).then (Station.countMerge_changes _) (by decide)).trans
      (Station.report_apart _ k _ _)

/-! ### A creation among them -/

/-- The entry of another key stays, or leaves a full table (R101). -/
def Station.Spares (k : Key) (s t : Station) : Prop := ∀ other e, other ≠ k → s.entry other = some e →
  t.entry other = some e ∨ (s.table.entries.length = 4096 ∧ t.entry other = none)

variable {s} {k} in
theorem Station.Apart.spares (h : s.Apart k t) : s.Spares k t := fun _ _ ne found => .inl ((h.entry ne).trans found)

variable {s} {k} in
theorem Station.Spares.then (h : s.Spares k t) (g : t.Apart k u) : s.Spares k u := fun other e ne found =>
  (h other e ne found).imp (fun stays => (g.entry ne).trans stays) fun ⟨full, gone⟩ => ⟨full, (g.entry ne).trans gone⟩

variable {s} {k} in
theorem Station.Spares.after {bs : List Block} (g : t.Spares k u) (h : Changes bs s t) (apart : Block.entries ∉ bs) : s.Spares k u := by
  have same : t.table.entries = s.table.entries := h .entries apart
  intro other e ne found
  rw [Station.entry, ← same] at found
  rw [← same]
  exact g other e ne found

theorem Station.ensureEntry_spares (within : s.Bounded) (n : Nat) (h : Holdings) : s.Spares k (s.ensureEntry k n h).1 := by
  have added (t : Station) (e : Entry) (own : e.key = k) : t.Apart k (t.addEntry e) := by
    show (t.table.entries ++ [e]).filter _ = _
    rw [List.filter_append, List.filter_cons_of_neg (by simp [own]), List.filter_nil, List.append_nil]
  unfold Station.ensureEntry
  split
  · exact (Station.Apart.refl s).spares
  · unfold Station.createEntry
    split_ifs with place
    · exact (added s _ rfl).spares
    · split
      next x _ =>
        refine Station.Spares.then (fun other e ne found => ?_) (added (s.evict x) _ rfl)
        by_cases evicted : other = x.key
        · refine .inr ⟨Nat.le_antisymm within.entries (not_lt.mp place), ?_⟩
          exact List.find?_eq_none.mpr fun a left => by
            have differs := key_ne_of_mem_eraseP (k := x.key) within.keys a left
            simpa [evicted] using differs
        · exact .inl (((s.evict_apart x).entry evicted).trans found)
      next => exact (Station.Apart.of_frame ((changes_tableCounts s _).then (Station.raise_changes _ _) rfl rfl :
          Changes [.tableCounts, .flags] s _) (by decide)).spares

theorem Station.mergeClaim_spares (within : s.Bounded) (t : Tally) (n : Nat) (r : ItemRef) (c : Nat) (w : Bool) :
    s.Spares k (s.mergeClaim k t n r c w) := by
  have made := s.ensureEntry_spares k within 0 s.freshHoldings
  unfold Station.mergeClaim
  dsimp only
  split
  · exact made
  · split
    · exact made
    next e entry =>
      refine made.then (((Station.writeEntry_apart _ k fun _ _ => ?_).then ((Station.countDropped_changes _ _).then
        (Station.countMerge_changes _) rfl rfl : Changes [.tableCounts] _ _) (by decide)).trans (Station.report_apart _ k _ _))
      split <;> exact (Station.entry_key _ entry :)

theorem Station.mergeCommit_spares (within : s.Bounded) (t : Tally) (n : Nat) (r : ItemRef) (o : Nat) :
    s.Spares k (s.mergeCommit k t n r o) := by
  have made := s.ensureEntry_spares k within o s.freshHoldings
  unfold Station.mergeCommit
  dsimp only
  split
  · exact made
  · exact made.then (((Station.writeEntry_apart _ k fun _ => by exact id).then
      ((Station.countMerge_changes _).then (Station.clashTest_changes _ k _ _ _ _) rfl rfl :
        Changes [.tableCounts, .claimCounts, .txQueue, .overflow, .recordCounts, .flags] _ _) (by decide)).trans
      (Station.report_apart _ k _ _))

theorem Station.mergeHoldings_spares (within : s.Bounded) (c n : Nat) (t : Tally) : s.Spares k (s.mergeHoldings k c n t) := by
  have made := s.ensureEntry_spares k within c .known
  unfold Station.mergeHoldings
  dsimp only
  split
  · exact made
  · exact made.then (((Station.writeEntry_apart _ k fun _ => by exact id).then
      ((Station.countMerge_changes _).then (Station.lateHoldings_changes _ k _ _ _) rfl rfl :
        Changes [.tableCounts, .claimCounts, .txQueue, .overflow, .recordCounts] _ _) (by decide)).trans (Station.report_apart _ k _ _))

theorem Station.stationFrame_spares {f : RxFrame} (read : heardKey f.payload 0 = some k) (usable : Bool) {merge : Key → Station → Station}
    (within : s.Bounded) (merged : ∀ t : Station, t.Bounded → t.Spares k (merge k t)) : s.Spares k (s.stationFrame f usable merge) := by
  unfold Station.stationFrame
  split_ifs
  · exact (Station.Apart.of_frame s.countUnusable_changes (by decide)).spares
  · dsimp only
    split
    next is _ =>
      cases read.symm.trans ‹heardKey f.payload 0 = some _›
      exact (merged _ ((s.adopt_steady _).bounded within)).after (s.adopt_changes _) (by decide)
    · exact (Station.Apart.of_frame ((s.adopt_changes _).then (Station.countUnusable_changes _) rfl rfl :
        Changes [.tally, .tableCounts] s _) (by decide)).spares

theorem Station.deliverHoldings_spares {f : RxFrame} (read : heardKey f.payload 0 = some k) (within : s.Bounded) :
    s.Spares k (s.deliverHoldings f) := by
  unfold Station.deliverHoldings
  rw [read]
  exact (Station.mergeHoldings_spares _ k ((s.adopt_steady _).bounded within) _ _ _).after (s.adopt_changes _) (by decide)

/-- What a delivery does to the front frame of the queue is all it does. -/
theorem Station.deliver_spares {f : RxFrame} {rest : List RxFrame} (front : s.link.rxQueue = f :: rest) (within : s.Bounded) (d : Delivery)
    {use : RxFrame → Station → Station} (used : ∀ t : Station, t.Bounded → t.Spares k (use f t)) : s.Spares k (s.deliver d use) := by
  unfold Station.deliver
  split
  · exact (Station.Apart.refl s).spares
  next g t taken =>
    have same : g = f := by
      unfold Station.takeFront at taken
      rw [front] at taken
      dsimp only at taken
      split_ifs at taken
      cases taken
      rfl
    subst same
    exact (used t ((s.takeFront_steady taken).bounded within)).after (s.takeFront_changes taken) (by decide)

end apart

/-! ### The tally -/

theorem dist_self (t : BitVec 24) : dist t t = 0 := by simp [dist]

theorem dist_succ (t : BitVec 24) : dist t (t + 1) = 1 := by
  rw [dist, BitVec.add_comm, BitVec.add_sub_cancel]
  rfl

theorem dist_laterTally (own heard : Tally) : dist own (laterTally own heard) ≤ 8388607 := by
  unfold laterTally
  split_ifs with later
  · exact later.2
  · rw [dist_self]; exact Nat.zero_le _

/-- The tally as it was, or one further (R117). -/
def Station.TakesTally (s t : Station) : Prop := t.claims.tally = s.claims.tally ∨ t.claims.tally = s.claims.tally + 1

section tally

variable {s t u : Station}

theorem Station.TakesTally.of_frame {bs : List Block} (h : Changes bs s t) (apart : Block.tally ∉ bs) : s.TakesTally t := .inl (h .tally apart)

theorem Station.TakesTally.after {bs : List Block} (g : t.TakesTally u) (h : Changes bs s t) (apart : Block.tally ∉ bs) : s.TakesTally u := by
  have same : t.claims.tally = s.claims.tally := h .tally apart
  rw [Station.TakesTally, ← same]
  exact g

theorem Station.TakesTally.then {bs : List Block} (g : s.TakesTally t) (h : Changes bs t u) (apart : Block.tally ∉ bs) : s.TakesTally u := by
  have same : u.claims.tally = t.claims.tally := h .tally apart
  rw [Station.TakesTally, same]
  exact g

variable (s)

theorem Station.offerClaim_takesTally (r : ItemRef) (k : Key) (e : Entry) : s.TakesTally (s.offerClaim r k e) := by
  unfold Station.offerClaim
  dsimp only
  split
  · exact Station.TakesTally.then (t := s.takeTally) (.inr rfl) ((((Station.txPush_changes _ _).then (Station.writeEntry_changes _ k _) rfl rfl :
      Changes [.txQueue, .entries] s.takeTally _).then ((Station.countDropped_changes _ _).then (Station.modifyItem_changes _ r _) rfl rfl :
      Changes [.items, .tableCounts] _ _) rfl rfl : Changes [.txQueue, .entries, .items, .tableCounts] s.takeTally _).then
      (Station.report_changes _ k _ _) rfl rfl :
      Changes [.txQueue, .entries, .items, .tableCounts, .claimCounts, .linkCounts, .flags] s.takeTally _) (by decide)
  · exact Station.TakesTally.then (t := s.takeTally) (.inr rfl) (Station.reject_changes s.takeTally r .claimAbandoned) (by decide)

theorem Station.takeKey_takesTally (r : ItemRef) (k : Key) : s.TakesTally (s.takeKey r k) := by
  have made := s.ensureEntry_changes k 0 s.freshHoldings
  have touched : Changes [.entries, .tableCounts, .context, .flags] s ((s.ensureEntry k 0 s.freshHoldings).1.touch k) :=
    made.then (Station.touch_changes _ k) rfl rfl
  unfold Station.takeKey
  dsimp only
  split
  · exact .inl rfl
  · split_ifs
    · exact .inl rfl
    · exact .inl rfl
    · exact .of_frame (s.reject_changes r _) (by decide)
    · exact .of_frame (made.then (Station.reject_changes _ r .tableFull) rfl rfl :
        Changes [.entries, .tableCounts, .context, .flags, .items] s _) (by decide)
    · split
      · exact .of_frame touched (by decide)
      · split_ifs
        · exact .of_frame (touched.then (Station.reject_changes _ r .claimsFull) rfl rfl :
            Changes [.entries, .tableCounts, .context, .flags, .items] s _) (by decide)
        · exact (Station.offerClaim_takesTally _ r k _).after touched (by decide)

theorem Station.identifierClose_takesTally (r : ItemRef) (late : Bool) : s.TakesTally (s.identifierClose r late) := by
  have stamps (t : Station) (h : Changes [.items, .keyCounts] s t) (u : Bool) : s.TakesTally (t.stampItem r u) :=
    .of_frame (h.then (Station.stampItem_changes t r u) rfl rfl : Changes [.items, .keyCounts, .context, .trackerCounts, .entries, .tableCounts,
      .txQueue, .overflow, .recordCounts, .flags] s _) (by decide)
  have wrote (o : IdOutcome) (k : Option Key) (m : Bool) : Changes [.items, .keyCounts] s (s.writeOutcome r o k m) :=
    (s.writeOutcome_changes r o k m).mono rfl
  unfold Station.identifierClose
  split
  · exact .inl rfl
  · split
    · exact stamps _ (wrote _ _ _) _
    · split
      · exact (Station.takeKey_takesTally _ r _).after ((wrote _ _ _).then (Station.stampItem_identified_changes _ r) rfl rfl :
          Changes [.items, .keyCounts, .context, .txQueue, .overflow, .recordCounts] s _) (by decide)
      · exact .of_frame ((wrote _ _ _).then (Station.takeSlip_changes _ _) rfl rfl :
          Changes [.items, .keyCounts, .context, .txQueue, .overflow, .recordCounts] s _) (by decide)
      · exact stamps _ (wrote _ _ _) _
      · exact stamps _ ((s.writeOutcome_changes r _ _ _).then (changes_keyCounts _ _) rfl rfl) _

theorem Station.windowCloses_takesTally (r : ItemRef) (h : Head) : s.TakesTally (s.windowCloses r h) := by
  have closed := s.modifyItem_changes r (Item.closeWindow h)
  unfold Station.windowCloses
  split
  · exact .inl rfl
  · split
    · exact .inl rfl
    · split_ifs
      · refine Station.TakesTally.after ?_ closed (by decide)
        unfold Station.deliverClose
        split
        · split_ifs
          · exact Station.identifierClose_takesTally _ _ _
          · exact .inl rfl
        · split_ifs
          · exact Station.identifierClose_takesTally _ _ _
          · exact .inl rfl
        · exact .of_frame (Station.scaleClose_changes _ _) (by decide)
        · exact .of_frame (Station.gaugeClose_changes _ _) (by decide)
      · exact .inl rfl

/-- The tally as it was, or a delivered one that is later (R116). -/
def Station.MayAdopt (s t : Station) : Prop := t.claims.tally = s.claims.tally ∨ ∃ heard, t.claims.tally = laterTally s.claims.tally heard

theorem Station.adopt_mayAdopt {bs : List Block} (heard : Tally) {t : Station} (h : Changes bs (s.adopt heard) t) (apart : Block.tally ∉ bs) :
    s.MayAdopt t := by
  have same : t.claims.tally = (s.adopt heard).claims.tally := h .tally apart
  refine .inr ⟨heard, ?_⟩
  rw [same, s.adopt_eq]

theorem Station.stationFrame_mayAdopt (f : RxFrame) (usable : Bool) {bs : List Block} {merge : Key → Station → Station}
    (merged : ∀ k (t : Station), Changes bs t (merge k t)) (apart : Block.tally ∉ bs) : s.MayAdopt (s.stationFrame f usable merge) := by
  unfold Station.stationFrame
  split_ifs
  · exact .inl (s.countUnusable_changes .tally (by decide))
  · dsimp only
    split
    · exact s.adopt_mayAdopt _ (merged _ _) apart
    · exact s.adopt_mayAdopt _ (Station.countUnusable_changes _) (by decide)

theorem Station.deliver_mayAdopt (d : Delivery) {use : RxFrame → Station → Station} (used : ∀ f (t : Station), t.MayAdopt (use f t)) :
    s.MayAdopt (s.deliver d use) := by
  unfold Station.deliver
  split
  · exact .inl rfl
  next f t front =>
    have same : t.claims.tally = s.claims.tally := s.takeFront_changes front .tally (by decide)
    rw [Station.MayAdopt, ← same]
    exact used f t

end tally

theorem exec_pending {c : Instr} {x y : Station} {q p : List Instr} (run : exec c ⟨x, q⟩ = .next ⟨y, p⟩) : p = q := by
  obtain ⟨z, answer, -⟩ := exec_frame c x q
  cases run.symm.trans answer
  rfl

/-- The tally's moves in a command (R116, R117). -/
theorem exec_tally {c : Instr} {x y : Station} {q : List Instr} (run : exec c ⟨x, q⟩ = .next ⟨y, q⟩) (on : c ≠ .powerOn) :
    x.TakesTally y ∨ x.MayAdopt y := by
  by_cases apart : Block.tally ∈ touches c
  case neg => exact .inl (.inl (exec_changes run .tally apart))
  cases c with
  | powerOn => exact absurd rfl on
  | windowClose r h => cases run; exact .inl (x.windowCloses_takesTally r h)
  | heardClaim =>
    cases run
    exact .inr (x.deliver_mayAdopt _ fun f t => t.stationFrame_mayAdopt f _ (fun k u => u.mergeClaim_changes k _ _ _ _ _) (by decide))
  | heardCommit =>
    cases run
    exact .inr (x.deliver_mayAdopt _ fun f t => t.stationFrame_mayAdopt f _ (fun k u => u.mergeCommit_changes k _ _ _ _) (by decide))
  | heardWithdraw =>
    cases run
    exact .inr (x.deliver_mayAdopt _ fun f t => t.stationFrame_mayAdopt f _ (fun k u => u.mergeWithdraw_changes k _ _) (by decide))
  | heardHoldings =>
    cases run
    refine .inr (x.deliver_mayAdopt _ fun f t => ?_)
    unfold Station.deliverHoldings
    dsimp only
    split
    · exact t.adopt_mayAdopt _ (Station.mergeHoldings_changes _ _ _ _ _) (by decide)
    · exact t.adopt_mayAdopt _ (Station.countUnusable_changes _) (by decide)
  | heardAnnounce => cases run; exact .inr (x.deliver_mayAdopt _ fun f t => t.adopt_mayAdopt _ (Changes.refl _ : Changes [] _ _) (by decide))
  | _ => simp [touches] at apart

/-- Settles O37: the tally is taken or adopted, an entry that stays has grown, and of the entries of other keys a creation may evict one. -/
theorem countsNeverGoBack : Obligations.CountsNeverGoBack := by
  unfold Obligations.CountsNeverGoBack
  refine ⟨?_, ?_, ?_⟩
  · rintro c ⟨x, q⟩ ⟨y, q'⟩ run on
    obtain rfl := exec_pending run
    rcases exec_tally run on with (same | next) | same | ⟨heard, later⟩
    · simp [same, dist_self]
    · rw [next, dist_succ]
      decide
    · simp [same, dist_self]
    · rw [later]
      exact dist_laterTally _ _
  · rintro c ⟨x, q⟩ ⟨y, q'⟩ k e e' run within before after
    obtain rfl := exec_pending run
    have own : e'.key = k := y.entry_key after
    rcases exec_grows within run e' (y.entry_mem after) with fresh | ⟨a, listed, grown⟩
    · rw [own, before] at fresh
      cases fresh
    · have one : a = e := List.inj_on_of_nodup_map within.keys listed (x.entry_mem before)
        ((grown.key.symm.trans own).trans (x.entry_key before).symm)
      exact one ▸ ⟨grown.count, grown.known⟩
  · rintro c ⟨x, q⟩ ⟨y, q'⟩ k other e ne within kind run found
    suffices spares : x.Spares k y from spares other e ne found
    rcases kind with ⟨which, f, rest, front, read⟩ | ⟨n, r, rfl⟩
    · rcases which with rfl | rfl | rfl | rfl <;> cases run
      · exact x.deliver_spares k front within _ fun t held => t.stationFrame_spares k read _ held fun u held => u.mergeClaim_spares k held _ _ _ _ _
      · exact x.deliver_spares k front within _ fun t held => t.stationFrame_spares k read _ held fun u held => u.mergeCommit_spares k held _ _ _ _
      · exact x.deliver_spares k front within _ fun t held => t.stationFrame_spares k read _ held fun u _ => (u.mergeWithdraw_apart k _ _).spares
      · exact x.deliver_spares k front within _ fun t held => t.deliverHoldings_spares k read held
    · cases run
      exact (x.claimExpires_apart k n r).spares

end Sys2Proof.Machine
end

section
/-! SUPPORT. The late closes of a decision (R15): what they write of the item, and that they leave its key, its correlation state and the
table as they are. -/

namespace Sys2Proof.Machine

/-! ### Items of one ref rewritten -/

/-- The items of one ref are written, each by the relation; every other item and the places stay. -/
def Station.Rewrites (ref : ItemRef) (R : Item → Item → Prop) (s t : Station) : Prop :=
  ∃ f : Item → Item, (∀ k, R k (f k)) ∧ (∀ k, (f k).ref = k.ref) ∧ t.lane.queue = s.lane.queue.map (fun k => if k.ref = ref then f k else k)

section rewrites

variable {ref : ItemRef} {R S T : Item → Item → Prop} {s t u : Station}

theorem Station.Rewrites.of_queue (same : t.lane.queue = s.lane.queue) (alike : ∀ k, R k k) : s.Rewrites ref R t :=
  ⟨id, alike, fun _ => rfl, by simp [same]⟩

theorem Station.Rewrites.of_frame {bs : List Block} (h : Changes bs s t) (apart : Block.items ∉ bs) (alike : ∀ k, R k k) :
    s.Rewrites ref R t := .of_queue (h .items apart) alike

theorem Station.modifyItem_rewrites (s : Station) {f : Item → Item} (writes : ∀ k, R k (f k)) (keeps : ∀ k, (f k).ref = k.ref) :
    s.Rewrites ref R (s.modifyItem ref f) := ⟨f, writes, keeps, rfl⟩

theorem Station.Rewrites.comp (h : s.Rewrites ref R t) (g : t.Rewrites ref S u) (joins : ∀ i j k, R i j → S j k → T i k) :
    s.Rewrites ref T u := by
  obtain ⟨f, first, keeps, queue⟩ := h
  obtain ⟨f', second, keepsToo, queueToo⟩ := g
  refine ⟨f' ∘ f, fun k => joins _ _ _ (first k) (second (f k)), fun k => (keepsToo _).trans (keeps k), ?_⟩
  rw [queueToo, queue, List.map_map]
  refine List.map_congr_left fun k _ => ?_
  by_cases own : k.ref = ref <;> simp [own, keeps]

theorem Station.Rewrites.then_frame {bs : List Block} (h : s.Rewrites ref R t) (g : Changes bs t u) (apart : Block.items ∉ bs) :
    s.Rewrites ref R u := by
  obtain ⟨f, writes, keeps, queue⟩ := h
  exact ⟨f, writes, keeps, Eq.trans (g .items apart) queue⟩

theorem Station.Rewrites.found (h : s.Rewrites ref R t) {i : Item} (found : s.findItem ref = some i) :
    ∃ j, t.findItem ref = some j ∧ R i j := by
  obtain ⟨f, writes, keeps, queue⟩ := h
  refine ⟨f i, ?_, writes i⟩
  rw [← s.findItem_written keeps found, Station.findItem, queue]
  rfl

theorem Station.Rewrites.other (h : s.Rewrites ref R t) {r : ItemRef} (ne : r ≠ ref) : t.findItem r = s.findItem r := by
  obtain ⟨f, -, keeps, queue⟩ := h
  rw [← s.findItem_modifyItem_other ref r f keeps ne, Station.findItem, queue]
  rfl

theorem Station.Rewrites.refs (h : s.Rewrites ref R t) : t.lane.queue.map Item.ref = s.lane.queue.map Item.ref := by
  obtain ⟨f, -, keeps, queue⟩ := h
  rw [queue, List.map_map]
  refine List.map_congr_left fun k _ => ?_
  by_cases own : k.ref = ref <;> simp [own, keeps]

theorem Station.Rewrites.mem (h : s.Rewrites ref R t) {j : Item} (listed : j ∈ t.lane.queue) :
    ∃ i ∈ s.lane.queue, j.ref = i.ref ∧ (i.ref = ref → R i j) ∧ (i.ref ≠ ref → j = i) := by
  obtain ⟨f, writes, keeps, queue⟩ := h
  rw [queue] at listed
  obtain ⟨i, before, rfl⟩ := List.mem_map.mp listed
  refine ⟨i, before, ?_⟩
  split
  next own => exact ⟨keeps i, fun _ => writes i, fun no => absurd own no⟩
  next other => exact ⟨rfl, fun own => absurd own other, fun _ => rfl⟩

end rewrites

/-! ### Late closes -/

/-- An item as a late close may write it: its readings, its outcome and stamp, its weight and maxima, the end of its wait and its mark. -/
def Item.LateFrom (i j : Item) : Prop :=
  j = { i with
    slot0 := j.slot0, slot1 := j.slot1, outcome := j.outcome, consignment := j.consignment, weight := j.weight
    maxThickness := j.maxThickness, maxWidth := j.maxWidth, matching := j.matching, trackerMark := j.trackerMark }

theorem Item.LateFrom.refl (i : Item) : i.LateFrom i := rfl

theorem Item.LateFrom.trans {i j k : Item} (h : i.LateFrom j) (g : j.LateFrom k) : i.LateFrom k := by
  unfold Item.LateFrom at *
  rw [g, h]

/-- The item at its decision point before its late closes: LATE READINGS, its open windows force-closed. -/
def Item.late (i : Item) : Item := { i with lateReadings := true, windows := i.windows.map forceOpen }

variable (s : Station)

theorem Station.Rewrites.late {ref : ItemRef} {s t u : Station} (h : s.Rewrites ref Item.LateFrom t) (g : t.Rewrites ref Item.LateFrom u) :
    s.Rewrites ref Item.LateFrom u := h.comp g fun _ _ _ => .trans

theorem Station.identifierClose_late (ref : ItemRef) : s.Rewrites ref Item.LateFrom (s.identifierClose ref true) ∧
    Changes [.items, .context, .txQueue, .overflow, .recordCounts] s (s.identifierClose ref true) := by
  have stamped (t : Station) : t.Rewrites ref Item.LateFrom (t.stampItem ref false) := by
    cases open_ : t.tracker.context with
    | none =>
      rw [t.stampItem_of_none false open_]
      exact .of_queue rfl .refl
    | some c =>
      have wrote : t.Rewrites ref Item.LateFrom (t.stamped ref c) := (t.modifyItem_rewrites (fun _ => by exact rfl) fun _ => by rfl).then_frame
        (Station.modifyContext_changes _ _) (by decide)
      by_cases more : c.declared = 0 ∨ min 65535 (c.counted + 1) ≠ c.declared
      · rw [t.stampItem_of_open false open_ more]
        exact wrote
      · rw [not_or, not_not] at more
        rw [t.stampItem_of_last false open_ more.1 more.2]
        exact wrote.then_frame (Station.closeContext_changes _ _) (by decide)
  unfold Station.identifierClose
  split
  · exact ⟨.of_queue rfl .refl, .refl s⟩
  · simp only [Bool.true_or, if_true]
    exact ⟨(s.modifyItem_rewrites (fun k => by simp [Item.LateFrom]) fun _ => by rfl).late (stamped _),
      (s.writeOutcome_changes ref _ _ _).then (Station.stampItem_identified_changes _ ref) rfl rfl⟩

theorem Station.lateScaleClose_late (ref : ItemRef) : s.Rewrites ref Item.LateFrom (s.lateScaleClose ref) ∧
    Changes [.items, .buffers, .calibration, .flags] s (s.lateScaleClose ref) := by
  have absent {i : Item} (found : s.findItem ref = some i) (cause : AbsenceCause) :
      s.Rewrites ref Item.LateFrom (s.weightOutcome ref (.absent cause) none) ∧
      Changes [.items, .buffers, .calibration, .flags] s (s.weightOutcome ref (.absent cause) none) := by
    obtain ⟨f, arrived, marks, -⟩ := (s.weighed ref (.absent cause)).weightArrives_of_absent (s.findItem_weighed (.absent cause) found) rfl
    have wrote : s.Rewrites ref Item.LateFrom (s.weighed ref (.absent cause)) :=
      (s.modifyItem_rewrites (fun _ => by exact rfl) fun _ => by rfl).then_frame (Station.freeBuffer_changes _ ref) (by decide)
    have weighed : Changes [.items, .buffers] s (s.weighed ref (.absent cause)) :=
      (s.modifyItem_changes ref _).then (Station.freeBuffer_changes _ ref) rfl rfl
    rw [s.weightOutcome_eq, arrived, Station.endCalibration_none]
    exact ⟨(wrote.late (Station.modifyItem_rewrites _ (fun k => by rw [marks k]; rfl) marks.ref)).then_frame
        (Station.endCalibrationOf_changes _ ref true) (by decide),
      (weighed.then (Station.modifyItem_changes _ ref f) rfl rfl : Changes [.items, .buffers] s _).then
        (Station.endCalibrationOf_changes _ ref true) rfl rfl⟩
  unfold Station.lateScaleClose
  split
  · exact ⟨.of_queue rfl .refl, .refl s⟩
  next found => exact absent found _

/-- What the late closes write of the item: its key, its correlation state and its lane state stay. -/
theorem Station.lateCloses_rewrites (i : Item) : s.Rewrites i.ref (fun k j => k.late.LateFrom j) (s.lateCloses i) := by
  have closes (t u : Station) (h : s.Rewrites i.ref (fun k j => k.late.LateFrom j) t) (g : t.Rewrites i.ref Item.LateFrom u) :
      s.Rewrites i.ref (fun k j => k.late.LateFrom j) u := h.comp g fun _ _ _ => .trans
  have marked : s.Rewrites i.ref (fun k j => k.late.LateFrom j) (s.modifyItem i.ref Item.late) :=
    s.modifyItem_rewrites (fun _ => .refl _) fun _ => rfl
  have read : s.Rewrites i.ref (fun k j => k.late.LateFrom j) (if i.windows.reader0 = .opened ∨ i.windows.reader1 = .opened then
      (s.modifyItem i.ref Item.late).identifierClose i.ref true else s.modifyItem i.ref Item.late) := by
    split
    · exact closes _ _ marked (Station.identifierClose_late _ i.ref).1
    · exact marked
  have weighed (t : Station) (h : s.Rewrites i.ref (fun k j => k.late.LateFrom j) t) :
      s.Rewrites i.ref (fun k j => k.late.LateFrom j) (if i.windows.scale = .opened then t.lateScaleClose i.ref else t) := by
    split
    · exact closes _ _ h (t.lateScaleClose_late i.ref).1
    · exact h
  have gauged (t : Station) (h : s.Rewrites i.ref (fun k j => k.late.LateFrom j) t) :
      s.Rewrites i.ref (fun k j => k.late.LateFrom j) (if i.windows.gauge = .opened then t.lateGaugeClose i.ref else t) := by
    split
    · exact closes _ _ h (t.modifyItem_rewrites (fun _ => by exact rfl) fun _ => by rfl)
    · exact h
  exact gauged _ (weighed _ read)

/-- The late closes leave the table, the claims and the link's counts; with both reader windows over they offer no summary either. -/
theorem Station.lateCloses_apart (i : Item) :
    Changes [.items, .buffers, .calibration, .flags, .context, .txQueue, .overflow, .recordCounts] s (s.lateCloses i) ∧
    (i.windows.reader0 ≠ .opened → i.windows.reader1 ≠ .opened → Changes [.items, .buffers, .calibration, .flags] s (s.lateCloses i)) := by
  have marked := s.modifyItem_changes i.ref Item.late
  have rest (t : Station) : Changes [.items, .buffers, .calibration, .flags] t
      (if i.windows.gauge = .opened then (if i.windows.scale = .opened then t.lateScaleClose i.ref else t).lateGaugeClose i.ref
        else if i.windows.scale = .opened then t.lateScaleClose i.ref else t) := by
    have weighed : Changes [.items, .buffers, .calibration, .flags] t (if i.windows.scale = .opened then t.lateScaleClose i.ref else t) := by
      split
      · exact (t.lateScaleClose_late i.ref).2
      · exact .refl t
    split
    · exact weighed.then (Station.lateGaugeClose_changes _ i.ref) rfl rfl
    · exact weighed
  constructor
  · refine Changes.then (bs := [.items, .context, .txQueue, .overflow, .recordCounts]) ?_ (rest _) rfl rfl
    split
    · exact marked.then (Station.identifierClose_late _ i.ref).2 rfl rfl
    · exact marked.mono rfl
  · intro shut0 shut1
    refine Changes.then (bs := [.items]) ?_ (rest _) rfl rfl
    rw [if_neg (not_or.mpr ⟨shut0, shut1⟩)]
    exact marked

end Sys2Proof.Machine
end

section
/-! SUPPORT. How an operation may move an item: its lane state forward, its correlation state by R118's table, and every other item by a
commit of its own claim alone (R9, R118, R125). -/

namespace Sys2Proof.Machine

/-! ### Moves of one item -/

/-- Lane state, leading edge, chute and reason as they were. -/
structure Item.LaneKept (i j : Item) : Prop where
  lead : j.lead = i.lead
  lane : j.lane = i.lane
  chute : j.chute = i.chute
  review : j.review = i.review

/-- The lane state no further back, and chute and reason as they were once DECIDED. -/
structure Item.LaneForward (i j : Item) : Prop where
  lead : j.lead = i.lead
  rank : i.lane.rank ≤ j.lane.rank
  fixed : LaneState.decided.rank ≤ i.lane.rank → j.chute = i.chute ∧ j.review = i.review

/-- The correlation state and the ordinal as they were, but for a WAITING item that commits (R124). -/
def Item.CorrKept (i j : Item) : Prop := (j.corr = i.corr ∧ j.ordinal = i.ordinal) ∨ (i.corr = .waiting ∧ j.corr = .committed)

/-- The correlation state as R118's table lets it move. -/
structure Item.CorrMoved (i j : Item) : Prop where
  final : i.corr.final → j.corr = i.corr ∧ j.ordinal = i.ordinal
  moves : j.corr ≠ i.corr → i.corr.mayMoveTo j.corr = true

theorem Item.LaneKept.refl (i : Item) : i.LaneKept i := ⟨rfl, rfl, rfl, rfl⟩

theorem Item.LaneKept.trans {i j k : Item} (h : i.LaneKept j) (g : j.LaneKept k) : i.LaneKept k :=
  ⟨g.lead.trans h.lead, g.lane.trans h.lane, g.chute.trans h.chute, g.review.trans h.review⟩

theorem Item.LaneKept.forward {i j : Item} (h : i.LaneKept j) : i.LaneForward j := ⟨h.lead, (congrArg _ h.lane).ge, fun _ => ⟨h.chute, h.review⟩⟩

theorem Item.LaneForward.trans {i j k : Item} (h : i.LaneForward j) (g : j.LaneForward k) : i.LaneForward k := by
  refine ⟨g.lead.trans h.lead, h.rank.trans g.rank, fun decided => ?_⟩
  obtain ⟨chute, review⟩ := h.fixed decided
  obtain ⟨chuteToo, reviewToo⟩ := g.fixed (decided.trans h.rank)
  exact ⟨chuteToo.trans chute, reviewToo.trans review⟩

theorem Item.CorrKept.refl (i : Item) : i.CorrKept i := .inl ⟨rfl, rfl⟩

theorem Item.CorrKept.trans {i j k : Item} (h : i.CorrKept j) (g : j.CorrKept k) : i.CorrKept k := by
  rcases h with ⟨corr, ordinal⟩ | ⟨waits, commits⟩ <;> rcases g with ⟨corr', ordinal'⟩ | ⟨waits', commits'⟩
  · exact .inl ⟨corr'.trans corr, ordinal'.trans ordinal⟩
  · exact .inr ⟨corr ▸ waits', commits'⟩
  · exact .inr ⟨waits, corr'.trans commits⟩
  · exact .inr ⟨waits, commits'⟩

theorem Item.CorrKept.moved {i j : Item} (h : i.CorrKept j) : i.CorrMoved j := by
  rcases h with ⟨corr, ordinal⟩ | ⟨waits, commits⟩
  · exact ⟨fun _ => ⟨corr, ordinal⟩, fun moved => absurd corr moved⟩
  · exact ⟨fun final => by simp [waits, CorrState.final] at final, fun _ => by rw [waits, commits]; rfl⟩

theorem Item.CorrKept.before {i j k : Item} (h : i.CorrKept j) (g : j.CorrMoved k) : i.CorrMoved k := by
  rcases h with ⟨corr, ordinal⟩ | ⟨waits, commits⟩
  · exact ⟨fun final => by rw [← corr, ← ordinal]; exact g.final (corr ▸ final), fun moved => by rw [← corr]; exact g.moves (corr ▸ moved)⟩
  · refine ⟨fun final => by simp [waits, CorrState.final] at final, fun _ => ?_⟩
    rw [waits, (g.final (by rw [commits]; rfl)).1, commits]
    rfl

/-- What may move to WAITING may commit instead (R123). -/
theorem CorrState.mayMoveTo_committed_of_waiting {a : CorrState} (h : a.mayMoveTo .waiting = true) : a.mayMoveTo .committed = true := by
  cases a with
  | settling d => rfl
  | _ => exact absurd h Bool.false_ne_true

theorem Item.CorrMoved.then {i j k : Item} (h : i.CorrMoved j) (g : j.CorrKept k) : i.CorrMoved k := by
  rcases g with ⟨corr, ordinal⟩ | ⟨waits, commits⟩
  · exact ⟨fun final => by rw [corr, ordinal]; exact h.final final, fun moved => by rw [corr]; exact h.moves (corr ▸ moved)⟩
  · refine ⟨fun final => ?_, fun _ => ?_⟩
    · rw [← (h.final final).1, waits] at final
      exact absurd final Bool.false_ne_true
    · by_cases still : j.corr = i.corr
      · rw [← still, waits, commits]; rfl
      · rw [commits]
        exact CorrState.mayMoveTo_committed_of_waiting (waits ▸ h.moves still)

/-- Both parts of an item's move. -/
structure Item.Steps (L C : Item → Item → Prop) (i j : Item) : Prop where
  lane : L i j
  corr : C i j

/-- Nothing of the item moves but a WAITING claim. -/
abbrev Item.Keeps : Item → Item → Prop := Item.Steps Item.LaneKept Item.CorrKept
/-- The correlation state moves. -/
abbrev Item.Turns : Item → Item → Prop := Item.Steps Item.LaneKept Item.CorrMoved
/-- The lane state moves. -/
abbrev Item.Advances : Item → Item → Prop := Item.Steps Item.LaneForward Item.CorrKept
/-- Either may move. -/
abbrev Item.Moves : Item → Item → Prop := Item.Steps Item.LaneForward Item.CorrMoved

theorem Item.Keeps.refl (i : Item) : i.Keeps i := ⟨.refl i, .refl i⟩
theorem Item.Keeps.trans {i j k : Item} (h : i.Keeps j) (g : j.Keeps k) : i.Keeps k := ⟨h.lane.trans g.lane, h.corr.trans g.corr⟩
theorem Item.Keeps.turns {i j k : Item} (h : i.Keeps j) (g : j.Turns k) : i.Turns k := ⟨h.lane.trans g.lane, h.corr.before g.corr⟩
theorem Item.Keeps.moves {i j : Item} (h : i.Keeps j) : i.Moves j := ⟨h.lane.forward, h.corr.moved⟩
theorem Item.Turns.keeps {i j k : Item} (h : i.Turns j) (g : j.Keeps k) : i.Turns k := ⟨h.lane.trans g.lane, h.corr.then g.corr⟩
theorem Item.Turns.moves {i j : Item} (h : i.Turns j) : i.Moves j := ⟨h.lane.forward, h.corr⟩
theorem Item.Keeps.turned {i j : Item} (h : i.Keeps j) : i.Turns j := ⟨h.lane, h.corr.moved⟩
theorem Item.Keeps.then {i j k : Item} (h : i.Keeps j) (g : j.Moves k) : i.Moves k := ⟨h.lane.forward.trans g.lane, h.corr.before g.corr⟩
theorem Item.Moves.keeps {i j k : Item} (h : i.Moves j) (g : j.Keeps k) : i.Moves k := ⟨h.lane.trans g.lane.forward, h.corr.then g.corr⟩
theorem Item.Advances.turns {i j k : Item} (h : i.Advances j) (g : j.Turns k) : i.Moves k := ⟨h.lane.trans g.lane.forward, h.corr.before g.corr⟩
theorem Item.Advances.moves {i j : Item} (h : i.Advances j) : i.Moves j := ⟨h.lane, h.corr.moved⟩

theorem Item.HeldFrom.keeps {i j : Item} (h : i.HeldFrom j) : i.Keeps j := by
  rw [h]
  exact ⟨⟨rfl, rfl, rfl, rfl⟩, .inl ⟨rfl, rfl⟩⟩

theorem Item.LateFrom.keeps {i j : Item} (h : i.LateFrom j) : i.Keeps j := by
  rw [h]
  exact ⟨⟨rfl, rfl, rfl, rfl⟩, .inl ⟨rfl, rfl⟩⟩

/-! ### Items a command does not name -/

/-- An item as a command that names another may leave it (R125, R126, R16, R18): its own WAITING claim may commit, a drop may mark it, it
may hold the overflow slot or be misdiverted where the command lets it. -/
structure Item.Elsewhere (held : Bool → Prop) (diverts : Prop) (i j : Item) : Prop where
  shape : j = { i with
    corr := j.corr, ordinal := j.ordinal, unconfirmed := j.unconfirmed, unconfirmedMark := j.unconfirmedMark
    misdiverted := j.misdiverted, depositHeld := j.depositHeld }
  deposit : j.depositHeld = i.depositHeld ∨ held i.departed
  corr : j.corr = i.corr ∧ j.ordinal = i.ordinal ∧ j.unconfirmed = i.unconfirmed ∨ i.corr = .waiting ∧ j.corr = .committed
  misdiverted : j.misdiverted = i.misdiverted ∨ diverts

section elsewhere

variable {held : Bool → Prop} {diverts : Prop}

theorem Item.Elsewhere.refl (i : Item) : i.Elsewhere held diverts i := ⟨rfl, .inl rfl, .inl ⟨rfl, rfl, rfl⟩, .inl rfl⟩

theorem Item.Elsewhere.trans {i j k : Item} (h : i.Elsewhere held diverts j) (g : j.Elsewhere held diverts k) : i.Elsewhere held diverts k := by
  refine ⟨by rw [g.shape, h.shape], ?_, ?_, ?_⟩
  · rcases g.deposit with same | may
    · exact h.deposit.imp_left same.trans
    · rw [h.shape] at may
      exact .inr may
  · rcases h.corr with ⟨corr, ordinal, sure⟩ | ⟨waits, commits⟩ <;> rcases g.corr with ⟨corr', ordinal', sure'⟩ | ⟨waits', commits'⟩
    · exact .inl ⟨corr'.trans corr, ordinal'.trans ordinal, sure'.trans sure⟩
    · exact .inr ⟨corr ▸ waits', commits'⟩
    · exact .inr ⟨waits, corr'.trans commits⟩
    · exact .inr ⟨waits, commits'⟩
  · rcases g.misdiverted with same | may
    · exact h.misdiverted.imp_left same.trans
    · exact .inr may

theorem Item.Elsewhere.keeps {i j : Item} (h : i.Elsewhere held diverts j) : i.Keeps j := by
  refine ⟨by rw [h.shape]; exact ⟨rfl, rfl, rfl, rfl⟩, ?_⟩
  rcases h.corr with ⟨corr, ordinal, -⟩ | commits
  · exact .inl ⟨corr, ordinal⟩
  · exact .inr commits

theorem Item.Elsewhere.mono {held' : Bool → Prop} {diverts' : Prop} {i j : Item} (h : i.Elsewhere held diverts j)
    (more : ∀ b, held b → held' b) (too : diverts → diverts') : i.Elsewhere held' diverts' j :=
  ⟨h.shape, h.deposit.imp_right (more _), h.corr, h.misdiverted.imp_right too⟩

end elsewhere

/-! ### What an operation does to the items of a ref, and to every other -/

/-- Every item left comes from one of its ref: those of one ref by one relation, the others by another. -/
def Station.ActsOn (ref : ItemRef) (R E : Item → Item → Prop) (s t : Station) : Prop :=
  ∀ r j, t.findItem r = some j → ∃ i, s.findItem r = some i ∧ (r = ref → R i j) ∧ (r ≠ ref → E i j)

section actsOn

variable {ref : ItemRef} {R S T E F G : Item → Item → Prop} {s t u : Station}

theorem Station.ActsOn.comp (h : s.ActsOn ref R E t) (g : t.ActsOn ref S F u) (joins : ∀ i j k, R i j → S j k → T i k)
    (others : ∀ i j k, E i j → F j k → G i k) : s.ActsOn ref T G u := fun r k found => by
  obtain ⟨j, between, own', other'⟩ := g r k found
  obtain ⟨i, start, own, other⟩ := h r j between
  exact ⟨i, start, fun is => joins i j k (own is) (own' is), fun ne => others i j k (other ne) (other' ne)⟩

theorem Station.ActsOn.mono (h : s.ActsOn ref R E t) (own : ∀ i j, R i j → S i j) (other : ∀ i j, E i j → F i j) : s.ActsOn ref S F t :=
  fun r j found => by
    obtain ⟨i, start, mine, others⟩ := h r j found
    exact ⟨i, start, fun is => own i j (mine is), fun ne => other i j (others ne)⟩

theorem Station.Evolves.actsOn (h : s.Evolves T t) (own : ∀ i j, T i j → R i j) (other : ∀ i j, T i j → E i j) : s.ActsOn ref R E t :=
  fun r j found => by
    obtain ⟨i, start, is⟩ := h r j found
    exact ⟨i, start, fun _ => own i j is, fun _ => other i j is⟩

theorem Station.ActsOn.evolves (h : s.ActsOn ref R E t) (own : ∀ i j, R i j → T i j) (other : ∀ i j, E i j → T i j) : s.Evolves T t :=
  fun r j found => by
    obtain ⟨i, start, mine, others⟩ := h r j found
    by_cases is : r = ref
    · exact ⟨i, start, own i j (mine is)⟩
    · exact ⟨i, start, other i j (others is)⟩

theorem Station.modifyItem_actsOn (s : Station) {f : Item → Item} (keeps : ∀ i, (f i).ref = i.ref)
    (writes : ∀ i, s.findItem ref = some i → R i (f i)) (alike : ∀ i, E i i) : s.ActsOn ref R E (s.modifyItem ref f) := fun r j found => by
  by_cases own : r = ref
  · subst own
    rw [s.findItem_modifyItem r f fun k own => (keeps k).trans own] at found
    obtain ⟨i, there, rfl⟩ := Option.map_eq_some_iff.mp found
    exact ⟨i, there, fun _ => writes i there, fun no => absurd rfl no⟩
  · rw [s.findItem_modifyItem_other ref r f keeps own] at found
    exact ⟨j, found, fun no => absurd no own, fun _ => alike j⟩

theorem Station.Rewrites.actsOn (h : s.Rewrites ref R t) (alike : ∀ i, E i i) : s.ActsOn ref R E t := by
  obtain ⟨f, writes, keeps, queue⟩ := h
  have same (r : ItemRef) : t.findItem r = (s.modifyItem ref f).findItem r := by rw [Station.findItem, queue]; rfl
  intro r j found
  rw [same] at found
  exact s.modifyItem_actsOn keeps (fun i _ => writes i) alike r j found

theorem Station.ActsOn.of_frame {bs : List Block} (h : Changes bs s t) (apart : Block.items ∉ bs) (own : ∀ i, R i i) (other : ∀ i, E i i) :
    s.ActsOn ref R E t := fun r j found =>
  ⟨j, by rw [← found, Station.findItem_of_items (h .items apart)], fun _ => own j, fun _ => other j⟩

theorem Station.ActsOn.refl (s : Station) (own : ∀ i, R i i) (other : ∀ i, E i i) : s.ActsOn ref R E s :=
  fun _ j found => ⟨j, found, fun _ => own j, fun _ => other j⟩

theorem Station.ActsOn.after {bs : List Block} (g : t.ActsOn ref R E u) (h : Changes bs s t) (apart : Block.items ∉ bs) : s.ActsOn ref R E u :=
  fun r j found => by
    obtain ⟨i, there, is⟩ := g r j found
    exact ⟨i, by rw [← there, Station.findItem_of_items (h .items apart)], is⟩

theorem Station.ActsOn.then {bs : List Block} (g : s.ActsOn ref R E t) (h : Changes bs t u) (apart : Block.items ∉ bs) : s.ActsOn ref R E u :=
  fun r j found => g r j (by rw [← found, Station.findItem_of_items (h .items apart)])

end actsOn

end Sys2Proof.Machine
end

section
/-! SUPPORT. The moves of items through each operation that reaches the Item Queue (R9, R118). -/

namespace Sys2Proof.Machine

section operations

variable {held : Bool → Prop} {diverts : Prop} (s : Station)

theorem Station.Evolves.after {R : Item → Item → Prop} {s t u : Station} {bs : List Block} (g : t.Evolves R u) (h : Changes bs s t)
    (apart : Block.items ∉ bs) : s.Evolves R u := fun r j found => by
  obtain ⟨i, there, is⟩ := g r j found
  exact ⟨i, by rw [← there, Station.findItem_of_items (h .items apart)], is⟩

theorem Station.Evolves.then {R : Item → Item → Prop} {s t u : Station} {bs : List Block} (g : s.Evolves R t) (h : Changes bs t u)
    (apart : Block.items ∉ bs) : s.Evolves R u := fun r j found =>
  g r j (by rw [← found, Station.findItem_of_items (h .items apart)])

/-! ### Commits on a report (R124 to R126) -/

theorem Station.commitOrdinary_evolves (k : Key) (e : Entry) {c : Claim} (waits : s.isWaiting c.ref = true) :
    s.Evolves (Item.Elsewhere held diverts) (s.commitOrdinary k e c) := by
  obtain ⟨i, found, waiting⟩ := (s.isWaiting_iff c.ref).mp waits
  let n := commitOrdinal e.committed 0
  let t := s.writeEntry k (Entry.commitOwn c.ref n c.tally)
  have wrote : Changes [.entries] s t := s.writeEntry_changes k _
  have rest : Changes [.claimCounts, .txQueue, .linkCounts, .flags] (t.modifyItem c.ref (Item.commit n false false)) (s.commitOrdinary k e c) :=
    (Station.countCommit_changes _ false).then (Station.offerNotice_changes _ _) rfl rfl
  have committed : t.Evolves (Item.Elsewhere held diverts) (t.modifyItem c.ref (Item.commit n false false)) :=
    t.modifyItem_evolves_found (fun _ => rfl) .refl fun j there => by
      rw [Station.findItem_of_items (wrote .items (by decide)), found] at there
      cases there
      exact ⟨by simp [Item.commit], .inl rfl, .inr ⟨waiting, rfl⟩, .inl rfl⟩
  exact (committed.after wrote (by decide)).then rest (by decide)

theorem Station.retest_evolves (k : Key) : s.Evolves (Item.Elsewhere held diverts) (s.retest k) :=
  s.retest_keeps (P := s.Evolves (Item.Elsewhere held diverts))
    (fun t e _ before _ _ _ waits => .trans Item.Elsewhere.trans before (t.commitOrdinary_evolves k e waits)) (.refl .refl)

theorem Item.elsewhere_of_marked (i : Item) : i.Elsewhere held diverts { i with unconfirmedMark := true } :=
  ⟨rfl, .inl rfl, .inl ⟨rfl, rfl, rfl⟩, .inl rfl⟩

theorem Station.markOverfull_evolves (k : Key) : s.Evolves (Item.Elsewhere held diverts) (s.markOverfull k) := by
  unfold Station.markOverfull
  split
  · exact .refl .refl
  · refine .of_map rfl (fun i => ?_) fun i => ?_
    · split <;> rfl
    · split
      · exact i.elsewhere_of_marked
      · exact .refl i

theorem Station.report_evolves (k : Key) (before : Option Entry) (o : Bool) :
    s.Evolves (Item.Elsewhere held diverts) (s.report k before o) := by
  unfold Station.report
  split
  · exact .refl .refl
  · split
    · split
      · exact .trans Item.Elsewhere.trans (s.markOverfull_evolves k) (Station.retest_evolves _ k)
      · exact s.retest_evolves k
    · exact .refl .refl

/-! ### Operations that name an item -/

variable {ref : ItemRef}

/-- A report stays with an operation on an item. -/
theorem Station.ActsOn.report {s t : Station} (h : s.ActsOn ref Item.Turns (Item.Elsewhere held diverts) t) (k : Key) (before : Option Entry)
    (o : Bool) : s.ActsOn ref Item.Turns (Item.Elsewhere held diverts) (t.report k before o) :=
  h.comp ((t.report_evolves k before o).actsOn (fun _ _ => Item.Elsewhere.keeps) fun _ _ => id) (fun _ _ _ => .keeps) fun _ _ _ => .trans

theorem Station.ActsOn.retest {s t : Station} (h : s.ActsOn ref Item.Turns (Item.Elsewhere held diverts) t) (k : Key) :
    s.ActsOn ref Item.Turns (Item.Elsewhere held diverts) (t.retest k) :=
  h.comp ((t.retest_evolves k).actsOn (fun _ _ => Item.Elsewhere.keeps) fun _ _ => id) (fun _ _ _ => .keeps) fun _ _ _ => .trans

/-- A move of the correlation state of an item in a state that may make it. -/
theorem Station.modifyItem_turns {f : Item → Item} (keeps : ∀ i, (f i).ref = i.ref) (lane : ∀ i, Item.LaneKept i (f i))
    (moves : ∀ i, s.findItem ref = some i → i.CorrMoved (f i)) : s.ActsOn ref Item.Turns (Item.Elsewhere held diverts) (s.modifyItem ref f) :=
  s.modifyItem_actsOn keeps (fun i found => ⟨lane i, moves i found⟩) .refl

theorem Station.modifyItem_keeps {f : Item → Item} (keeps : ∀ i, (f i).ref = i.ref) (still : ∀ i, Item.Keeps i (f i)) :
    s.ActsOn ref Item.Keeps (Item.Elsewhere held diverts) (s.modifyItem ref f) :=
  s.modifyItem_actsOn keeps (fun i _ => still i) .refl

theorem Item.keeps_of {i j : Item} (lead : j.lead = i.lead := by rfl) (lane : j.lane = i.lane := by rfl) (chute : j.chute = i.chute := by rfl)
    (review : j.review = i.review := by rfl) (corr : j.corr = i.corr := by rfl) (ordinal : j.ordinal = i.ordinal := by rfl) : i.Keeps j :=
  ⟨⟨lead, lane, chute, review⟩, .inl ⟨corr, ordinal⟩⟩

/-- The same after an operation that leaves the Item Queue. -/
theorem Station.turns_after {s t : Station} {bs : List Block} {f : Item → Item} (h : Changes bs s t) (apart : Block.items ∉ bs)
    (keeps : ∀ i, (f i).ref = i.ref) (lane : ∀ i, Item.LaneKept i (f i)) (moves : ∀ i, s.findItem ref = some i → i.CorrMoved (f i)) :
    s.ActsOn ref Item.Turns (Item.Elsewhere held diverts) (t.modifyItem ref f) :=
  (t.modifyItem_turns keeps lane fun i there => moves i (by rw [← there, Station.findItem_of_items (h .items apart)])).after h apart

/-- A state that is not final may make a move of the table. -/
theorem Item.corrMoved_of {i j : Item} (open_ : i.corr.final = false) (may : i.corr.mayMoveTo j.corr = true) : i.CorrMoved j :=
  ⟨fun final => absurd (open_.symm.trans final) Bool.false_ne_true, fun _ => may⟩

theorem CorrState.open_of_mayMoveTo {a b : CorrState} (may : a.mayMoveTo b = true) : a.final = false := by
  cases a with
  | committed => exact absurd may Bool.false_ne_true
  | rejected r => exact absurd may Bool.false_ne_true
  | _ => rfl

theorem Station.reject_after {s t : Station} {bs : List Block} (h : Changes bs s t) (apart : Block.items ∉ bs) {r : Rejection}
    (may : ∀ i, s.findItem ref = some i → i.corr.mayMoveTo (.rejected r) = true) :
    s.ActsOn ref Item.Turns (Item.Elsewhere held diverts) (t.reject ref r) :=
  Station.turns_after h apart (fun _ => rfl) (fun _ => ⟨rfl, rfl, rfl, rfl⟩) fun i found =>
    Item.corrMoved_of (CorrState.open_of_mayMoveTo (may i found)) (may i found)

theorem Station.offerClaim_turns {i : Item} (k : Key) (e : Entry) (found : s.findItem ref = some i) (unkeyed : i.corr = .unkeyed) :
    s.ActsOn ref Item.Turns (Item.Elsewhere held diverts) (s.offerClaim ref k e) := by
  have open_ (a : CorrState) (may : CorrState.unkeyed.mayMoveTo a = true) (f : Item → Item) (is : ∀ k, (f k).corr = a) (j : Item)
      (there : s.findItem ref = some j) : j.CorrMoved (f j) := by
    cases found.symm.trans there
    exact Item.corrMoved_of (by rw [unkeyed]; rfl) (by rw [unkeyed, is]; exact may)
  unfold Station.offerClaim
  dsimp only
  split
  · exact (Station.turns_after (((s.takeTally_changes.then (Station.txPush_changes _ _) rfl rfl :
      Changes [.tally, .claimCounts, .txQueue] s _).then (Station.writeEntry_changes _ k _) rfl rfl :
      Changes [.tally, .claimCounts, .txQueue, .entries] s _).then (Station.countDropped_changes _ _) rfl rfl :
      Changes [.tally, .claimCounts, .txQueue, .entries, .tableCounts] s _) (by decide) (fun _ => by rfl)
      (fun _ => by exact ⟨rfl, rfl, rfl, rfl⟩) (open_ .queued rfl _ fun _ => by rfl)).report k _ _
  · exact Station.reject_after s.takeTally_changes (by decide) fun j there => by cases found.symm.trans there; rw [unkeyed]; rfl

theorem Station.takeKey_turns (k : Key) : s.ActsOn ref Item.Turns (Item.Elsewhere held diverts) (s.takeKey ref k) := by
  have still : s.ActsOn ref Item.Turns (Item.Elsewhere held diverts) s := .refl s (fun i => (Item.Keeps.refl i).turned) .refl
  have made := s.ensureEntry_changes k 0 s.freshHoldings
  have touched : Changes [.entries, .tableCounts, .context, .flags] s ((s.ensureEntry k 0 s.freshHoldings).1.touch k) :=
    made.then (Station.touch_changes _ k) rfl rfl
  unfold Station.takeKey
  dsimp only
  split
  · exact still
  next i found =>
    split
    · exact still
    next unkeyed =>
      rw [not_not] at unkeyed
      have may {r : Rejection} (other : r ≠ .unsettled) (j : Item) (there : s.findItem ref = some j) :
          j.corr.mayMoveTo (.rejected r) = true := by
        cases found.symm.trans there
        rw [unkeyed]
        exact decide_eq_true other
      split_ifs
      · exact still
      · exact Station.reject_after (Changes.refl s : Changes [] s s) (by decide) (may (by decide))
      · exact Station.reject_after made (by decide) (may (by decide))
      · split
        · exact .of_frame touched (by decide) (fun i => (Item.Keeps.refl i).turned) .refl
        · split_ifs
          · exact Station.reject_after touched (by decide) (may (by decide))
          · exact (Station.offerClaim_turns _ k _ ((Station.findItem_of_items (touched .items (by decide)) ref).trans found) unkeyed).after
              touched (by decide)

/-! ### Matching (R82 to R87) -/

/-- Lane state kept, and a local commit at most. -/
def Item.LocallyFrom (i j : Item) : Prop := i.LaneKept j ∧ ((j.corr = i.corr ∧ j.ordinal = i.ordinal) ∨ j.corr = .committed)

theorem Item.LocallyFrom.trans {i j k : Item} (h : i.LocallyFrom j) (g : j.LocallyFrom k) : i.LocallyFrom k := by
  refine ⟨h.1.trans g.1, ?_⟩
  rcases g.2 with ⟨corr, ordinal⟩ | commits
  · exact h.2.imp (fun ⟨corr', ordinal'⟩ => ⟨corr.trans corr', ordinal.trans ordinal'⟩) corr.trans
  · exact .inr commits

theorem Station.ActsOn.local {s t u : Station} {E : Item → Item → Prop} (h : s.ActsOn ref Item.LocallyFrom E t)
    (g : t.ActsOn ref Item.LocallyFrom E u) (joins : ∀ i j k, E i j → E j k → E i k) : s.ActsOn ref Item.LocallyFrom E u :=
  h.comp g (fun _ _ _ => .trans) joins

theorem Station.modifyItem_locally {f : Item → Item} (keeps : ∀ i, (f i).ref = i.ref) (writes : ∀ i, Item.LocallyFrom i (f i)) :
    s.ActsOn ref Item.LocallyFrom Eq (s.modifyItem ref f) :=
  s.modifyItem_actsOn keeps (fun i _ => writes i) fun _ => rfl

theorem Item.LocallyFrom.refl (i : Item) : i.LocallyFrom i := ⟨.refl i, .inl ⟨rfl, rfl⟩⟩

theorem Station.commitProvisional_locally (k : Key) : s.ActsOn ref Item.LocallyFrom Eq (s.commitProvisional ref k) := by
  unfold Station.commitProvisional
  split
  · exact .refl s .refl fun _ => rfl
  · exact (Station.modifyItem_locally _ (fun _ => by rfl) fun _ => by exact ⟨⟨rfl, rfl, rfl, rfl⟩, .inr rfl⟩).after
      (s.writeEntry_changes k _) (by decide)

theorem Station.markItem_locally (m : TrackerMark) : s.ActsOn ref Item.LocallyFrom Eq (s.markItem ref m) :=
  s.modifyItem_locally (fun _ => rfl) fun _ => ⟨⟨rfl, rfl, rfl, rfl⟩, .inl ⟨rfl, rfl⟩⟩

theorem Station.issueProvisional_locally (number : Nat) (stored : Stored) (c : Consignment) :
    s.ActsOn ref Item.LocallyFrom Eq (s.issueProvisional ref number stored c) := by
  unfold Station.issueProvisional
  dsimp only
  split
  · exact (Station.markItem_locally _ _).after (s.modifyContext_changes _) (by decide)
  · split
    · exact (Station.markItem_locally _ _).after ((s.modifyContext_changes _).then (Station.createEntry_changes _ _) rfl rfl :
        Changes [.context, .entries, .tableCounts, .flags] s _) (by decide)
    · exact (((Station.modifyItem_locally _ (fun _ => by rfl) fun _ => by exact ⟨⟨rfl, rfl, rfl, rfl⟩, .inl ⟨rfl, rfl⟩⟩).after
        (((s.modifyContext_changes _).then (Station.createEntry_changes _ _) rfl rfl :
          Changes [.context, .entries, .tableCounts, .flags] s _).then (Station.modifyContext_changes _ _) rfl rfl :
          Changes [.context, .entries, .tableCounts, .flags] s _) (by decide)).then (changes_trackerCounts _ _ _) (by decide)).local
        (Station.commitProvisional_locally _ _) fun _ _ _ => .trans

theorem Station.matchRoster_locally {i : Item} (own : i.ref = ref) (g : Nat) (c : Consignment) :
    s.ActsOn ref Item.LocallyFrom Eq (s.matchRoster i g c) := by
  subst own
  unfold Station.matchRoster
  split
  · exact (((Station.modifyItem_locally _ (fun _ => by rfl) fun _ => by exact ⟨⟨rfl, rfl, rfl, rfl⟩, .inl ⟨rfl, rfl⟩⟩).then
      ((Station.touch_changes _ _).then (changes_trackerCounts _ _ _) rfl rfl : Changes [.entries, .trackerCounts] _ _) (by decide))).local
      (Station.commitProvisional_locally _ _) fun _ _ _ => .trans
  · exact s.issueProvisional_locally _ _ _

/-- Matching starts a local commit from UNKEYED alone (R87). -/
theorem Station.runMatching_turns : s.ActsOn ref Item.Turns Eq (s.runMatching ref) := by
  have ended : s.ActsOn ref Item.LocallyFrom Eq (s.modifyItem ref fun x => { x with matching := false }) :=
    s.modifyItem_locally (fun _ => rfl) fun _ => ⟨⟨rfl, rfl, rfl, rfl⟩, .inl ⟨rfl, rfl⟩⟩
  have marked (m : TrackerMark) := ended.local (Station.markItem_locally _ (ref := ref) m) fun _ _ _ => .trans
  cases found : s.findItem ref with
  | none =>
    rw [Station.runMatching, found]
    exact .refl s (fun i => (Item.Keeps.refl i).turned) fun _ => rfl
  | some i =>
    by_cases unkeyed : i.corr = .unkeyed
    · have locally_ : s.ActsOn ref Item.LocallyFrom Eq (s.runMatching ref) := by
        unfold Station.runMatching
        rw [found]
        dsimp only
        rw [if_neg (not_not.mpr unkeyed)]
        split
        · exact marked _
        · split_ifs
          · exact marked _
          · exact ended
          · split
            · exact marked _
            · exact ended.local (Station.matchRoster_locally _ (s.findItem_ref found) _ _) fun _ _ _ => .trans
          · exact marked _
      intro r j there
      obtain ⟨a, start, own, other⟩ := locally_ r j there
      refine ⟨a, start, fun is => ?_, other⟩
      obtain ⟨lane, corr⟩ := own is
      rw [is, found] at start
      cases start
      refine ⟨lane, ?_⟩
      rcases corr with same | commits
      · exact Item.CorrKept.moved (.inl same)
      · exact Item.corrMoved_of (by rw [unkeyed]; rfl) (by rw [unkeyed, commits]; rfl)
    · have still : s.runMatching ref = s.modifyItem ref fun x => { x with matching := false } := by
        unfold Station.runMatching
        rw [found]
        exact if_pos unkeyed
      rw [still]
      exact s.modifyItem_actsOn (fun _ => rfl) (fun i _ => (Item.keeps_of : i.Keeps { i with matching := false }).turned) fun _ => rfl

end operations

end Sys2Proof.Machine
end

section
/-! SUPPORT. The moves of items through the commands that name one: windows, weights, settle expiry, the decision, the diverter and the
departure (sections 1.4, 7.2, 9.3). -/

namespace Sys2Proof.Machine

section operations

variable {held : Bool → Prop} {diverts : Prop} (s : Station) {ref : ItemRef}

theorem Station.runMatching_actsOn : s.ActsOn ref Item.Turns (Item.Elsewhere held diverts) (s.runMatching ref) :=
  s.runMatching_turns.mono (fun _ _ => id) fun i _ is => is ▸ .refl i

theorem Station.ActsOn.still : s.ActsOn ref Item.Turns (Item.Elsewhere held diverts) s := .refl s (fun i => (Item.Keeps.refl i).turned) .refl

theorem Station.ActsOn.kept {bs : List Block} {t : Station} (h : Changes bs s t) (apart : Block.items ∉ bs) :
    s.ActsOn ref Item.Turns (Item.Elsewhere held diverts) t := .of_frame h apart (fun i => (Item.Keeps.refl i).turned) .refl

theorem Station.takeIntoMatching_turns : s.ActsOn ref Item.Turns (Item.Elsewhere held diverts) (s.takeIntoMatching ref) := by
  unfold Station.takeIntoMatching
  split
  · exact .still s
  · split
    · exact s.runMatching_actsOn
    · exact s.modifyItem_actsOn (fun _ => by rfl) (fun i _ => (Item.keeps_of : i.Keeps { i with matching := true }).turned) .refl

theorem Station.weightArrives_turns : s.ActsOn ref Item.Turns (Item.Elsewhere held diverts) (s.weightArrives ref) := by
  unfold Station.weightArrives
  split
  · exact .still s
  · split
    · exact s.runMatching_actsOn
    · exact .still s

/-- What keeps the item before a turn of it. -/
theorem Station.ActsOn.keeps_turns {s t u : Station} (h : s.ActsOn ref Item.Keeps (Item.Elsewhere held diverts) t)
    (g : t.ActsOn ref Item.Turns (Item.Elsewhere held diverts) u) : s.ActsOn ref Item.Turns (Item.Elsewhere held diverts) u :=
  h.comp g (fun _ _ _ => Item.Keeps.turns) fun _ _ _ => .trans

theorem Station.weightOutcome_turns (w : WeightRecord) (net : Option Int) :
    s.ActsOn ref Item.Turns (Item.Elsewhere held diverts) (s.weightOutcome ref w net) := by
  have wrote : s.ActsOn ref Item.Keeps (Item.Elsewhere held diverts) (s.weighed ref w) :=
    (s.modifyItem_keeps (fun _ => by rfl) fun i => (Item.keeps_of : i.Keeps { i with weight := some w })).then
      (Station.freeBuffer_changes _ ref) (by decide)
  rw [s.weightOutcome_eq]
  exact (wrote.keeps_turns (Station.weightArrives_turns _)).then (Station.endCalibration_changes _ ref net) (by decide)

theorem Station.scaleClose_turns : s.ActsOn ref Item.Turns (Item.Elsewhere held diverts) (s.scaleClose ref) := by
  unfold Station.scaleClose
  split
  · exact .still s
  · split_ifs
    · exact s.weightOutcome_turns _ _
    · exact s.weightOutcome_turns _ _
    · split
      · exact s.weightOutcome_turns _ _
      · split_ifs
        · exact (Station.weightOutcome_turns _ _ _).after (s.countMeasure_changes _) (by decide)
        · split
          · exact s.weightOutcome_turns _ _
          · exact .kept s (s.startComputation_changes ref _) (by decide)

theorem Station.weightCompletes_turns : s.ActsOn ref Item.Turns (Item.Elsewhere held diverts) (s.weightCompletes ref) := by
  unfold Station.weightCompletes
  split
  · exact .still s
  · split
    · exact .still s
    · exact s.weightOutcome_turns _ _

theorem Station.stampItem_turns (u : Bool) : s.ActsOn ref Item.Turns (Item.Elsewhere held diverts) (s.stampItem ref u) := by
  unfold Station.stampItem
  split
  · split
    · exact s.modifyItem_actsOn (fun _ => by rfl) (fun i _ => (Item.keeps_of : i.Keeps { i with trackerMark := some .noKey }).turned) .refl
    · exact .still s
  next c _ =>
    have stamped (g : Consignment → Consignment) : s.ActsOn ref Item.Keeps (Item.Elsewhere held diverts)
        ((s.modifyItem ref fun i => { i with consignment := some c.number }).modifyContext g) :=
      (s.modifyItem_keeps (fun _ => by rfl) fun i => (Item.keeps_of : i.Keeps { i with consignment := some c.number })).then
        (Station.modifyContext_changes _ g) (by decide)
    have turned (g : Consignment → Consignment) := (stamped g).keeps_turns (Station.takeIntoMatching_turns _)
    have kept (g : Consignment → Consignment) := (stamped g).mono (fun _ _ => Item.Keeps.turned) fun _ _ => id
    dsimp only
    split_ifs
    · exact (turned _).then (Station.closeContext_changes _ _) (by decide)
    · exact (kept _).then (Station.closeContext_changes _ _) (by decide)
    · exact turned _
    · exact kept _

/-- The stamp of an item that goes on to its key keeps it. -/
theorem Station.stampItem_keeps : s.ActsOn ref Item.Keeps (Item.Elsewhere held diverts) (s.stampItem ref false) := by
  unfold Station.stampItem
  split
  · exact .refl s .refl .refl
  next c _ =>
    have stamped (g : Consignment → Consignment) : s.ActsOn ref Item.Keeps (Item.Elsewhere held diverts)
        ((s.modifyItem ref fun i => { i with consignment := some c.number }).modifyContext g) :=
      (s.modifyItem_keeps (fun _ => by rfl) fun i => (Item.keeps_of : i.Keeps { i with consignment := some c.number })).then
        (Station.modifyContext_changes _ g) (by decide)
    dsimp only
    split
    · exact (stamped _).then (Station.closeContext_changes _ _) (by decide)
    · exact stamped _

theorem Station.identifierClose_turns : s.ActsOn ref Item.Turns (Item.Elsewhere held diverts) (s.identifierClose ref false) := by
  have wrote (o : IdOutcome) (k : Option Key) (m : Bool) : s.ActsOn ref Item.Keeps (Item.Elsewhere held diverts) (s.writeOutcome ref o k m) :=
    s.modifyItem_keeps (fun _ => rfl) fun _ => Item.keeps_of
  unfold Station.identifierClose
  split
  · exact .still s
  · split
    · exact (wrote _ _ _).keeps_turns (Station.stampItem_turns _ _)
    · split
      · exact ((wrote _ _ _).comp (Station.stampItem_keeps _) (fun _ _ _ => .trans) fun _ _ _ => .trans).keeps_turns (Station.takeKey_turns _ _)
      · exact ((wrote _ _ _).then (Station.takeSlip_changes _ _) (by decide)).mono (fun _ _ => Item.Keeps.turned) fun _ _ => id
      · exact (wrote _ _ _).keeps_turns (Station.stampItem_turns _ _)
      · exact ((wrote _ _ _).then (changes_keyCounts _ _) (by decide)).keeps_turns (Station.stampItem_turns _ _)

theorem Item.closeWindow_advances (h : Head) (i : Item) : i.Advances (i.closeWindow h) := by
  refine ⟨⟨rfl, ?_, fun _ => ⟨rfl, rfl⟩⟩, .inl ⟨rfl, rfl⟩⟩
  unfold Item.closeWindow
  dsimp only
  split
  next last => rw [last.1]; decide
  next => exact le_rfl

theorem Station.windowCloses_moves (h : Head) : s.ActsOn ref Item.Moves (Item.Elsewhere held diverts) (s.windowCloses ref h) := by
  have still : s.ActsOn ref Item.Moves (Item.Elsewhere held diverts) s := .refl s (fun i => (Item.Keeps.refl i).moves) .refl
  unfold Station.windowCloses
  split
  · exact still
  next i found =>
    obtain rfl := s.findItem_ref found
    split
    · exact still
    · split
      · have closed : s.ActsOn i.ref Item.Advances (Item.Elsewhere held diverts) (s.modifyItem i.ref (Item.closeWindow h)) :=
          s.modifyItem_actsOn (fun _ => rfl) (fun k _ => k.closeWindow_advances h) .refl
        refine closed.comp ?_ (fun _ _ _ => Item.Advances.turns) fun _ _ _ => .trans
        unfold Station.deliverClose
        split
        · split
          · exact Station.identifierClose_turns _
          · exact .still _
        · split
          · exact Station.identifierClose_turns _
          · exact .still _
        · exact Station.scaleClose_turns _
        · exact Station.modifyItem_actsOn _ (fun _ => by rfl) (fun k _ => by exact (Item.keeps_of : k.Keeps { k with
            thickness := k.maxThickness, width := k.maxWidth, maxThickness := none, maxWidth := none }).turned) .refl
      · exact still

theorem Station.windowOpens_moves (h : Head) : s.ActsOn ref Item.Moves (Item.Elsewhere held diverts) (s.windowOpens ref h) := by
  have still : s.ActsOn ref Item.Moves (Item.Elsewhere held diverts) s := .refl s (fun i => (Item.Keeps.refl i).moves) .refl
  have opened : s.ActsOn ref Item.Moves (Item.Elsewhere held diverts) (s.modifyItem ref fun x => { x with windows := x.windows.set h .opened }) :=
    s.modifyItem_actsOn (fun _ => rfl) (fun i _ => (Item.keeps_of : i.Keeps { i with windows := i.windows.set h .opened }).moves) .refl
  unfold Station.windowOpens
  split
  · exact still
  · split
    · dsimp only
      split
      · refine opened.comp ?_ (fun _ _ _ => Item.Moves.keeps) fun _ _ _ => .trans
        unfold Station.scaleWindowOpens
        split
        · exact (Station.modifyItem_keeps _ (fun _ => by rfl) fun i => by exact (Item.keeps_of : i.Keeps { i with calMark := true })).after
            (changes_calibration _ _) (by decide)
        · exact .refl _ .refl .refl
      all_goals exact opened
    · exact still

/-! ### Settle expiry and the end of a claim -/

/-- The commit of an item whose claim may commit. -/
theorem Station.commitAs_turns {i : Item} {c : Claim} (own : c.ref = ref) (found : s.findItem ref = some i)
    (may : i.corr.mayMoveTo .committed = true) (k : Key) (n : Nat) (isRanked ranked unconfirmed : Bool) :
    s.ActsOn ref Item.Turns (Item.Elsewhere held diverts) (s.commitAs k c n isRanked ranked unconfirmed) := by
  subst own
  have committed : s.ActsOn c.ref Item.Turns (Item.Elsewhere held diverts)
      ((s.writeEntry k (Entry.commitOwn c.ref n c.tally)).modifyItem c.ref (Item.commit n ranked unconfirmed)) :=
    Station.turns_after (s.writeEntry_changes k _) (by decide) (fun _ => rfl) (fun _ => ⟨rfl, rfl, rfl, rfl⟩) fun j there => by
      cases found.symm.trans there
      exact Item.corrMoved_of (CorrState.open_of_mayMoveTo may) may
  exact committed.then ((Station.countCommit_changes _ isRanked).then (Station.offerNotice_changes _ _) rfl rfl :
    Changes [.claimCounts, .txQueue, .linkCounts, .flags] _ _) (by decide)

theorem Entry.ownClaim_ref {e : Entry} {c : Claim} (is : e.ownClaim ref = some c) : c.ref = ref := by
  have test := List.find?_some is
  simp only [Bool.and_eq_true, decide_eq_true_eq] at test
  exact test.2

theorem Station.settleExpires_turns : s.ActsOn ref Item.Turns (Item.Elsewhere held diverts) (s.settleExpires ref) := by
  unfold Station.settleExpires
  split
  · exact .still s
  next i found =>
    split
    next d k settling _ =>
      have waits : s.ActsOn ref Item.Turns (Item.Elsewhere held diverts) (s.modifyItem ref fun x => { x with corr := .waiting }) :=
        s.modifyItem_turns (fun _ => rfl) (fun _ => ⟨rfl, rfl, rfl, rfl⟩) fun j there => by
          cases found.symm.trans there
          exact Item.corrMoved_of (by rw [settling]; rfl) (by rw [settling]; rfl)
      split
      · split
        · exact waits
        · split
          next c own =>
            split
            · exact (s.commitAs_turns (Entry.ownClaim_ref own) found (by rw [settling]; rfl) _ _ _ _ _).retest _
            · exact waits
          next => exact waits
      · exact .still s
    next => exact .still s

/-! ### The room at a decision -/

/-- Who may come to hold the overflow slot: departed items alone where refs are distinct, and anyone otherwise. -/
def Station.MayHold (held : Bool → Prop) (s : Station) : Prop := held true ∧ ((s.lane.queue.map Item.ref).Nodup ∨ held false)

theorem Station.MayHold.of_refs {s t : Station} (h : s.MayHold held) (same : t.lane.queue.map Item.ref = s.lane.queue.map Item.ref) :
    t.MayHold held := by rwa [Station.MayHold, same]

theorem Station.offerDeposit_elsewhere (may : s.MayHold held) {i : Item} (listed : i ∈ s.lane.queue) (departed : i.departed = true) (g : Bool) :
    s.Evolves (Item.Elsewhere held diverts) (s.offerDeposit i g) := by
  unfold Station.offerDeposit
  split
  · exact .trans Item.Elsewhere.trans (.of_queue (t := s.txPush (.deposit i.deposit)) rfl .refl) (Station.removeItem_evolves _ _ _ .refl)
  · refine (Station.modifyItem_evolves_found (R := Item.Elsewhere held diverts) _ (fun _ => by rfl) .refl fun j there => ?_).after
      (changes_overflow s _) (by decide)
    refine ⟨rfl, .inr ?_, .inl ⟨rfl, rfl, rfl⟩, .inl rfl⟩
    have found : s.findItem i.ref = some j := there
    cases is : j.departed with
    | true => exact may.1
    | false =>
      rcases may.2 with distinct | all
      · have one : j = i := List.inj_on_of_nodup_map distinct (s.findItem_mem found) listed (s.findItem_ref found)
        rw [one, departed] at is
        cases is
      · exact all
  · exact .refl .refl

theorem Station.roomReport_elsewhere (may : s.MayHold held) : s.Evolves (Item.Elsewhere held diverts) (s.roomReport false) := by
  have deposited (t : Station) (b : Body) (g : Bool) : t.Evolves (Item.Elsewhere held diverts) (t.removeDeposited b g) ∧
      (t.removeDeposited b g).lane.queue.Sublist t.lane.queue := by
    unfold Station.removeDeposited
    split
    · split
      · split
        · exact ⟨t.removeItem_evolves _ _ .refl, by rw [t.removeItem_queue]; exact List.filter_sublist⟩
        · exact ⟨.refl .refl, .refl _⟩
      · exact ⟨.refl .refl, .refl _⟩
    · exact ⟨.refl .refl, .refl _⟩
  have moved : s.Evolves (Item.Elsewhere held diverts) (s.moveOverflow false) := by
    unfold Station.moveOverflow
    split
    · exact .refl .refl
    next b slot =>
      split
      · obtain ⟨evolves, fewer⟩ := deposited ({ s with records := { s.records with overflow := none } }.txPush b) b true
        have start : s.Evolves (Item.Elsewhere held diverts)
            (({ s with records := { s.records with overflow := none } }.txPush b).removeDeposited b true) := evolves
        dsimp only
        rw [if_neg Bool.false_ne_true]
        split
        next i oldest =>
          refine .trans Item.Elsewhere.trans start (Station.offerDeposit_elsewhere _ ⟨may.1, may.2.imp_left fun distinct => ?_⟩
            (List.mem_of_find?_eq_some oldest) (List.find?_some oldest) _)
          exact distinct.sublist (fewer.map _)
        next => exact start
      · exact .refl .refl
  unfold Station.roomReport
  dsimp only
  split
  · exact moved.then (Station.offerAnnounce_changes _) (by decide)
  · exact moved

theorem Station.takeBack_elsewhere (may : s.MayHold held) (r : ItemRef) : s.Evolves (Item.Elsewhere held diverts) (s.takeBack r false) := by
  unfold Station.takeBack
  split
  · exact .refl .refl
  · split
    · exact .of_frame (changes_txQueue s _) (by decide) .refl
    · exact (Station.roomReport_elsewhere _ (by exact may)).after (changes_txQueue s _) (by decide)

theorem Station.finalizeItem_turns (may : s.MayHold held) : s.ActsOn ref Item.Turns (Item.Elsewhere held diverts) (s.finalizeItem ref) := by
  unfold Station.finalizeItem
  split
  · exact .still s
  next i found =>
    have rejected (k : Key) (moves : i.corr.mayMoveTo (.rejected .unsettled) = true) :
        s.ActsOn ref Item.Turns (Item.Elsewhere held diverts) ((s.reject ref .unsettled).removeOwnClaim k ref) :=
      (Station.reject_after (Changes.refl s : Changes [] s s) (by decide) fun j there => by cases found.symm.trans there; exact moves).then
        (Station.removeOwnClaim_changes _ k ref) (by decide)
    split
    next k waiting _ =>
      have committed (e : Entry) (c : Claim) (own : e.ownClaim i.ref = some c) := fun n a b d =>
        (s.commitAs_turns (held := held) (diverts := diverts) ((Entry.ownClaim_ref own).trans (s.findItem_ref found)) found
          (by rw [waiting]; rfl) k n a b d).retest k
      unfold Station.finalizeWaiting
      split
      · exact .still s
      · split
        · exact .still s
        next own =>
          split
          · exact committed _ _ own _ _ _ _
          · exact committed _ _ own _ _ _ _
    next k queued _ =>
      have mayToo : ((s.reject ref .unsettled).removeOwnClaim k ref).MayHold held := by
        refine may.of_refs ?_
        rw [show ((s.reject ref .unsettled).removeOwnClaim k ref).lane.queue = (s.reject ref .unsettled).lane.queue from
          Station.removeOwnClaim_changes _ k ref .items (by decide)]
        exact (s.modifyItem_rewrites (ref := ref) (R := fun _ _ => True) (f := fun i => { i with corr := .rejected .unsettled })
          (fun _ => trivial) fun _ => rfl).refs
      exact ((rejected k (by rw [queued]; rfl)).comp ((Station.takeBack_elsewhere _ mayToo ref).actsOn (fun _ _ => Item.Elsewhere.keeps) fun _ _ => id)
        (fun _ _ _ => .keeps) fun _ _ _ => .trans).report _ _ _
    next d k settling _ =>
      exact ((rejected k (by rw [settling]; rfl)).then (Station.offerWithdraw_changes _ _ _ _) (by decide)).report _ _ _
    next => exact .still s

end operations

end Sys2Proof.Machine
end

section
/-! SUPPORT. The moves of items through every command (R9, R118), and the statement on them. -/

namespace Sys2Proof.Machine

section operations

variable {held : Bool → Prop} {diverts : Prop} (s : Station) {ref : ItemRef}

/-! ### The decision point -/

/-- Leading edge, correlation state and ordinal as they were. -/
def Item.AlikeFrom (i j : Item) : Prop := j.lead = i.lead ∧ j.corr = i.corr ∧ j.ordinal = i.ordinal

theorem Item.AlikeFrom.trans {i j k : Item} (h : i.AlikeFrom j) (g : j.AlikeFrom k) : i.AlikeFrom k :=
  ⟨g.1.trans h.1, g.2.1.trans h.2.1, g.2.2.trans h.2.2⟩

/-- The end of a decision leaves these, and makes its item DECIDED. -/
def Item.DecidedFrom (i j : Item) : Prop := i.AlikeFrom j ∧ j.lane = .decided

theorem LaneState.rank_le_diverting (l : LaneState) : l.rank ≤ LaneState.diverting.rank := by cases l <;> decide

theorem Station.endDecision_rewrites : s.Rewrites ref Item.DecidedFrom (s.endDecision ref) := by
  have ended : s.Rewrites ref Item.AlikeFrom (s.endWait ref) :=
    s.modifyItem_rewrites (fun i => by split <;> exact ⟨rfl, rfl, rfl⟩) fun i => by split <;> rfl
  have fixed (t : Station) : t.Rewrites ref Item.AlikeFrom (t.fixChute ref) := by
    unfold Station.fixChute
    split
    · exact .of_queue rfl fun _ => ⟨rfl, rfl, rfl⟩
    next i _ =>
      have wrote : t.Rewrites ref Item.AlikeFrom (t.modifyItem ref fun x =>
          { x with chute := some (i.fixedChute t.cfg.chuteMap), review := i.reviewReason }) :=
        t.modifyItem_rewrites (fun _ => ⟨rfl, rfl, rfl⟩) fun _ => rfl
      dsimp only
      split
      · exact wrote.then_frame ((Station.modifyContext_changes _ _).then (Station.countDisposed_changes _ _) rfl rfl :
          Changes [.context, .recordCounts] _ _) (by decide)
      · exact wrote.then_frame (Station.countDisposed_changes _ _) (by decide)
  exact (ended.comp (T := Item.AlikeFrom) (fixed _) fun _ _ _ => .trans).comp
    (Station.modifyItem_rewrites _ (R := Item.DecidedFrom) (fun _ => by exact ⟨⟨rfl, rfl, rfl⟩, rfl⟩) fun _ => by rfl)
    fun i j k (h : i.AlikeFrom j) (g : j.DecidedFrom k) => ⟨h.trans g.1, g.2⟩

theorem Item.DecidedFrom.moves {i k j : Item} (undecided : i.lane.undecided = true) (h : i.Turns k) (g : k.DecidedFrom j) : i.Moves j := by
  obtain ⟨⟨lead, corr, ordinal⟩, decided⟩ := g
  have below : i.lane.rank < LaneState.decided.rank := by
    revert undecided
    cases i.lane <;> decide
  exact ⟨⟨lead.trans h.lane.lead, by rw [decided]; exact below.le, fun past => absurd past (not_le.mpr below)⟩,
    h.corr.then (.inl ⟨corr, ordinal⟩)⟩

theorem Station.decisionDue_moves (may : s.MayHold held) : s.ActsOn ref Item.Moves (Item.Elsewhere held diverts) (s.decisionDue ref) := by
  have still : s.ActsOn ref Item.Moves (Item.Elsewhere held diverts) s := .refl s (fun i => (Item.Keeps.refl i).moves) .refl
  cases found : s.findItem ref with
  | none => rw [Station.decisionDue, found]; exact still
  | some i =>
    obtain rfl := s.findItem_ref found
    by_cases due : i.lane.undecided = true ∧ dist i.lead s.lane.pos = s.cfg.dDec
    case neg =>
      have same : s.decisionDue i.ref = s := by rw [Station.decisionDue, found]; exact if_neg due
      rw [same]
      exact still
    case pos =>
      have late : s.Rewrites i.ref Item.Keeps (if i.lane = .read then s else s.lateCloses i) := by
        split
        · exact .of_queue rfl .refl
        · obtain ⟨f, writes, keeps, queue⟩ := s.lateCloses_rewrites i
          exact ⟨f, fun k => (Item.keeps_of : k.Keeps k.late).trans (writes k).keeps, keeps, queue⟩
      rw [s.decisionDue_due found due.1 due.2]
      generalize (if i.lane = .read then s else s.lateCloses i) = t at late ⊢
      have finalized := (late.actsOn .refl).keeps_turns (t.finalizeItem_turns (held := held) (diverts := diverts) (may.of_refs late.refs))
      have decided := finalized.comp ((Station.endDecision_rewrites (t.finalizeItem i.ref)).actsOn (E := Item.Elsewhere held diverts) .refl)
        (T := fun a j => a.lane.undecided = true → a.Moves j) (G := Item.Elsewhere held diverts) (fun _ _ _ h g open_ => g.moves open_ h) fun _ _ _ => .trans
      intro r j there
      obtain ⟨a, start, own, other⟩ := decided r j there
      refine ⟨a, start, fun is => own is ?_, other⟩
      rw [is, found] at start
      cases start
      exact due.1

/-! ### The diverter and the departure -/

theorem Station.divertPoint_moves (diverting : diverts) : s.ActsOn ref Item.Moves (Item.Elsewhere held diverts) (s.divertPoint ref) := by
  have still : s.ActsOn ref Item.Moves (Item.Elsewhere held diverts) s := .refl s (fun i => (Item.Keeps.refl i).moves) .refl
  unfold Station.divertPoint
  split
  · exact still
  next i _ =>
    split
    · have checked : s.Evolves (Item.Elsewhere held diverts) (s.checkHolder i) := by
        unfold Station.checkHolder
        split
        · exact .refl .refl
        · refine s.modifyItem_evolves _ (fun k => ?_) .refl fun k => ?_
          · split <;> rfl
          · split
            · exact ⟨rfl, .inl rfl, .inl ⟨rfl, rfl, rfl⟩, .inr diverting⟩
            · exact .refl k
      exact ((checked.actsOn (ref := ref) (fun _ _ => Item.Elsewhere.keeps) fun _ _ => id).comp (Station.modifyItem_actsOn _ (R := Item.Advances)
        (fun _ => by rfl) (fun k _ => by exact ⟨⟨rfl, k.lane.rank_le_diverting, fun _ => ⟨rfl, rfl⟩⟩, .inl ⟨rfl, rfl⟩⟩) .refl)
        (fun _ _ _ h g => h.then g.moves) fun _ _ _ => .trans).then (changes_diverter _ _ _) (by decide)
    · exact still

theorem Station.offerDeposit_keeps_item {i : Item} (own : i.ref = ref) (g : Bool) :
    s.ActsOn ref Item.Keeps (Item.Elsewhere held diverts) (s.offerDeposit i g) := by
  subst own
  unfold Station.offerDeposit
  split
  · exact ((Station.removeItem_evolves _ i.ref g (R := Eq) fun _ => rfl).after (s.txPush_changes _) (by decide)).actsOn (fun k _ is => is ▸ .refl k)
      fun k _ is => is ▸ .refl k
  · exact (Station.modifyItem_keeps _ (fun _ => by rfl) fun k => by exact (Item.keeps_of : k.Keeps { k with depositHeld := true })).after
      (changes_overflow s _) (by decide)
  · exact .refl s .refl .refl

theorem Station.departs_keeps : s.ActsOn ref Item.Keeps (Item.Elsewhere held diverts) (s.departs ref) := by
  unfold Station.departs
  split
  · exact .refl s .refl .refl
  next i found =>
    obtain rfl := s.findItem_ref found
    split
    · exact .refl s .refl .refl
    · split
      · have left : s.ActsOn i.ref Item.Keeps (Item.Elsewhere held diverts)
            ((s.modifyItem i.ref fun x => { x with departed := true }).releaseDiverter i.ref) :=
          (s.modifyItem_keeps (fun _ => by rfl) fun k => (Item.keeps_of : k.Keeps { k with departed := true })).then
            (Station.releaseDiverter_changes _ i.ref) (by decide)
        refine left.comp ?_ (fun _ _ _ => .trans) fun _ _ _ => .trans
        unfold Station.disposeDeparted
        split
        · exact (Station.removeItem_evolves _ i.ref true (R := Eq) fun _ => rfl).actsOn (fun k _ is => is ▸ .refl k) fun k _ is => is ▸ .refl k
        · exact Station.offerDeposit_keeps_item _ rfl true
      · exact .refl s .refl .refl

/-! ### Edges and packets -/

theorem Item.setTrail_advances (p : Pos) (i : Item) : i.Advances (i.setTrail p) := by
  refine ⟨⟨rfl, ?_, fun _ => ⟨rfl, rfl⟩⟩, .inl ⟨rfl, rfl⟩⟩
  unfold Item.setTrail
  dsimp only
  split
  next entering => rw [entering]; decide
  next => exact le_rfl

theorem Station.trailingEdge_advances : s.Evolves Item.Moves s.trailingEdge := by
  have same : s.Evolves Item.Moves s := .refl fun i => (Item.Keeps.refl i).moves
  unfold Station.trailingEdge
  split
  · exact same
  · split
    · exact same
    · dsimp only
      split
      · exact same
      next i _ =>
        have trailed (t : Station) : t.Evolves Item.Moves (t.modifyItem i.ref (Item.setTrail s.lane.pos)) :=
          t.modifyItem_evolves _ (fun _ => rfl) (fun k => (Item.Keeps.refl k).moves) fun k => (k.setTrail_advances _).moves
        refine Station.Evolves.after ?_ (changes_sensorOwner s none) (by decide)
        unfold Station.trailingEdgeOf
        split
        · split
          · exact (Station.removeItem_evolves _ _ _ fun k => (Item.Keeps.refl k).moves).then (Station.countLane_changes _ _) (by decide)
          · exact trailed _
        · exact trailed _
        · exact trailed _
        · exact .refl fun k => (Item.Keeps.refl k).moves
        · exact .refl fun k => (Item.Keeps.refl k).moves

theorem Station.overlongCloseOff_advances : s.Evolves Item.Moves s.overlongCloseOff := by
  have same : s.Evolves Item.Moves s := .refl fun i => (Item.Keeps.refl i).moves
  unfold Station.overlongCloseOff
  split
  · exact same
  · split
    · exact same
    · split
      · refine (Station.modifyItem_evolves _ _ (fun _ => by rfl) (fun k => (Item.Keeps.refl k).moves) fun k => ?_).after
          (changes_sensorOwner s none) (by decide)
        have advanced := (k.setTrail_advances (k.lead + BitVec.ofNat 24 s.cfg.maxLength)).moves
        exact ⟨⟨advanced.lane.lead, advanced.lane.rank, advanced.lane.fixed⟩, ⟨advanced.corr.final, advanced.corr.moves⟩⟩
      · exact same

theorem Item.foldl_raiseGauge_keeps (l : List (Nat × Nat)) (i : Item) : i.Keeps (l.foldl Item.raiseGauge i) ∧
    (l.foldl Item.raiseGauge i).ref = i.ref := by
  induction l generalizing i with
  | nil => exact ⟨.refl i, rfl⟩
  | cons p l ih => exact ⟨(Item.keeps_of : i.Keeps (i.raiseGauge p)).trans (ih _).1, (ih _).2⟩

theorem Station.modifyItem_evolves_keeps (r : ItemRef) {f : Item → Item} (refs : ∀ k, (f k).ref = k.ref) (still : ∀ k : Item, k.Keeps (f k)) :
    s.Evolves Item.Keeps (s.modifyItem r f) := s.modifyItem_evolves r refs .refl still

theorem Station.storeSamples_keeps (r : ItemRef) (xs : List Int) (g : Bool) : s.Evolves Item.Keeps (s.storeSamples r xs g) :=
  (Station.modifyItem_evolves_keeps { s with measurement := s.measurement.modifyBuffer r (SampleBuffer.append xs) } r
    (f := fun i => { i with gap := i.gap || g }) (fun _ => rfl) fun _ => Item.keeps_of :)

theorem Station.refuseBuffer_keeps (r : ItemRef) : s.Evolves Item.Keeps (s.refuseBuffer r) :=
  (s.modifyItem_evolves_keeps r (f := fun i => { i with bufferRefused := true }) (fun _ => rfl) fun _ => Item.keeps_of).then
    (Station.countMeasure_changes _ _) (by decide)

theorem Station.scalePacket_keeps (i : Item) (xs : List Int) (g : Bool) : s.Evolves Item.Keeps (s.scalePacket i xs g) := by
  unfold Station.scalePacket
  split
  · exact s.refuseBuffer_keeps _
  · split
    · exact s.storeSamples_keeps _ _ _
    · split
      next m _ => exact (Station.storeSamples_keeps { s with measurement := m } _ _ _ :)
      next => exact s.refuseBuffer_keeps _

theorem Item.storeReading_keeps (h : Head) (r : Reading) (i : Item) : i.Keeps (i.storeReading h r) ∧ (i.storeReading h r).ref = i.ref := by
  cases h <;> exact ⟨Item.keeps_of, rfl⟩

theorem Station.givePacket_keeps (i : Item) (h : Head) (p : Packet) : s.Evolves Item.Keeps (s.givePacket i h p) := by
  have reading : s.Evolves Item.Keeps (s.identifierPacket i h p) := by
    have stored := s.modifyItem_evolves_keeps i.ref (f := Item.storeReading h
      { subtype := p.second, symbols := p.symbols, verdict := verdictOf p.second p.symbols })
      (fun k => (k.storeReading_keeps h _).2) fun k => (k.storeReading_keeps h _).1
    unfold Station.identifierPacket
    dsimp only
    split
    · exact stored.then (changes_keyCounts _ _) (by decide)
    · exact stored
  cases h with
  | reader0 => exact reading
  | reader1 => exact reading
  | scale => exact s.scalePacket_keeps _ _ _
  | gauge =>
    exact s.modifyItem_evolves_keeps i.ref (fun k => (Item.foldl_raiseGauge_keeps _ k).2) fun k => (Item.foldl_raiseGauge_keeps _ k).1

theorem Item.crowdBy_keeps (c : Settings) (h : Head) (stamp : Pos) (i : Item) : i.Keeps (i.crowdBy c h stamp) ∧ (i.crowdBy c h stamp).ref = i.ref := by
  unfold Item.crowdBy
  split
  · exact ⟨Item.keeps_of, rfl⟩
  · exact ⟨.refl i, rfl⟩

theorem Station.handsOver_keeps (h : Head) : s.Evolves Item.Keeps (s.handsOver h) := by
  by_cases idle : ∀ p, (s.receivers.get h).framer ≠ .handOver p
  · rw [s.handsOver_of_idle idle]
    exact .refl .refl
  obtain ⟨p, holds⟩ := not_forall_not.mp idle
  have hunts : Changes [.receivers] s (s.hunting h) := s.withReceiver_changes h _
  rw [s.handsOver_of_packet holds]
  split
  · exact .after (.of_frame (Station.strayPacket_changes _ h p) (by decide) .refl) hunts (by decide)
  · split
    · exact .after (.of_frame (Station.countStray_changes _) (by decide) .refl) hunts (by decide)
    · exact (Station.givePacket_keeps _ _ h p).after hunts (by decide)
  · exact .after (.of_map (f := Item.crowdBy (s.hunting h).cfg h p.stamp) rfl (fun k => (k.crowdBy_keeps _ h _).2) fun k => (k.crowdBy_keeps _ h _).1)
      hunts (by decide)

/-! ### The link's commands -/

theorem Station.departOnLine_keeps : s.Evolves Item.Keeps s.departOnLine :=
  ((Station.roomReport_evolves _ false).mono fun _ _ => Item.HeldFrom.keeps).after (changes_txQueue s _) (by decide)

theorem Station.Evolves.turned {s t : Station} (h : s.Evolves Item.Keeps t) : s.Evolves Item.Turns t := h.mono fun _ _ => Item.Keeps.turned

theorem Station.report_keepsItems (k : Key) (before : Option Entry) (o : Bool) : s.Evolves Item.Keeps (s.report k before o) :=
  (s.report_evolves (held := fun _ => False) (diverts := False) k before o).mono fun _ _ => Item.Elsewhere.keeps

theorem Station.claimAbandoned_turns (k : Key) (r : ItemRef) : s.Evolves Item.Turns (s.claimAbandoned k r) := by
  have rejected : s.Evolves Item.Turns (s.modifyItem r fun i => if i.corr = .queued then { i with corr := .rejected .claimAbandoned } else i) :=
    s.modifyItem_evolves r (fun i => by split <;> rfl) (fun i => (Item.Keeps.refl i).turned) fun i => by
      split
      next queued => exact ⟨⟨rfl, rfl, rfl, rfl⟩, Item.corrMoved_of (by rw [queued]; rfl) (by rw [queued]; rfl)⟩
      next => exact (Item.Keeps.refl i).turned
  exact (rejected.then (Station.removeOwnClaim_changes _ k r) (by decide)).comp (Station.report_keepsItems _ k _ _) fun _ _ _ => Item.Turns.keeps

theorem Station.jamEnds_turns : s.Evolves Item.Turns s.jamEnds := by
  have quiet := changes_line s .quiet s.link.holding s.link.chain s.link.lineIdle .seeking
  have same (t : Station) {bs : List Block} {u : Station} (h : Changes bs t u) (apart : Block.items ∉ bs) : t.Evolves Item.Turns u :=
    .of_frame h apart fun i => (Item.Keeps.refl i).turned
  unfold Station.jamEnds
  split
  · dsimp only
    split
    · exact same s quiet (by decide)
    · refine Station.Evolves.after ?_ quiet (by decide)
      split
      · exact (Station.departOnLine_keeps _).turned
      · split
        · exact same _ (Station.backOff_changes _ _) (by decide)
        · split
          · have left (t : Station) : t.Evolves Item.Keeps t.countAbandon.departOnLine :=
              (Station.departOnLine_keeps _).after t.countAbandon_changes (by decide)
            unfold Station.abandon
            dsimp only
            split
            · exact (left _).comp (Station.claimAbandoned_turns _ _ _) fun _ _ _ => Item.Keeps.turns
            · exact ((left _).then (Station.raise_changes _ _) (by decide)).turned
            · exact ((left _).then (Station.raise_changes _ _) (by decide)).turned
            · exact (((left _).then (Station.raise_changes _ _) (by decide)).then (Station.offerAnnounce_changes _) (by decide)).turned
            all_goals exact (left _).turned
          · exact same _ (Station.backOff_changes _ _) (by decide)
  · exact .refl fun i => (Item.Keeps.refl i).turned

theorem Station.claimSent_turns (k : Key) (r : ItemRef) : s.Evolves Item.Turns (s.claimSent k r) := by
  refine s.modifyItem_evolves r (fun i => ?_) (fun i => (Item.Keeps.refl i).turned) fun i => ?_
  · split <;> rfl
  · split
    next queued => exact ⟨⟨rfl, rfl, rfl, rfl⟩, Item.corrMoved_of (by rw [queued]; rfl) (by rw [queued]; rfl)⟩
    next => exact (Item.Keeps.refl i).turned

theorem Station.tellCompleted_turns (f : TxFrame) : s.Evolves Item.Turns (s.tellCompleted f) := by
  have same {bs : List Block} {u : Station} (h : Changes bs s u) (apart : Block.items ∉ bs) : s.Evolves Item.Turns u :=
    .of_frame h apart fun i => (Item.Keeps.refl i).turned
  unfold Station.tellCompleted
  split
  · split
    · exact same (s.offerWithdraw_changes _ _ _) (by decide)
    · exact s.claimSent_turns _ _
  · exact same s.announced_changes (by decide)
  all_goals exact same (Changes.refl s : Changes [] s s) (by decide)

theorem Station.attemptCompletes_turns : s.Evolves Item.Turns s.attemptCompletes := by
  unfold Station.attemptCompletes
  split
  · dsimp only
    have sent : Changes [.line, .linkCounts] s (Station.countChain { s with link := { s.link with
        sending := .quiet, reception := .seeking, counts := { s.link.counts with sent := s.link.counts.sent + 1 } } }) :=
      (changes_line_counts s _ _ _ _ _ _).then (Station.countChain_changes _) rfl rfl
    split
    · exact .of_frame sent (by decide) fun i => (Item.Keeps.refl i).turned
    next f _ =>
      exact ((Station.departOnLine_keeps _).comp (Station.tellCompleted_turns _ f) fun _ _ _ => Item.Keeps.turns).after sent (by decide)
  all_goals exact .refl fun i => (Item.Keeps.refl i).turned

/-- An item in flight may become REJECTED NOT ACTIVE (R139). -/
theorem CorrState.mayMoveTo_notActive {a : CorrState} (open_ : a.final = false) : a.mayMoveTo (.rejected .notActive) = true := by
  cases a with
  | committed => cases open_
  | rejected r => cases open_
  | unkeyed => rfl
  | queued => rfl
  | settling d => rfl
  | waiting => rfl

theorem Item.rejectInFlight_turns (i : Item) : i.Turns i.rejectInFlight := by
  rcases i.rejectInFlight_cases with ⟨-, is⟩ | ⟨flight, is⟩ <;> rw [is]
  · exact (Item.Keeps.refl i).turned
  · have open_ : i.corr.final = false := by rcases flight with h | h | ⟨d, h⟩ <;> rw [h] <;> rfl
    have may := CorrState.mayMoveTo_notActive open_
    exact ⟨⟨rfl, rfl, rfl, rfl⟩, Item.corrMoved_of (j := { i with corr := .rejected .notActive }) open_ may⟩

theorem Station.foldl_removeItem_keeps (l : List Item) : s.Evolves Item.Keeps (l.foldl (fun t i => t.removeItem i.ref true) s) := by
  induction l generalizing s with
  | nil => exact .refl .refl
  | cons i l ih => exact .trans Item.Keeps.trans (s.removeItem_evolves i.ref true .refl) (ih _)

theorem Station.stopClaims_turns : s.Evolves Item.Turns s.stopClaims :=
  (Station.Evolves.of_map (t := { s with lane := { s.lane with queue := s.lane.queue.map Item.rejectInFlight } }) rfl
    (fun i => i.rejectInFlight_ref.1) Item.rejectInFlight_turns).then (Station.removeOwnClaims_changes _) (by decide)

theorem Station.stopRecords_keeps : s.Evolves Item.Keeps s.stopRecords :=
  (Station.foldl_removeItem_keeps _ _).after ((changes_overflow s none).then (changes_pendingStatus _ _) rfl rfl :
    Changes [.overflow, .pendingStatus] s _) (by decide)

theorem Station.duplicateId_turns : s.Evolves Item.Turns s.duplicateId := by
  unfold Station.duplicateId
  split
  · have silenced (t : Station) : t.Evolves Item.Turns ((t.raise .duplicateId).flushTransmit.stopClaims) :=
      (Station.stopClaims_turns _).after ((t.raise_changes _).then (Station.flushTransmit_changes _) rfl rfl :
        Changes [.flags, .txQueue, .gate] t _) (by decide)
    have all (t : Station) := (silenced t).comp (Station.stopRecords_keeps _) fun _ _ _ => Item.Turns.keeps
    exact (Station.Evolves.of_queue (t := { s with startup := { s.startup with state := .listenOnly, joinTimer := none, announce := .none } })
      rfl Item.Keeps.refl).comp (all _) fun _ _ _ => Item.Keeps.turns
  · exact .refl fun i => (Item.Keeps.refl i).turned

theorem Station.enqueueReceived_keeps (f : RxFrame) : s.Evolves Item.Keeps (s.enqueueReceived f) := by
  unfold Station.enqueueReceived
  split
  · exact .of_frame (changes_rxQueue s _) (by decide) .refl
  · refine Station.Evolves.after (.of_map rfl (fun i => ?_) fun i => ?_) ((s.countLink_changes _).then (Station.raise_changes _ _) rfl rfl :
      Changes [.linkCounts, .flags] s _) (by decide)
    · split <;> rfl
    · split
      · exact Item.keeps_of
      · exact .refl i

theorem Station.frameEnds_turns (bits : List Bool) : s.Evolves Item.Turns (s.frameEnds bits) := by
  have same {bs : List Block} {u : Station} (h : Changes bs s u) (apart : Block.items ∉ bs) : s.Evolves Item.Turns u :=
    .of_frame h apart fun i => (Item.Keeps.refl i).turned
  unfold Station.frameEnds
  split
  · split
    next f _ =>
      unfold Station.frameTaken Station.ownIdReport
      split
      · refine Station.Evolves.comp (R := Item.Turns) (S := Item.Keeps) (T := Item.Turns) ?_ (Station.enqueueReceived_keeps _ f)
          fun _ _ _ => Item.Turns.keeps
        split
        · exact (Station.duplicateId_turns _).after (changes_line s _ _ _ _ .seeking) (by decide)
        · exact same (changes_line s _ _ _ _ .seeking) (by decide)
      · exact same s.checkFails_changes (by decide)
    · exact same s.checkFails_changes (by decide)
    · exact same (changes_line s _ _ _ _ .seeking) (by decide)
    · exact same (Changes.refl s : Changes [] s s) (by decide)
  · exact same (Changes.refl s : Changes [] s s) (by decide)

/-! ### Heard frames and the table's times -/

theorem Station.Evolves.report {s t : Station} (h : s.Evolves Item.Keeps t) (k : Key) (before : Option Entry) (o : Bool) :
    s.Evolves Item.Keeps (t.report k before o) := .trans Item.Keeps.trans h (t.report_keepsItems k before o)

theorem Station.claimExpires_keeps (k : Key) (n : Nat) (r : ItemRef) : s.Evolves Item.Keeps (s.claimExpires k n r) := by
  unfold Station.claimExpires
  split
  · exact .refl .refl
  · dsimp only
    split
    · exact Station.Evolves.report (.of_frame ((s.modifyEntry_changes k _).then (changes_tableCounts _ _) rfl rfl :
        Changes [.entries, .tableCounts] s _) (by decide) .refl) k _ _
    · exact .refl .refl

theorem Station.mergeClaim_keeps (k : Key) (t : Tally) (n : Nat) (r : ItemRef) (c : Nat) (w : Bool) :
    s.Evolves Item.Keeps (s.mergeClaim k t n r c w) := by
  have made := s.ensureEntry_changes k 0 s.freshHoldings
  unfold Station.mergeClaim
  dsimp only
  split
  · exact .of_frame made (by decide) .refl
  · split
    · exact .of_frame made (by decide) .refl
    · exact Station.Evolves.report (.of_frame (((made.then (Station.writeEntry_changes _ k _) rfl rfl :
        Changes [.entries, .tableCounts, .context, .flags] s _).then (Station.countDropped_changes _ _) rfl rfl :
        Changes [.entries, .tableCounts, .context, .flags] s _).then (Station.countMerge_changes _) rfl rfl :
        Changes [.entries, .tableCounts, .context, .flags] s _) (by decide) .refl) k _ _

theorem Station.mergeCommit_keeps (k : Key) (t : Tally) (n : Nat) (r : ItemRef) (o : Nat) :
    s.Evolves Item.Keeps (s.mergeCommit k t n r o) := by
  have made := s.ensureEntry_changes k o s.freshHoldings
  unfold Station.mergeCommit
  dsimp only
  split
  · exact .of_frame made (by decide) .refl
  · exact Station.Evolves.report (.of_frame (((made.then (Station.writeEntry_changes _ k _) rfl rfl :
      Changes [.entries, .tableCounts, .context, .flags] s _).then (Station.countMerge_changes _) rfl rfl :
      Changes [.entries, .tableCounts, .context, .flags] s _).then (Station.clashTest_changes _ k _ _ _ _) rfl rfl :
      Changes [.entries, .tableCounts, .context, .flags, .claimCounts, .txQueue, .overflow, .recordCounts] s _) (by decide) .refl) k _ _

theorem Station.mergeWithdraw_keeps (k : Key) (n : Nat) (r : ItemRef) : s.Evolves Item.Keeps (s.mergeWithdraw k n r) := by
  unfold Station.mergeWithdraw
  split
  · exact .refl .refl
  · exact Station.Evolves.report (.of_frame ((s.writeEntry_changes k _).then (Station.countMerge_changes _) rfl rfl :
      Changes [.entries, .tableCounts] s _) (by decide) .refl) k _ _

theorem Station.mergeHoldings_keeps (k : Key) (c n : Nat) (t : Tally) : s.Evolves Item.Keeps (s.mergeHoldings k c n t) := by
  have made := s.ensureEntry_changes k c .known
  unfold Station.mergeHoldings
  dsimp only
  split
  · exact .of_frame made (by decide) .refl
  · exact Station.Evolves.report (.of_frame (((made.then (Station.writeEntry_changes _ k _) rfl rfl :
      Changes [.entries, .tableCounts, .context, .flags] s _).then (Station.countMerge_changes _) rfl rfl :
      Changes [.entries, .tableCounts, .context, .flags] s _).then (Station.lateHoldings_changes _ k _ _ _) rfl rfl :
      Changes [.entries, .tableCounts, .context, .flags, .claimCounts, .txQueue, .overflow, .recordCounts] s _) (by decide) .refl) k _ _

theorem Station.stationFrame_keeps (f : RxFrame) (usable : Bool) {merge : Key → Station → Station}
    (merged : ∀ k (t : Station), t.Evolves Item.Keeps (merge k t)) : s.Evolves Item.Keeps (s.stationFrame f usable merge) := by
  unfold Station.stationFrame
  split
  · exact .of_frame s.countUnusable_changes (by decide) .refl
  · dsimp only
    split
    · exact (merged _ _).after (s.adopt_changes _) (by decide)
    · exact .of_frame ((s.adopt_changes _).then (Station.countUnusable_changes _) rfl rfl : Changes [.tally, .tableCounts] s _) (by decide) .refl

theorem Station.deliverHoldings_keeps (f : RxFrame) : s.Evolves Item.Keeps (s.deliverHoldings f) := by
  unfold Station.deliverHoldings
  dsimp only
  split
  · exact (Station.mergeHoldings_keeps _ _ _ _ _).after (s.adopt_changes _) (by decide)
  · exact .of_frame ((s.adopt_changes _).then (Station.countUnusable_changes _) rfl rfl : Changes [.tally, .tableCounts] s _) (by decide) .refl

theorem Station.deliver_evolves {R : Item → Item → Prop} (alike : ∀ i, R i i) (d : Delivery) {use : RxFrame → Station → Station}
    (used : ∀ f (t : Station), t.Evolves R (use f t)) : s.Evolves R (s.deliver d use) := by
  unfold Station.deliver
  split
  · exact .refl alike
  next f t front => exact (used f t).after (s.takeFront_changes front) (by decide)

end operations

end Sys2Proof.Machine
end

section
/-! SUPPORT. The moves of items over all commands (R9, R118, R125), and the statement they settle. -/

namespace Sys2Proof.Machine

section commands

variable (s : Station)

theorem Station.scaleWindowOpens_keeps (r : ItemRef) : s.Evolves Item.Keeps (s.scaleWindowOpens r) := by
  unfold Station.scaleWindowOpens
  split
  · exact (Station.modifyItem_evolves_keeps _ r (fun _ => by rfl) fun i => by exact (Item.keeps_of : i.Keeps { i with calMark := true })).after
      (changes_calibration _ _) (by decide)
  · exact .refl .refl

/-- A new item goes behind the others, and leaves what is read of them. -/
theorem Station.leadingEdge_keeps {ref : ItemRef} {i j : Item} (before : s.findItem ref = some i) (after : s.leadingEdge.findItem ref = some j) :
    i.Keeps j := by
  have same {t : Station} (is : t.findItem ref = s.findItem ref) (there : t.findItem ref = some j) : i.Keeps j := by
    rw [is, before] at there
    cases there
    exact .refl i
  unfold Station.leadingEdge at after
  split at after
  · exact same rfl after
  · split at after
    · let t : Station := { s with lane := { s.lane with
        queue := s.lane.queue ++ [newItem s.cfg s.lane.nextRef s.lane.pos], nextRef := s.lane.nextRef + 1
        sensorOwner := some s.lane.nextRef } }
      have there : t.findItem ref = some i := by
        have found : s.lane.queue.find? (fun k => k.ref = ref) = some i := before
        show (s.lane.queue ++ [_]).find? (fun k => k.ref = ref) = some i
        rw [List.find?_append, found]
        rfl
      have opens : s.createItem = if s.cfg.opensAtCreation .scale then t.scaleWindowOpens s.lane.nextRef else t := rfl
      rw [opens] at after
      split at after
      · obtain ⟨a, start, kept⟩ := t.scaleWindowOpens_keeps _ ref j after
        cases there.symm.trans start
        exact kept
      · exact same (there.trans before.symm) after
    · exact same (Station.findItem_of_items (((s.countLane_changes _).then (Station.raise_changes _ _) rfl rfl :
        Changes [.laneCounts, .flags] s _) .items (by decide)) ref) after

theorem Station.laneRestart_empty : s.laneRestart.lane.queue = [] := by
  unfold Station.laneRestart
  exact (Station.closeContext_changes _ .interrupted .items (by decide) :)

theorem Station.Evolves.of_empty {R : Item → Item → Prop} {s t : Station} (empty : t.lane.queue = []) : s.Evolves R t := fun ref j found => by
  rw [Station.findItem, empty] at found
  cases found

/-- Every command but a leading edge moves what is left of the items as their tables say. -/
theorem exec_moves {c : Instr} {x y : Station} {q : List Instr} (run : exec c ⟨x, q⟩ = .next ⟨y, q⟩) (edge : c ≠ .leadingEdge) :
    x.Evolves Item.Moves y := by
  have named {ref : ItemRef} {t : Station} (h : x.ActsOn ref Item.Moves (Item.Elsewhere (fun _ => True) True) t) : x.Evolves Item.Moves t :=
    h.evolves (fun _ _ => id) fun _ _ is => is.keeps.moves
  have turned {t : Station} (h : x.Evolves Item.Turns t) : x.Evolves Item.Moves t := h.mono fun _ _ => Item.Turns.moves
  have kept {t : Station} (h : x.Evolves Item.Keeps t) : x.Evolves Item.Moves t := h.mono fun _ _ => Item.Keeps.moves
  by_cases apart : Block.items ∈ touches c
  case neg => exact .of_frame (exec_changes run) apart fun i => (Item.Keeps.refl i).moves
  cases c with
  | powerOn => cases run; exact .of_empty rfl
  | leadingEdge => exact absurd rfl edge
  | trailingEdge => cases run; exact x.trailingEdge_advances
  | overlongCloseOff => cases run; exact x.overlongCloseOff_advances
  | windowOpen ref h => cases run; exact named (x.windowOpens_moves h)
  | windowClose ref h => cases run; exact named (x.windowCloses_moves h)
  | weightCompletion ref => cases run; exact named (x.weightCompletes_turns.mono (fun _ _ => Item.Turns.moves) fun _ _ => id)
  | decisionDue ref => cases run; exact named (x.decisionDue_moves ⟨trivial, .inr trivial⟩)
  | divertPoint ref => cases run; exact named (x.divertPoint_moves trivial)
  | departure ref => cases run; exact named (x.departs_keeps.mono (fun _ _ => Item.Keeps.moves) fun _ _ => id)
  | handOver h => cases run; exact kept (x.handsOver_keeps h)
  | settleExpiry ref => cases run; exact named (x.settleExpires_turns.mono (fun _ _ => Item.Turns.moves) fun _ _ => id)
  | claimExpiry k n ref => cases run; exact kept (x.claimExpires_keeps k n ref)
  | jamEnd => cases run; exact turned x.jamEnds_turns
  | attemptComplete => cases run; exact turned x.attemptCompletes_turns
  | frameReceived bits => cases run; exact turned (x.frameEnds_turns bits)
  | heardClaim =>
    cases run
    exact kept (x.deliver_evolves .refl _ fun f t => t.stationFrame_keeps f _ fun k u => u.mergeClaim_keeps k _ _ _ _ _)
  | heardCommit =>
    cases run
    exact kept (x.deliver_evolves .refl _ fun f t => t.stationFrame_keeps f _ fun k u => u.mergeCommit_keeps k _ _ _ _)
  | heardWithdraw =>
    cases run
    exact kept (x.deliver_evolves .refl _ fun f t => t.stationFrame_keeps f _ fun k u => u.mergeWithdraw_keeps k _ _)
  | heardHoldings => cases run; exact kept (x.deliver_evolves .refl _ fun f t => t.deliverHoldings_keeps f)
  | restart =>
    cases run
    exact x.deliver_evolves (fun i => (Item.Keeps.refl i).moves) _ fun _ t => .of_empty t.laneRestart_empty
  | localRestart =>
    cases run
    unfold Station.restartPressed
    split
    · exact kept (.refl .refl)
    · dsimp only
      split
      · exact .of_empty (Station.laneRestart_empty _)
      · exact kept (.of_queue rfl .refl)
  | _ => simp [touches] at apart

/-- The moves of an item that a command leaves in the queue. -/
theorem exec_item_moves {c : Instr} {s t : State} {ref : ItemRef} {i j : Item} (run : exec c s = .next t)
    (before : s.station.findItem ref = some i) (after : t.station.findItem ref = some j) : i.Moves j := by
  obtain ⟨x, q⟩ := s
  obtain ⟨y, p⟩ := t
  obtain rfl := exec_pending run
  by_cases edge : c = .leadingEdge
  · subst edge
    cases run
    exact (x.leadingEdge_keeps before after).moves
  · obtain ⟨a, start, moves⟩ := exec_moves run edge ref j after
    cases before.symm.trans start
    exact moves

end commands

/-- Settles O24: each operation's part of an item's record, and what it leaves of the others, composed over every command. -/
theorem itemStatesMoveForward : Obligations.ItemStatesMoveForward := by
  unfold Obligations.ItemStatesMoveForward
  refine ⟨fun c s t ref i j run before after => ?_, ?_, fun c s t ref i j run before after => ?_⟩
  · obtain ⟨lead, rank, fixed⟩ := (exec_item_moves run before after).lane
    exact ⟨lead, rank, fixed⟩
  · rintro c ⟨x, q⟩ ⟨y, p⟩ ref r i j other named distinct run before after
    obtain rfl := exec_pending run
    have acts : ∃ R, x.ActsOn ref R (Item.Elsewhere (fun b => b = true ∧ c = .decisionDue ref) (c = .divertPoint ref)) y := by
      rcases named with ⟨h, rfl | rfl⟩ | rfl | rfl | rfl | rfl | rfl <;> cases run
      · exact ⟨_, x.windowOpens_moves h⟩
      · exact ⟨_, x.windowCloses_moves h⟩
      · exact ⟨_, x.weightCompletes_turns⟩
      · exact ⟨_, x.decisionDue_moves ⟨⟨rfl, rfl⟩, .inl distinct⟩⟩
      · exact ⟨_, x.divertPoint_moves rfl⟩
      · exact ⟨_, x.departs_keeps⟩
      · exact ⟨_, x.settleExpires_turns⟩
    obtain ⟨R, acts⟩ := acts
    obtain ⟨a, start, -, elsewhere⟩ := acts r j after
    cases before.symm.trans start
    obtain ⟨shape, deposit, corr, misdiverted⟩ := elsewhere other
    exact ⟨shape, deposit, corr, misdiverted⟩
  · obtain ⟨final, moves⟩ := (exec_item_moves run before after).corr
    exact ⟨final, moves⟩

end Sys2Proof.Machine
end

section
/-! SUPPORT. The decision of an item in flight (R15, R127 to R130): the item at each of its steps. -/

namespace Sys2Proof.Machine

variable (s : Station) {ref : ItemRef}

/-! ### The item with its late windows closed -/

/-- An item as the decision's first step leaves it: as it was if it was in READ, and otherwise with LATE READINGS, its open windows
force-closed, and what the late closes write. -/
structure Item.DueFrom (read : Prop) (i j : Item) : Prop where
  shape : j = { i with
    slot0 := j.slot0, slot1 := j.slot1, outcome := j.outcome, consignment := j.consignment, weight := j.weight
    maxThickness := j.maxThickness, maxWidth := j.maxWidth, matching := j.matching, trackerMark := j.trackerMark
    lateReadings := j.lateReadings, windows := j.windows }
  late : ¬ read → j.lateReadings = true ∧ j.windows = i.windows.map forceOpen

/-- The station at the decision of an item, once its late windows are closed. -/
def Station.dueFor (i : Item) (s : Station) : Station := if i.lane = .read then s else s.lateCloses i

theorem Station.dueFor_rewrites (i : Item) : s.Rewrites i.ref (Item.DueFrom (i.lane = .read)) (s.dueFor i) := by
  unfold Station.dueFor
  split
  next read => exact .of_queue rfl fun k => ⟨rfl, fun no => absurd read no⟩
  next =>
    obtain ⟨f, writes, keeps, queue⟩ := s.lateCloses_rewrites i
    refine ⟨f, fun k => ?_, keeps, queue⟩
    have is := writes k
    rw [is]
    exact ⟨rfl, fun _ => ⟨rfl, rfl⟩⟩

theorem Station.dueFor_changes (i : Item) :
    Changes [.items, .buffers, .calibration, .flags, .context, .txQueue, .overflow, .recordCounts] s (s.dueFor i) ∧
    (i.windows.reader0 ≠ .opened → i.windows.reader1 ≠ .opened → Changes [.items, .buffers, .calibration, .flags] s (s.dueFor i)) := by
  unfold Station.dueFor
  split
  · exact ⟨.refl s, fun _ _ => .refl s⟩
  · exact s.lateCloses_apart i

theorem Station.Present.rewritten {r : ItemRef} {R : Item → Item → Prop} {s t : Station} (h : s.Rewrites r R t) (present : s.Present ref)
    (keeps : ∀ i j, R i j → j.departed = i.departed ∧ j.depositHeld = i.depositHeld) : t.Present ref := fun j listed own => by
  obtain ⟨i, before, refs, writes, stays⟩ := h.mem listed
  obtain ⟨still, free⟩ := present i before (refs.symm.trans own)
  by_cases mine : i.ref = r
  · obtain ⟨departed, held⟩ := keeps i j (writes mine)
    exact ⟨departed.trans still, held.trans free⟩
  · rw [stays mine]
    exact ⟨still, free⟩

theorem Item.DueFrom.stands {read : Prop} {i j : Item} (h : i.DueFrom read j) : j.departed = i.departed ∧ j.depositHeld = i.depositHeld := by
  rw [h.shape]
  exact ⟨rfl, rfl⟩

/-! ### The item with its correlation settled -/

/-- An item as the decision's second step leaves it. -/
structure Item.SettledFrom (i j : Item) : Prop where
  shape : j = { i with
    corr := j.corr, ordinal := j.ordinal, ranked := j.ranked, holdingsUnconfirmed := j.holdingsUnconfirmed, unconfirmed := j.unconfirmed }
  inFlight : (i.corr = .queued ∨ ∃ d, i.corr = .settling d) → j.corr = .rejected .unsettled
  waiting : i.corr = .waiting → j.corr = .committed ∧ ∃ o, j.ordinal = some o ∧ 1 ≤ o ∧ o ≤ 255
  unkeyed : i.corr = .unkeyed → j.corr = .unkeyed
  final : i.corr.final → j.corr = i.corr ∧ j.ordinal = i.ordinal

theorem commitOrdinal_range (committed ahead : Nat) : 1 ≤ commitOrdinal committed ahead ∧ commitOrdinal committed ahead ≤ 255 := by
  unfold commitOrdinal
  omega

/-- The second step of a WAITING item: a commit with the ordinal its place gives it, ranked where a claim is before it, and its re-tests. -/
theorem Station.finalizeItem_of_waiting {i : Item} {k : Key} {e : Entry} {c : Claim} (found : s.findItem ref = some i) (waits : i.corr = .waiting)
    (key : i.key = some k) (entry : s.entry k = some e) (claim : e.ownClaim ref = some c) :
    s.finalizeItem ref = (s.commitAs k c (commitOrdinal e.committed (e.ahead c)) (!e.mayCommit c) (decide (0 < e.ahead c))
      (decide (∃ since noted, e.holdings = .requested since noted))).retest k := by
  have own := s.findItem_ref found
  have finalized : s.finalizeItem ref = s.finalizeWaiting i k := by
    rw [Station.finalizeItem, found]
    dsimp only
    rw [waits, key]
  rw [finalized, Station.finalizeWaiting, entry]
  dsimp only
  rw [own, claim]
  dsimp only
  cases may : e.mayCommit c with
  | true =>
    obtain ⟨first, quiet⟩ := (e.mayCommit_iff c).mp may
    have none : e.ahead c = 0 := by
      rw [Entry.ahead, List.length_eq_zero_iff, List.filter_eq_nil_iff]
      exact fun a listed => by simp [first a listed]
    have unasked : ¬ ∃ since noted, e.holdings = .requested since noted := fun ⟨since, noted, is⟩ => quiet since noted is
    rw [none, decide_eq_false unasked]
    rfl
  | false =>
    rw [if_neg Bool.false_ne_true]
    congr 2
    cases e.holdings <;> simp

/-- A CLAIM taken back leaves an item that has not departed. -/
theorem Station.findItem_takeBack {r : ItemRef} (present : s.Present r) : (s.takeBack ref false).findItem r = s.findItem r := by
  unfold Station.takeBack
  split
  · rfl
  · split
    · rfl
    · exact (Station.findItem_roomReport _ false (by exact present)).trans rfl

/-- The station with an item REJECTED UNSETTLED and its own claim gone. -/
def Station.unsettled (ref : ItemRef) (k : Key) (s : Station) : Station := (s.reject ref .unsettled).removeOwnClaim k ref

theorem Station.unsettled_rewrites (k : Key) : s.Rewrites ref (fun i j => j = { i with corr := .rejected .unsettled }) (s.unsettled ref k) :=
  (s.modifyItem_rewrites (ref := ref) (R := fun i j => j = { i with corr := .rejected .unsettled })
    (f := fun i => { i with corr := .rejected .unsettled }) (fun _ => rfl) fun _ => rfl).then_frame
    (Station.removeOwnClaim_changes _ k ref) (by decide)

theorem Station.finalizeItem_of_queued {i : Item} {k : Key} (found : s.findItem ref = some i) (queued : i.corr = .queued) (key : i.key = some k) :
    s.finalizeItem ref = ((s.unsettled ref k).takeBack ref false).report k (s.entry k) false := by
  rw [Station.finalizeItem, found]
  dsimp only
  rw [queued, key]
  rfl

theorem Station.finalizeItem_of_settling {i : Item} {k : Key} {d : Millis} (found : s.findItem ref = some i) (settles : i.corr = .settling d)
    (key : i.key = some k) :
    s.finalizeItem ref = ((s.unsettled ref k).offerWithdraw k (i.claimTally.getD 0) ref).report k (s.entry k) false := by
  rw [Station.finalizeItem, found]
  dsimp only
  rw [settles, key]
  rfl

theorem Station.finalizeItem_item {i : Item} (found : s.findItem ref = some i) (present : s.Present ref)
    (keyed : (i.corr = .queued ∨ ∃ d, i.corr = .settling d) → i.key.isSome)
    (claimed : i.corr = .waiting → ∃ k e c, i.key = some k ∧ s.entry k = some e ∧ e.ownClaim ref = some c) :
    ∃ j, (s.finalizeItem ref).findItem ref = some j ∧ i.SettledFrom j := by
  have rejected (k : Key) : (s.unsettled ref k).findItem ref = some { i with corr := .rejected .unsettled } := by
    obtain ⟨j, there, is⟩ := (s.unsettled_rewrites k).found found
    rw [there, is]
  have reported {t : Station} (k : Key) (before : Option Entry) (flight : i.corr = .queued ∨ ∃ d, i.corr = .settling d)
      (there : t.findItem ref = some { i with corr := .rejected .unsettled }) :
      ∃ j, (t.report k before false).findItem ref = some j ∧ i.SettledFrom j := by
    refine ⟨_, t.findItem_report_of_not_waiting before there (by simp), rfl, fun _ => rfl, fun no => ?_, fun no => ?_, fun no => ?_⟩ <;>
      rcases flight with is | ⟨d, is⟩ <;> rw [is] at no <;> cases no
  have settled (still : i.corr = .unkeyed ∨ i.corr.final = true) : ∃ j, (s.finalizeItem ref).findItem ref = some j ∧ i.SettledFrom j := by
    rw [s.finalizeItem_of_settled found still]
    refine ⟨i, found, rfl, fun no => ?_, fun no => ?_, id, fun _ => ⟨rfl, rfl⟩⟩
    · rcases no with no | ⟨d, no⟩ <;> rw [no] at still <;> rcases still with is | is <;> cases is
    · rw [no] at still
      rcases still with is | is <;> cases is
  cases corr : i.corr with
  | unkeyed => exact settled (.inl corr)
  | committed => exact settled (.inr (by rw [corr]; rfl))
  | rejected r => exact settled (.inr (by rw [corr]; rfl))
  | waiting =>
    obtain ⟨k, e, c, key, entry, claim⟩ := claimed corr
    have own := Entry.ownClaim_ref claim
    have committed := Station.findItem_commitAs s k c (commitOrdinal e.committed (e.ahead c)) (!e.mayCommit c) (decide (0 < e.ahead c))
      (decide (∃ since noted, e.holdings = .requested since noted))
    rw [own, found] at committed
    rw [s.finalizeItem_of_waiting found corr key entry claim]
    refine ⟨_, Station.findItem_retest_of_not_waiting _ committed (by simp [Item.commit]), rfl, fun no => ?_, fun _ => ⟨rfl, _, rfl, commitOrdinal_range _ _⟩,
      fun no => ?_, fun no => ?_⟩
    · rw [corr] at no
      rcases no with no | ⟨d, no⟩ <;> cases no
    · rw [corr] at no; cases no
    · rw [corr] at no; cases no
  | queued =>
    obtain ⟨k, key⟩ := Option.isSome_iff_exists.mp (keyed (.inl corr))
    rw [s.finalizeItem_of_queued found corr key]
    exact reported k _ (.inl corr) ((Station.findItem_takeBack _ (present.rewritten (s.unsettled_rewrites k) fun _ _ is => by
      rw [is]; exact ⟨rfl, rfl⟩)).trans (rejected k))
  | settling d =>
    obtain ⟨k, key⟩ := Option.isSome_iff_exists.mp (keyed (.inr ⟨d, corr⟩))
    rw [s.finalizeItem_of_settling found corr key]
    exact reported k _ (.inr ⟨d, corr⟩) ((Station.findItem_of_items (Station.offerWithdraw_changes _ _ _ _ .items (by decide)) ref).trans (rejected k))

/-! ### The item DECIDED -/

theorem Item.fixedChute_of_late {i : Item} (m : ChuteMap) (late : i.lateReadings = true) : i.fixedChute m = 0 := by
  have reviewed : (i.isSlip || i.reviewReason.isSome) = true := by
    rw [i.reviewReason_isSome]
    cases i.isSlip with
    | true => rfl
    | false =>
      have listed : (i.lateReadings, ReviewReason.lateReadings) ∈ i.conditions := by simp [Item.conditions]
      simp only [Bool.false_or, Bool.not_false, Bool.true_and]
      exact List.any_eq_true.mpr ⟨_, listed, late⟩
  exact if_pos reviewed

theorem forceOpen_ne_opened (w : PerHead WindowState) (h : Head) : (w.map forceOpen).get h ≠ .opened := by
  have one (v : WindowState) : forceOpen v ≠ .opened := by cases v <;> decide
  cases h <;> exact one _

theorem Item.endWait_shape (i : Item) : i.endWait = { i with matching := false, trackerMark := i.endWait.trackerMark } := by
  unfold Item.endWait
  cases waits : i.matching with
  | true => rfl
  | false => rw [if_neg Bool.false_ne_true, ← waits]

/-- The three steps of a decision that is due. -/
theorem Station.decisionDue_eq {i : Item} (found : s.findItem ref = some i) (open_ : i.lane.undecided = true)
    (due : dist i.lead s.lane.pos = s.cfg.dDec) : s.decisionDue ref = ((s.dueFor i).finalizeItem ref).endDecision ref :=
  s.decisionDue_due found open_ due

/-- The item of a decision as it is at the end. -/
theorem Station.decisionDue_item {i : Item} (found : s.findItem ref = some i) (open_ : i.lane.undecided = true)
    (due : dist i.lead s.lane.pos = s.cfg.dDec) (present : s.Present ref) (keyed : (i.corr = .queued ∨ ∃ d, i.corr = .settling d) → i.key.isSome)
    (claimed : i.corr = .waiting → ∃ k e c, i.key = some k ∧ s.entry k = some e ∧ e.ownClaim ref = some c) :
    ∃ j, (s.decisionDue ref).findItem ref = some j ∧ j.lane = .decided ∧ j.chute.isSome ∧ j.matching = false ∧
      (i.lane ≠ .read → j.lateReadings = true ∧ j.chute = some 0 ∧ ∀ h, j.windows.get h ≠ .opened) ∧
      ((i.corr = .queued ∨ ∃ d, i.corr = .settling d) → j.corr = .rejected .unsettled) ∧
      (i.corr = .waiting → j.corr = .committed ∧ ∃ o, j.ordinal = some o ∧ 1 ≤ o ∧ o ≤ 255) ∧
      (i.corr = .unkeyed → j.corr = .unkeyed) ∧ (i.corr.final → j.corr = i.corr ∧ j.ordinal = i.ordinal) := by
  obtain rfl := s.findItem_ref found
  have rewrites := s.dueFor_rewrites i
  obtain ⟨a, there, from_⟩ := rewrites.found found
  have corr : a.corr = i.corr := by rw [from_.shape]
  have key : a.key = i.key := by rw [from_.shape]
  have ordinal : a.ordinal = i.ordinal := by rw [from_.shape]
  have entries (k : Key) : (s.dueFor i).entry k = s.entry k := by
    rw [Station.entry, (s.dueFor_changes i).1 .entries (by decide), Station.entry]
  obtain ⟨b, settledAt, settled⟩ := (s.dueFor i).finalizeItem_item there (present.rewritten rewrites fun _ _ => Item.DueFrom.stands)
    (by rw [corr, key]; exact keyed) (by simpa only [corr, key, entries] using claimed)
  have late : b.endWait.lateReadings = a.lateReadings ∧ b.endWait.windows = a.windows := by
    rw [b.endWait_shape, settled.shape]
    exact ⟨rfl, rfl⟩
  have same : b.endWait.corr = b.corr ∧ b.endWait.ordinal = b.ordinal := by
    rw [b.endWait_shape]
    exact ⟨rfl, rfl⟩
  rw [s.decisionDue_eq found open_ due]
  refine ⟨_, Station.findItem_endDecision _ settledAt, rfl, rfl, ?_, fun notRead => ?_, fun flight => ?_, fun waits => ?_, fun no => ?_, fun final => ?_⟩
  · show b.endWait.matching = false
    rw [b.endWait_shape]
  · obtain ⟨marked, forced⟩ := from_.late notRead
    refine ⟨late.1.trans marked, congrArg some (Item.fixedChute_of_late _ (late.1.trans marked)), fun h => ?_⟩
    show b.endWait.windows.get h ≠ _
    rw [late.2, forced]
    exact forceOpen_ne_opened _ h
  · exact same.1.trans (settled.inFlight (by rwa [corr]))
  · obtain ⟨committed, o, is, range⟩ := settled.waiting (by rwa [corr])
    exact ⟨same.1.trans committed, o, same.2.trans is, range⟩
  · exact same.1.trans (settled.unkeyed (by rwa [corr]))
  · obtain ⟨still, stillToo⟩ := settled.final (by rwa [corr])
    exact ⟨(same.1.trans still).trans corr, (same.2.trans stillToo).trans ordinal⟩

end Sys2Proof.Machine
end

section
/-! SUPPORT. The decision of a WAITING item and of one QUEUED or SETTLING (R128 to R130): commits, WITHDRAWs and re-tests, and the
statement on them. -/

namespace Sys2Proof.Machine

variable (s : Station) {ref : ItemRef}

/-! ### What waits, and what does not -/

/-- A write of the items of a ref that leaves their correlation state leaves what waits. -/
theorem Station.Rewrites.isWaiting {R : Item → Item → Prop} {s t : Station} (h : s.Rewrites ref R t) (corr : ∀ i j, R i j → j.corr = i.corr)
    (r : ItemRef) : t.isWaiting r = s.isWaiting r := by
  by_cases own : r = ref
  · subst own
    cases found : s.findItem r with
    | none =>
      have gone : t.findItem r = none := by
        obtain ⟨f, -, keeps, queue⟩ := h
        have same : t.findItem r = (s.modifyItem r f).findItem r := by rw [Station.findItem, queue]; rfl
        rw [same, s.findItem_modifyItem r f fun k own => (keeps k).trans own, found]
        rfl
      simp [Station.isWaiting, found, gone]
    | some i =>
      obtain ⟨j, there, is⟩ := h.found found
      simp [Station.isWaiting, found, there, corr i j is]
  · simp only [Station.isWaiting, h.other own]

theorem Item.DueFrom.corr {read : Prop} {i j : Item} (h : i.DueFrom read j) : j.corr = i.corr := by rw [h.shape]

theorem Station.endDecision_isWaiting (r : ItemRef) : (s.endDecision ref).isWaiting r = s.isWaiting r :=
  s.endDecision_rewrites.isWaiting (fun _ _ is => is.1.2.1) r

theorem Station.TestedOut.of_same {k : Key} {s t : Station} (h : s.TestedOut k) (entry : t.entry k = s.entry k)
    (waits : ∀ r, t.isWaiting r = true → s.isWaiting r = true) : t.TestedOut k := fun e found c listed own waiting =>
  h e (entry ▸ found) c listed own (waits _ waiting)

theorem Station.endDecision_entry (k : Key) : (s.endDecision ref).entry k = s.entry k := by
  rw [Station.entry, s.endDecision_changes ref .entries (by decide), Station.entry]

/-- The tests of R124 stay as they came to their end. -/
theorem Station.TestedOut.endDecision {k : Key} (h : s.TestedOut k) : (s.endDecision ref).TestedOut k :=
  h.of_same (s.endDecision_entry k) fun r waits => (s.endDecision_isWaiting r).symm.trans waits

theorem Station.endDecision_claims : (s.endDecision ref).claims = s.claims :=
  claims_of_same (s.endDecision_changes ref .tally (by decide)) (s.endDecision_changes ref .claimCounts (by decide))

/-! ### Counts of the re-tests -/

theorem Station.commitAs_claimCounts (k : Key) (c : Claim) (n : Nat) (isRanked ranked holdingsUnconfirmed : Bool) :
    (s.commitAs k c n isRanked ranked holdingsUnconfirmed).claims.counts =
      if isRanked then { s.claims.counts with ranked := s.claims.counts.ranked + 1 }
      else { s.claims.counts with commits := s.claims.counts.commits + 1 } := by
  refine (Station.offerNotice_changes _ _ .claimCounts (by decide)).trans ?_
  have kept : (s.writeEntry k (Entry.commitOwn c.ref n c.tally)).claims.counts = s.claims.counts :=
    s.writeEntry_changes _ _ .claimCounts (by decide)
  rw [← kept]
  cases isRanked <;> rfl

/-- The re-tests count ordinary commits alone. -/
theorem Station.report_claimCounts (k : Key) (before : Option Entry) :
    (s.report k before false).claims.counts.ranked = s.claims.counts.ranked ∧
      (s.report k before false).claims.counts.withdrawals = s.claims.counts.withdrawals := by
  refine s.report_keeps (P := fun t => t.claims.counts.ranked = s.claims.counts.ranked ∧
    t.claims.counts.withdrawals = s.claims.counts.withdrawals) before (fun t e c held _ _ _ _ => ?_) ⟨rfl, rfl⟩
  rw [Station.commitOrdinary, Station.commitAs_claimCounts]
  exact held

theorem Station.retest_ranked (k : Key) : (s.retest k).claims.counts.ranked = s.claims.counts.ranked := by
  refine s.retest_keeps (P := fun t => t.claims.counts.ranked = s.claims.counts.ranked) (fun t e c held _ _ _ _ => ?_) rfl
  rw [Station.commitOrdinary, Station.commitAs_claimCounts]
  exact held

/-! ### The commit at the decision point (R128) -/

/-- The commit of a WAITING item at its decision point. -/
def Station.finalCommit (k : Key) (e : Entry) (c : Claim) (s : Station) : Station :=
  s.commitAs k c (commitOrdinal e.committed (e.ahead c)) (!e.mayCommit c) (decide (0 < e.ahead c))
    (decide (∃ since noted, e.holdings = .requested since noted))

/-- What a decision of a WAITING item leaves of entry, item, counts, frames and flags. -/
theorem Station.decisionDue_commits {i : Item} {k : Key} {e : Entry} {c : Claim} (found : s.findItem ref = some i)
    (open_ : i.lane.undecided = true) (shut0 : i.windows.reader0 ≠ .opened) (shut1 : i.windows.reader1 ≠ .opened)
    (due : dist i.lead s.lane.pos = s.cfg.dDec) (waits : i.corr = .waiting) (key : i.key = some k) (entry : s.entry k = some e)
    (claim : e.ownClaim ref = some c) :
    ∃ (t : Station) (a : Item) (m : ChuteMap), s.decisionDue ref = ((t.finalCommit k e c).retest k).endDecision ref ∧ t.findItem ref = some a ∧ i.DueFrom (i.lane = .read) a ∧
      (s.decisionDue ref).findItem ref = some ((a.commit (commitOrdinal e.committed (e.ahead c)) (decide (0 < e.ahead c))
        (decide (∃ since noted, e.holdings = .requested since noted))).endWait.decided m) ∧
      t.table = s.table ∧ t.claims = s.claims ∧ t.link.txQueue = s.link.txQueue ∧ ∀ r, t.isWaiting r = s.isWaiting r := by
  obtain rfl := s.findItem_ref found
  obtain ⟨a, there, from_⟩ := (s.dueFor_rewrites i).found found
  have frame := (s.dueFor_changes i).2 shut0 shut1
  have table : (s.dueFor i).table = s.table := table_of_same (frame .entries (by decide)) (frame .tableCounts (by decide))
  have entryToo : (s.dueFor i).entry k = some e := by rw [Station.entry, table]; exact entry
  have decided : s.decisionDue i.ref = (((s.dueFor i).finalCommit k e c).retest k).endDecision i.ref := by
    rw [s.decisionDue_eq found open_ due, (s.dueFor i).finalizeItem_of_waiting there (from_.corr.trans waits)
      (by rw [from_.shape]; exact key) entryToo claim]
    rfl
  have committed := (s.dueFor i).findItem_commitAs k c (commitOrdinal e.committed (e.ahead c)) (!e.mayCommit c) (decide (0 < e.ahead c))
    (decide (∃ since noted, e.holdings = .requested since noted))
  rw [Entry.ownClaim_ref claim, there] at committed
  refine ⟨s.dueFor i, a, ((s.dueFor i).finalCommit k e c |>.retest k).cfg.chuteMap, decided, there, from_, ?_, table, claims_of_same (frame .tally (by decide)) (frame .claimCounts (by decide)),
    frame .txQueue (by decide), (s.dueFor_rewrites i).isWaiting fun _ _ => Item.DueFrom.corr⟩
  rw [decided]
  exact Station.findItem_endDecision _ (Station.findItem_retest_of_not_waiting _ committed (by simp [Item.commit]))

/-- An item that commits and is DECIDED, in the fields the statement speaks of. -/
theorem Item.committed_shape {read : Prop} {i a : Item} (from_ : i.DueFrom read a) (n : Nat) (ranked holdingsUnconfirmed : Bool) (m : ChuteMap) :
    ((a.commit n ranked holdingsUnconfirmed).endWait.decided m).corr = .committed ∧
    ((a.commit n ranked holdingsUnconfirmed).endWait.decided m).ordinal = some n ∧
    ((a.commit n ranked holdingsUnconfirmed).endWait.decided m).ranked = (i.ranked || ranked) ∧
    ((a.commit n ranked holdingsUnconfirmed).endWait.decided m).holdingsUnconfirmed = (i.holdingsUnconfirmed || holdingsUnconfirmed) ∧
    ((a.commit n ranked holdingsUnconfirmed).endWait.decided m).unconfirmed = (i.unconfirmed || i.unconfirmedMark) := by
  rw [Item.endWait_shape, from_.shape]
  exact ⟨rfl, rfl, rfl, rfl, rfl⟩

/-- Where no other own claim waits, the commit at the decision point is the end of the re-tests. -/
theorem Station.finalCommit_alone {k : Key} {e : Entry} {c : Claim} (entry : s.entry k = some e)
    (distinct : (s.table.entries.map Entry.key).Nodup) (alone : s.NoOtherWaits e c.ref) :
    (s.finalCommit k e c).retest k = s.finalCommit k e c ∧
    (s.finalCommit k e c).entry k = some (e.afterCommit c (commitOrdinal e.committed (e.ahead c))) ∧
    (s.finalCommit k e c).table.entries.getLast? = some (e.afterCommit c (commitOrdinal e.committed (e.ahead c))) := by
  refine ⟨Station.retest_of_testedOut _ (s.testedOut_commitAs _ _ _ _ _ entry distinct alone), s.entry_commitAs _ _ _ _ _ entry distinct, ?_⟩
  rw [Station.finalCommit, Station.commitAs_table, ← Entry.commitOwn_eq]
  exact Station.getLast_writeEntry _ (Entry.commitOwn_key _ _ _) entry distinct

theorem Station.finalCommit_counts {k : Key} {e : Entry} {c : Claim} :
    (s.finalCommit k e c).claims.counts =
      if e.mayCommit c then { s.claims.counts with commits := s.claims.counts.commits + 1 }
      else { s.claims.counts with ranked := s.claims.counts.ranked + 1 } := by
  rw [Station.finalCommit, Station.commitAs_claimCounts]
  cases e.mayCommit c <;> rfl

/-- What the decision of a WAITING item counts, and what its commit brings the queue and the flags. -/
theorem Station.finalCommit_sends {t : Station} {k : Key} {e : Entry} {c : Claim} (alike : t.link.txQueue = s.link.txQueue) :
    (s.link.txQueue.length < 16 →
      ⟨.commit k c.tally c.ref (commitOrdinal e.committed (e.ahead c)), 0, .ready, false⟩ ∈
        (((t.finalCommit k e c).retest k).endDecision ref).link.txQueue) ∧
    (16 ≤ s.link.txQueue.length → (((t.finalCommit k e c).retest k).endDecision ref).flag .txAbandon = true ∧
      (((t.finalCommit k e c).retest k).endDecision ref).link.txQueue = s.link.txQueue) := by
  have ends := ((t.finalCommit k e c).retest k).endDecision_changes ref
  have queue := ends .txQueue (by decide)
  rw [← alike]
  refine ⟨fun room => queue ▸ Station.mem_txQueue_retest _ k ?_, fun full => ⟨?_, queue.trans ?_⟩⟩
  · rw [Station.finalCommit, Station.commitAs_txQueue, if_pos room]
    exact List.mem_append_right _ (List.mem_singleton_self _)
  · have set : ((t.finalCommit k e c).retest k).flag .txAbandon = true := Station.flag_retest _ k (by
      rw [Station.finalCommit, Station.flag_commitAs]
      simp only [Bool.or_eq_true, decide_eq_true_eq]
      exact .inr ⟨by omega, trivial⟩)
    rw [Station.flag, ends .flags (by decide)]
    exact set
  · have still : (t.finalCommit k e c).link.txQueue = t.link.txQueue := by
      rw [Station.finalCommit, Station.commitAs_txQueue, if_neg (by omega)]
    rw [Station.txQueue_retest_of_full _ k (by rw [still]; exact full), still]

/-- The decision of a WAITING item, in all the statement says of it. -/
theorem Station.decisionDue_of_waiting {i : Item} {k : Key} {e : Entry} {c : Claim} (found : s.findItem ref = some i)
    (open_ : i.lane.undecided = true) (shut0 : i.windows.reader0 ≠ .opened) (shut1 : i.windows.reader1 ≠ .opened)
    (due : dist i.lead s.lane.pos = s.cfg.dDec) (waits : i.corr = .waiting) (key : i.key = some k) (entry : s.entry k = some e)
    (claim : e.ownClaim ref = some c) (distinct : (s.table.entries.map Entry.key).Nodup) :
    let ordinal := commitOrdinal e.committed (e.ahead c)
    let y := s.decisionDue ref
    ∃ j e', y.findItem ref = some j ∧ j.corr = .committed ∧
       j.ordinal = some ordinal ∧ j.ranked = (i.ranked || decide (0 < e.ahead c)) ∧
       (j.holdingsUnconfirmed = true ↔
         i.holdingsUnconfirmed = true ∨ ∃ since noted, e.holdings = .requested since noted) ∧
       (j.unconfirmed = (i.unconfirmed || i.unconfirmedMark)) ∧
       y.entry k = some e' ∧ ordinal ≤ e'.committed ∧ (∀ a ∈ e'.pending, ¬ (a.own = true ∧ a.ref = ref)) ∧ y.TestedOut k ∧
       (s.NoOtherWaits e ref → e' = e.afterCommit c ordinal ∧ y.table.entries.getLast? = some e') ∧
       (e.LetsCommit c → y.claims.counts.ranked = s.claims.counts.ranked ∧
         (s.NoOtherWaits e ref → y.claims.counts.commits = s.claims.counts.commits + 1)) ∧
       (¬ e.LetsCommit c → y.claims.counts.ranked = s.claims.counts.ranked + 1 ∧
         (s.NoOtherWaits e ref → y.claims.counts.commits = s.claims.counts.commits)) ∧
       (s.link.txQueue.length < 16 → ⟨.commit k c.tally ref ordinal, 0, .ready, false⟩ ∈ y.link.txQueue) ∧
       (16 ≤ s.link.txQueue.length → y.flag .txAbandon = true ∧ y.link.txQueue = s.link.txQueue) := by
  intro ordinal y
  obtain ⟨t, a, m, decided, there, from_, item, table, claims, queue, waiting⟩ :=
    s.decisionDue_commits found open_ shut0 shut1 due waits key entry claim
  have own := Entry.ownClaim_ref claim
  have entryToo : t.entry k = some e := by rw [Station.entry, table]; exact entry
  have distinctToo : (t.table.entries.map Entry.key).Nodup := by rw [table]; exact distinct
  have holds := (t.holdsCommit_commitAs c ordinal (!e.mayCommit c) (decide (0 < e.ahead c))
    (decide (∃ since noted, e.holdings = .requested since noted)) (own ▸ there) entryToo distinctToo).retest
  obtain ⟨e', found', reached, gone⟩ := holds.entry
  have entryAt : y.entry k = ((t.finalCommit k e c).retest k).entry k := by
    show (s.decisionDue ref).entry k = _
    rw [decided, Station.endDecision_entry]
  have tableAt : y.table = ((t.finalCommit k e c).retest k).table := by
    show (s.decisionDue ref).table = _
    rw [decided]
    exact table_of_same (Station.endDecision_changes _ ref .entries (by decide)) (Station.endDecision_changes _ ref .tableCounts (by decide))
  have countsAt : y.claims = ((t.finalCommit k e c).retest k).claims := by
    show (s.decisionDue ref).claims = _
    rw [decided, Station.endDecision_claims]
  have alone (none : s.NoOtherWaits e ref) : (t.finalCommit k e c).retest k = t.finalCommit k e c ∧
      (t.finalCommit k e c).entry k = some (e.afterCommit c ordinal) ∧
      (t.finalCommit k e c).table.entries.getLast? = some (e.afterCommit c ordinal) :=
    t.finalCommit_alone entryToo distinctToo fun b listed mine other => (waiting b.ref).trans (none b listed mine (own ▸ other))
  have rankedAt : y.claims.counts.ranked = (t.finalCommit k e c).claims.counts.ranked := by
    rw [countsAt, Station.retest_ranked]
  obtain ⟨corr, ord, ranked, unconfirmedHoldings, unconfirmed⟩ := Item.committed_shape from_ ordinal (decide (0 < e.ahead c))
    (decide (∃ since noted, e.holdings = .requested since noted)) m
  refine ⟨_, e', item, corr, ord, ranked, ?_, unconfirmed, entryAt.trans found', reached, by rw [← own]; exact gone, ?_, fun none => ?_, fun may => ?_,
    fun mayNot => ?_, ?_⟩
  · rw [unconfirmedHoldings, Bool.or_eq_true, decide_eq_true_eq]
  · show (s.decisionDue ref).TestedOut k
    rw [decided]
    exact (Station.retest_testedOut _ k (t.keys_commitAs_nodup _ _ _ _ _ entryToo distinctToo)).endDecision
  · obtain ⟨ended, after, last⟩ := alone none
    rw [show (t.commitAs k c ordinal (!e.mayCommit c) (decide (0 < e.ahead c))
      (decide (∃ since noted, e.holdings = .requested since noted))).retest k = t.finalCommit k e c from ended, after] at found'
    obtain rfl := Option.some.inj found'
    exact ⟨rfl, by rw [tableAt, ended, last]⟩
  · have counts := t.finalCommit_counts (k := k) (e := e) (c := c)
    rw [if_pos ((e.mayCommit_iff c).mpr may), claims] at counts
    exact ⟨by rw [rankedAt, counts], fun none => by rw [countsAt, (alone none).1, counts]⟩
  · have counts := t.finalCommit_counts (k := k) (e := e) (c := c)
    rw [if_neg fun may => mayNot ((e.mayCommit_iff c).mp may), claims] at counts
    exact ⟨by rw [rankedAt, counts], fun none => by rw [countsAt, (alone none).1, counts]⟩
  · have sends := s.finalCommit_sends (ref := ref) (e := e) (c := c) (k := k) queue
    rw [← decided, own] at sends
    exact sends

end Sys2Proof.Machine
end

section
/-! SUPPORT. The decision of an item QUEUED or SETTLING (R129, R130): its CLAIM taken back or its WITHDRAW offered, and the re-tests of
the entry's other own claims. -/

namespace Sys2Proof.Machine

variable (s : Station) {ref : ItemRef}

/-! ### The items that wait, before and after -/

/-- The items that are WAITING are the same ones, and those stay as they are. -/
structure Station.WaitsAlike (s t : Station) : Prop where
  forth : ∀ r i, s.findItem r = some i → i.corr = .waiting → t.findItem r = some i
  back : ∀ r, t.isWaiting r = true → s.isWaiting r = true

theorem Station.WaitsAlike.trans {s t u : Station} (h : s.WaitsAlike t) (g : t.WaitsAlike u) : s.WaitsAlike u :=
  ⟨fun r i found waits => g.forth r i (h.forth r i found waits) waits, fun r waits => h.back r (g.back r waits)⟩

theorem Station.WaitsAlike.of_items {s t : Station} (items : t.lane.queue = s.lane.queue) : s.WaitsAlike t :=
  ⟨fun r _ found _ => (Station.findItem_of_items items r).trans found, fun r waits => (Station.isWaiting_of_items items r) ▸ waits⟩

theorem Station.WaitsAlike.isWaiting {s t : Station} (h : s.WaitsAlike t) {r : ItemRef} (waits : s.isWaiting r = true) : t.isWaiting r = true := by
  obtain ⟨i, found, corr⟩ := (s.isWaiting_iff r).mp waits
  exact (t.isWaiting_iff r).mpr ⟨i, h.forth r i found corr, corr⟩

theorem Station.WaitsAlike.noOtherWaits {s t : Station} (h : s.WaitsAlike t) {m : Entry} (alone : s.NoOtherWaits m ref) : t.NoOtherWaits m ref :=
  fun a listed own other => Bool.eq_false_iff.mpr fun waits => absurd ((alone a listed own other).symm.trans (h.back _ waits)) (by decide)

/-- A write of an item that does not wait, and does not wait after it. -/
theorem Station.Rewrites.waitsAlike {R : Item → Item → Prop} {s t : Station} {i : Item} (h : s.Rewrites ref R t) (found : s.findItem ref = some i)
    (stirs : i.corr ≠ .waiting) (writes : ∀ j, R i j → j.corr ≠ .waiting) : s.WaitsAlike t where
  forth r k there waits := by
    by_cases own : r = ref
    · subst own
      cases found.symm.trans there
      exact absurd waits stirs
    · exact (h.other own).trans there
  back r waits := by
    obtain ⟨k, there, corr⟩ := (t.isWaiting_iff r).mp waits
    by_cases own : r = ref
    · subst own
      obtain ⟨j, found', is⟩ := h.found found
      cases found'.symm.trans there
      exact absurd corr (writes k is)
    · exact (s.isWaiting_iff r).mpr ⟨k, (h.other own).symm.trans there, corr⟩

/-- No WAITING item has departed or holds the slot. -/
def Station.WaitersPresent (s : Station) : Prop := ∀ a ∈ s.lane.queue, a.corr = .waiting → a.departed = false ∧ a.depositHeld = false

/-- In a queue of distinct items, one that waits is the one of its ref. -/
theorem Station.WaitersPresent.present {i : Item} {r : ItemRef} (h : s.WaitersPresent) (distinct : (s.lane.queue.map Item.ref).Nodup)
    (listed : i ∈ s.lane.queue) (waits : i.corr = .waiting) (own : i.ref = r) : s.Present r := fun k there mine => by
  cases List.inj_on_of_nodup_map distinct there listed (mine.trans own.symm)
  exact h i listed waits

theorem Station.WaitersPresent.rewritten {R : Item → Item → Prop} {s t : Station} (present : s.WaitersPresent) (h : s.Rewrites ref R t)
    (keeps : ∀ i j, R i j → j.corr = .waiting → i.corr = .waiting ∧ j.departed = i.departed ∧ j.depositHeld = i.depositHeld) :
    t.WaitersPresent := fun j listed waits => by
  obtain ⟨i, before, -, writes, stays⟩ := h.mem listed
  by_cases mine : i.ref = ref
  · obtain ⟨corr, departed, held⟩ := keeps i j (writes mine) waits
    obtain ⟨still, free⟩ := present i before corr
    exact ⟨departed.trans still, held.trans free⟩
  · cases stays mine
    exact present j before waits

/-- A CLAIM taken back. -/
theorem Station.takeBack_waitsAlike (present : s.WaitersPresent) (distinct : (s.lane.queue.map Item.ref).Nodup) :
    s.WaitsAlike (s.takeBack ref false) where
  forth r i found waits :=
    (s.findItem_takeBack (present.present _ distinct (s.findItem_mem found) waits (s.findItem_ref found))).trans found
  back r waits := by
    obtain ⟨j, there, corr⟩ := (Station.isWaiting_iff _ r).mp waits
    have evolves : s.Evolves Item.HeldFrom (s.takeBack ref false) := by
      unfold Station.takeBack
      split
      · exact .refl .refl
      · split
        · exact .of_queue rfl .refl
        · exact (Station.Evolves.of_queue rfl .refl).trans Item.HeldFrom.trans (Station.roomReport_evolves _ false)
    obtain ⟨i, found, held⟩ := evolves r j there
    exact (s.isWaiting_iff r).mpr ⟨i, found, by rw [held] at corr; exact corr⟩

/-! ### The re-tests, seen from before and after -/

/-- Re-tests of a station, seen from one whose waiting items are the same, and in one that has the same table, counts and items. -/
theorem Station.Retests.seen {x u v y : Station} {k : Key} {m : Entry} (h : u.Retests v k m false) (alike : x.WaitsAlike u)
    (commits : u.claims.counts.commits = x.claims.counts.commits) (table : y.table = v.table) (claims : y.claims = v.claims)
    (stirs : x.isWaiting ref = false) (items : ∀ r, r ≠ ref → y.findItem r = v.findItem r) (waiting : ∀ r, y.isWaiting r = v.isWaiting r) :
    x.Retests y k m false where
  marks no := absurd no Bool.false_ne_true
  commits r i c found waits claim may := by
    have other : r ≠ ref := by
      rintro rfl
      exact absurd ((x.isWaiting_iff r).mpr ⟨i, found, waits⟩) (by simp [stirs])
    obtain ⟨j, e', there, corr, ordinal, ranked, unconfirmed, entry, reached, gone, alone⟩ := h.commits r i c (alike.forth r i found waits) waits claim may
    refine ⟨j, e', (items r other).trans there, corr, ordinal, ranked, unconfirmed, by rw [Station.entry, table]; exact entry, reached, gone, fun none => ?_⟩
    obtain ⟨is, last, counted⟩ := alone (alike.noOtherWaits none)
    exact ⟨is, by rw [table]; exact last, by rw [claims, counted, commits]⟩
  stays stuck := by
    obtain ⟨entry, counted, still⟩ := h.stays fun c listed own waits => stuck c listed own (alike.back _ waits)
    exact ⟨by rw [Station.entry, table]; exact entry, by rw [claims, counted, commits], fun r waits => (waiting r).trans (still r (alike.isWaiting waits))⟩
  testedOut := h.testedOut.of_same (by rw [Station.entry, table, Station.entry]) fun r waits => (waiting r).symm.trans waits

/-! ### The entry without the claim -/

/-- The report of an own claim that has gone is of a change. -/
theorem Entry.reported_withoutOwn {e : Entry} (own : ∃ c ∈ e.pending, c.own = true ∧ c.ref = ref) :
    (some e).map Entry.reported ≠ some (e.withoutOwn ref).reported := by
  obtain ⟨c, listed, mine, rfl⟩ := own
  intro same
  have fewer := Entry.length_afterCommit_pending_lt 0 listed mine
  have lists : e.pending = (e.withoutOwn c.ref).pending := congrArg Prod.fst (Option.some.inj same)
  rw [show (e.afterCommit c 0).pending = (e.withoutOwn c.ref).pending from rfl, ← lists] at fewer
  exact absurd fewer (lt_irrefl _)

/-- The report of a station whose entry has lost the item's own claim, seen from before the decision and at its end. -/
theorem Station.report_withoutOwn {x u : Station} {k : Key} {e : Entry} (alike : x.WaitsAlike u)
    (commits : u.claims.counts.commits = x.claims.counts.commits) (entry : u.entry k = some (e.withoutOwn ref))
    (distinct : (u.table.entries.map Entry.key).Nodup) (own : ∃ c ∈ e.pending, c.own = true ∧ c.ref = ref) (stirs : x.isWaiting ref = false) :
    x.Retests ((u.report k (some e) false).endDecision ref) k (e.withoutOwn ref) false :=
  (Station.report_retests entry distinct rfl rfl (.inr (Entry.reported_withoutOwn own)) : u.Retests _ _ _ _).seen alike commits
    (table_of_same (Station.endDecision_changes _ ref .entries (by decide)) (Station.endDecision_changes _ ref .tableCounts (by decide)))
    (Station.endDecision_claims _) stirs (fun _ other => (Station.endDecision_rewrites _).other other) fun r => Station.endDecision_isWaiting _ r

/-- Where the COMMIT of those re-tests goes, with one frame offered before them. -/
theorem Station.report_withoutOwn_sends {x u : Station} {k : Key} {e : Entry} (alike : x.WaitsAlike u) (entry : u.entry k = some (e.withoutOwn ref))
    (distinct : (u.table.entries.map Entry.key).Nodup) (own : ∃ c ∈ e.pending, c.own = true ∧ c.ref = ref)
    (few : u.link.txQueue.length ≤ x.link.txQueue.length + 1) (kept : x.link.txQueue.length ≤ u.link.txQueue.length) :
    x.RetestSends ((u.report k (some e) false).endDecision ref) k (e.withoutOwn ref) 1 := fun r c waits claim may => by
  have ends := (u.report k (some e) false).endDecision_changes ref
  have sends : u.RetestSends (u.report k (some e) false) k (e.withoutOwn ref) 0 :=
    Station.report_retestSends entry distinct rfl (Nat.le_refl _) (Nat.le_refl _) (.inr (Entry.reported_withoutOwn own))
  obtain ⟨room, full⟩ := sends r c (alike.isWaiting waits) claim may
  rw [ends .txQueue (by decide), Station.flag, ends .flags (by decide), ← Station.flag]
  exact ⟨fun less => room (by omega), fun more => full (by omega)⟩

/-- A full queue stays as it is through a report, and a flag stays set. -/
theorem Station.report_of_full (k : Key) (before : Option Entry) (full : 16 ≤ s.link.txQueue.length) (set : s.flag .txAbandon = true) :
    (s.report k before false).link.txQueue = s.link.txQueue ∧ (s.report k before false).flag .txAbandon = true := by
  refine s.report_keeps (P := fun t => t.link.txQueue = s.link.txQueue ∧ t.flag .txAbandon = true) before (fun t e c held _ _ _ _ => ?_) ⟨rfl, set⟩
  obtain ⟨queue, still⟩ := held
  rw [Station.commitOrdinary, Station.commitAs_txQueue, Station.flag_commitAs, queue, if_neg (by omega), still]
  exact ⟨rfl, rfl⟩

/-! ### The CLAIM taken back -/

theorem TxFrame.not_isClaimOf_of_newCommit {f : TxFrame} (h : f.isNewCommit) : f.isClaimOf ref = false := by
  obtain ⟨k, t, r, o, rfl⟩ := h
  rfl

theorem Station.FromRoom.not_isClaimOf {s : Station} {restarting : Bool} {f : TxFrame} (h : s.FromRoom restarting f)
    (slot : ∀ b, s.records.overflow = some b → b.cls ≠ .claim) : f.isClaimOf ref = false := by
  obtain ⟨is, from_⟩ := h
  have kind : f.body.cls ≠ .claim := by
    rcases from_ with held | ⟨-, d, deposit⟩ | ⟨-, announce⟩
    · exact slot _ held
    · rw [deposit]; exact nofun
    · rw [announce]; exact nofun
  unfold TxFrame.isClaimOf
  split
  next body => exact absurd (by rw [body]; rfl) kind
  next => rfl

/-- A list with one member of a kind has none once that one is erased. -/
theorem mem_eraseP_only {α : Type} {p : α → Bool} {f : α} {l : List α} (only : l.filter p = [f]) : ∀ g ∈ l.eraseP p, p g = false := by
  induction l with
  | nil => cases only
  | cons a l ih =>
    cases is : p a with
    | true =>
      rw [List.filter_cons_of_pos is] at only
      rw [List.eraseP_cons_of_pos is]
      exact fun g listed => by simpa using List.filter_eq_nil_iff.mp (List.cons.inj only).2 g listed
    | false =>
      rw [List.filter_cons_of_neg (by simp [is])] at only
      rw [List.eraseP_cons_of_neg (by simp [is])]
      exact List.forall_mem_cons.mpr ⟨is, ih only⟩

theorem find?_of_filter {α : Type} {p : α → Bool} {f : α} {l : List α} (only : l.filter p = [f]) : l.find? p = some f := by
  rw [← List.head?_filter, only]
  rfl

/-- Frames that are no CLAIM of the item stay. -/
theorem Station.mem_txQueue_takeBack (restarting : Bool) {f : TxFrame} (queued : f ∈ s.link.txQueue) (other : f.isClaimOf ref = false) :
    f ∈ (s.takeBack ref restarting).link.txQueue := by
  unfold Station.takeBack
  split
  · exact queued
  · split
    · exact List.mem_map.mpr ⟨f, queued, by simp [other]⟩
    · exact (Station.roomReport_sends _ restarting).mem ((List.mem_eraseP_of_neg (by simp [other])).mpr queued)

/-- A CLAIM ON LINE stays, marked; one that waits leaves, and none comes for it. -/
theorem Station.takeBack_claim (restarting : Bool) {f : TxFrame} (only : s.link.txQueue.filter (fun g => g.isClaimOf ref) = [f]) :
    if f.standing = .onLine then { f with takenBack := true } ∈ (s.takeBack ref restarting).link.txQueue
    else (∀ b, s.records.overflow = some b → b.cls ≠ .claim) → ∀ g ∈ (s.takeBack ref restarting).link.txQueue, g.isClaimOf ref = false := by
  have listed := List.mem_filter.mp (only ▸ List.mem_singleton_self f : f ∈ s.link.txQueue.filter (fun g => g.isClaimOf ref))
  unfold Station.takeBack
  rw [find?_of_filter only]
  dsimp only
  split
  next onLine => exact List.mem_map.mpr ⟨f, listed.1, if_pos listed.2⟩
  next =>
    intro slot g there
    rcases (Station.roomReport_sends _ restarting).origin there with before | new
    · exact mem_eraseP_only only g before
    · exact new.not_isClaimOf (by exact slot)

end Sys2Proof.Machine
end

section
/-! PROOF. The statement that a decision leaves no claim in flight (R127 to R130), from the steps of a decision. -/

namespace Sys2Proof.Machine

variable (s : Station) {ref : ItemRef}

/-- The station at the decision of an item in flight, its late windows closed and its claim removed, as it stands to the one before. -/
structure Station.Unsettles (ref : ItemRef) (k : Key) (e : Entry) (s u : Station) : Prop where
  alike : s.WaitsAlike u
  entry : u.entry k = some (e.withoutOwn ref)
  distinct : (u.table.entries.map Entry.key).Nodup
  claims : u.claims = s.claims
  txQueue : u.link.txQueue = s.link.txQueue
  overflow : u.records.overflow = s.records.overflow
  refs : (u.lane.queue.map Item.ref).Nodup
  present : u.WaitersPresent

theorem Station.dueFor_unsettles {i : Item} {k : Key} {e : Entry} (found : s.findItem ref = some i) (stirs : i.corr ≠ .waiting)
    (shut0 : i.windows.reader0 ≠ .opened) (shut1 : i.windows.reader1 ≠ .opened) (entry : s.entry k = some e)
    (distinct : (s.table.entries.map Entry.key).Nodup) (refs : (s.lane.queue.map Item.ref).Nodup) (present : s.WaitersPresent) :
    s.Unsettles ref k e ((s.dueFor i).unsettled ref k) := by
  obtain rfl := s.findItem_ref found
  have due := s.dueFor_rewrites i
  obtain ⟨a, there, from_⟩ := due.found found
  have frame := (s.dueFor_changes i).2 shut0 shut1
  have table : (s.dueFor i).table = s.table := table_of_same (frame .entries (by decide)) (frame .tableCounts (by decide))
  have settles := (s.dueFor i).unsettled_rewrites (ref := i.ref) k
  obtain ⟨written, keys⟩ := ((s.dueFor i).reject i.ref .unsettled).entry_removeOwnClaim i.ref (e := e) (k := k)
    (by show (s.dueFor i).entry k = _; rw [Station.entry, table]; exact entry) (by show ((s.dueFor i).table.entries.map Entry.key).Nodup; rwa [table])
  have after : Changes [.items, .entries] (s.dueFor i) ((s.dueFor i).unsettled i.ref k) :=
    (((s.dueFor i).reject_changes i.ref .unsettled).mono (by decide)).trans ((Station.removeOwnClaim_changes _ k i.ref).mono (by decide))
  exact {
    alike := (due.waitsAlike found stirs fun j is => by rw [is.corr]; exact stirs).trans
      (settles.waitsAlike there (by rw [from_.corr]; exact stirs) fun j is => by rw [is]; simp)
    entry := written
    distinct := keys
    claims := (claims_of_same (after .tally (by decide)) (after .claimCounts (by decide))).trans
      (claims_of_same (frame .tally (by decide)) (frame .claimCounts (by decide)))
    txQueue := (after .txQueue (by decide)).trans (frame .txQueue (by decide))
    overflow := (after .overflow (by decide)).trans (frame .overflow (by decide))
    refs := by rw [settles.refs, due.refs]; exact refs
    present := (present.rewritten due fun i j is waits => by
      obtain ⟨departed, held⟩ := is.stands
      exact ⟨is.corr.symm.trans waits, departed, held⟩).rewritten settles fun i j is waits => by rw [is] at waits; cases waits }

section inFlight

variable (s : Station) {ref : ItemRef} {i : Item} {k : Key} {e : Entry} (found : s.findItem ref = some i)
  (open_ : i.lane.undecided = true) (shut0 : i.windows.reader0 ≠ .opened) (shut1 : i.windows.reader1 ≠ .opened)
  (due : dist i.lead s.lane.pos = s.cfg.dDec) (key : i.key = some k) (entry : s.entry k = some e)
  (own : ∃ c ∈ e.pending, c.own = true ∧ c.ref = ref) (distinct : (s.table.entries.map Entry.key).Nodup)
  (refs : (s.lane.queue.map Item.ref).Nodup) (present : s.WaitersPresent)

include found open_ shut0 shut1 due key entry own distinct refs present

/-- The decision of a QUEUED item. -/
theorem Station.decisionDue_of_queued (queued : i.corr = .queued) :
    s.Retests (s.decisionDue ref) k (e.withoutOwn ref) false ∧
    (s.decisionDue ref).claims.counts.withdrawals = s.claims.counts.withdrawals ∧
    (∀ g ∈ s.link.txQueue, g.isClaimOf ref = false → g ∈ (s.decisionDue ref).link.txQueue) ∧
    ∀ f, s.link.txQueue.filter (fun g => g.isClaimOf ref) = [f] →
      if f.standing = .onLine then { f with takenBack := true } ∈ (s.decisionDue ref).link.txQueue
      else (∀ b, s.records.overflow = some b → b.cls ≠ .claim) → ∀ g ∈ (s.decisionDue ref).link.txQueue, g.isClaimOf ref = false := by
  have stirs : i.corr ≠ .waiting := by rw [queued]; exact nofun
  have unsettles := s.dueFor_unsettles found stirs shut0 shut1 entry distinct refs present
  obtain ⟨a, there, from_⟩ := (s.dueFor_rewrites i).found (s.findItem_ref found ▸ found)
  have entryDue : (s.dueFor i).entry k = some e := by
    rw [Station.entry, ((s.dueFor_changes i).2 shut0 shut1) .entries (by decide)]
    exact entry
  have decided : s.decisionDue ref =
      ((((s.dueFor i).unsettled ref k).takeBack ref false).report k (some e) false).endDecision ref := by
    rw [s.decisionDue_eq found open_ due, (s.dueFor i).finalizeItem_of_queued (s.findItem_ref found ▸ there) (from_.corr.trans queued)
      (by rw [from_.shape]; exact key), entryDue]
  have back := ((s.dueFor i).unsettled ref k).takeBack_changes ref false
  have claims := (claims_of_same (back .tally (by decide)) (back .claimCounts (by decide))).trans unsettles.claims
  have ends := ((((s.dueFor i).unsettled ref k).takeBack ref false).report k (some e) false).endDecision_changes ref
  have queue := ends .txQueue (by decide)
  have table := table_of_same (back .entries (by decide)) (back .tableCounts (by decide))
  rw [decided, queue, Station.endDecision_claims, (Station.report_claimCounts _ k _).2, claims]
  refine ⟨Station.report_withoutOwn (unsettles.alike.trans (Station.takeBack_waitsAlike _ unsettles.present unsettles.refs)) (by rw [claims])
    (by rw [Station.entry, table]; exact unsettles.entry) (by rw [table]; exact unsettles.distinct) own ?_, rfl, fun g listed other => ?_, fun f only => ?_⟩
  · simp [Station.isWaiting, found, stirs]
  · exact Station.mem_txQueue_report _ k _ false (Station.mem_txQueue_takeBack _ false (by rw [unsettles.txQueue]; exact listed) other)
  · have claim := ((s.dueFor i).unsettled ref k).takeBack_claim false (ref := ref) (f := f) (by rw [unsettles.txQueue]; exact only)
    rw [unsettles.overflow] at claim
    split
    next onLine =>
      rw [if_pos onLine] at claim
      exact Station.mem_txQueue_report _ k _ false claim
    next waiting =>
      rw [if_neg waiting] at claim
      intro slot g listed
      rcases (Station.report_sends _ k (some e) false).origin listed with before | new
      · exact claim slot g before
      · exact TxFrame.not_isClaimOf_of_newCommit new

/-- The decision of a SETTLING item. -/
theorem Station.decisionDue_of_settling {d : Millis} {tally : Tally} (settles : i.corr = .settling d) (claimTally : i.claimTally = some tally) :
    s.Retests (s.decisionDue ref) k (e.withoutOwn ref) false ∧ s.RetestSends (s.decisionDue ref) k (e.withoutOwn ref) 1 ∧
    (s.decisionDue ref).claims.counts.withdrawals = s.claims.counts.withdrawals + 1 ∧
    (s.link.txQueue.length < 16 → ⟨.withdraw k tally ref, 0, .ready, false⟩ ∈ (s.decisionDue ref).link.txQueue) ∧
    (16 ≤ s.link.txQueue.length → (s.decisionDue ref).flag .txAbandon = true ∧ (s.decisionDue ref).link.txQueue = s.link.txQueue) := by
  have stirs : i.corr ≠ .waiting := by rw [settles]; exact nofun
  have unsettles := s.dueFor_unsettles found stirs shut0 shut1 entry distinct refs present
  obtain ⟨a, there, from_⟩ := (s.dueFor_rewrites i).found (s.findItem_ref found ▸ found)
  have entryDue : (s.dueFor i).entry k = some e := by
    rw [Station.entry, ((s.dueFor_changes i).2 shut0 shut1) .entries (by decide)]
    exact entry
  have decided : s.decisionDue ref =
      ((((s.dueFor i).unsettled ref k).offerWithdraw k tally ref).report k (some e) false).endDecision ref := by
    rw [s.decisionDue_eq found open_ due, (s.dueFor i).finalizeItem_of_settling (s.findItem_ref found ▸ there) (from_.corr.trans settles)
      (by rw [from_.shape]; exact key), entryDue, show a.claimTally = some tally by rw [from_.shape]; exact claimTally]
    rfl
  have offers := ((s.dueFor i).unsettled ref k).offerWithdraw_changes k tally ref
  have counted : (((s.dueFor i).unsettled ref k).offerWithdraw k tally ref).claims.counts =
      { s.claims.counts with withdrawals := s.claims.counts.withdrawals + 1 } := by
    rw [← unsettles.claims]
    exact Station.offerNotice_changes _ _ .claimCounts (by decide)
  have joins : (((s.dueFor i).unsettled ref k).offerWithdraw k tally ref).link.txQueue =
      if s.link.txQueue.length < 16 then s.link.txQueue ++ [⟨.withdraw k tally ref, 0, .ready, false⟩] else s.link.txQueue := by
    rw [← unsettles.txQueue]
    exact Station.offerNotice_txQueue _ _
  have ends := ((((s.dueFor i).unsettled ref k).offerWithdraw k tally ref).report k (some e) false).endDecision_changes ref
  have table := table_of_same (offers .entries (by decide)) (offers .tableCounts (by decide))
  have alike := unsettles.alike.trans (.of_items (offers .items (by decide)))
  have entryToo : (((s.dueFor i).unsettled ref k).offerWithdraw k tally ref).entry k = some (e.withoutOwn ref) := by
    rw [Station.entry, table]; exact unsettles.entry
  have distinctToo : ((((s.dueFor i).unsettled ref k).offerWithdraw k tally ref).table.entries.map Entry.key).Nodup := by
    rw [table]; exact unsettles.distinct
  rw [decided, ends .txQueue (by decide), Station.flag, ends .flags (by decide), ← Station.flag, Station.endDecision_claims,
    (Station.report_claimCounts _ k _).2, counted]
  refine ⟨Station.report_withoutOwn alike (by rw [counted]) entryToo distinctToo own (by simp [Station.isWaiting, found, stirs]),
    Station.report_withoutOwn_sends alike entryToo distinctToo own ?_ ?_, rfl, fun room => ?_, fun full => ?_⟩
  · rw [joins]
    split <;> simp
  · rw [joins]
    split <;> simp
  · rw [if_pos room] at joins
    exact Station.mem_txQueue_report _ k _ false (joins ▸ List.mem_append_right _ (List.mem_singleton_self _))
  · rw [if_neg (by omega)] at joins
    have lit : (((s.dueFor i).unsettled ref k).offerWithdraw k tally ref).flag .txAbandon = true := by
      refine (Station.flag_offerNotice _ _ _).trans ?_
      simp only [Bool.or_eq_true, decide_eq_true_eq]
      exact .inr ⟨by show ¬ ((s.dueFor i).unsettled ref k).link.txQueue.length < 16; rw [unsettles.txQueue]; omega, trivial⟩
    obtain ⟨still, set⟩ := Station.report_of_full _ k (some e) (by rw [joins]; exact full) lit
    exact ⟨set, still.trans joins⟩

end inFlight

/-- Settles O21: a decision closes the late windows, settles the correlation state and fixes the chute; for a WAITING item the second step
is a commit with the rank its place gives, for one in flight its claim leaves the entry and its frame is taken back or withdrawn. -/
theorem decisionFinalizesTheItem : Obligations.DecisionFinalizesTheItem := by
  unfold Obligations.DecisionFinalizesTheItem
  refine ⟨fun x q ref i found open_ due present keyed claimed => ?_, fun x q ref i k e c found open_ shut0 shut1 due waits key entry claim distinct => ?_,
    fun x q ref i k e found open_ shut0 shut1 due key entry own distinct refs present =>
      ⟨_, exec_decisionDue ref x q, fun queued => ?_, fun d tally settles claimTally => ?_⟩⟩
  · obtain ⟨j, item⟩ := x.decisionDue_item found open_ due present keyed claimed
    exact ⟨_, j, exec_decisionDue ref x q, item⟩
  · obtain ⟨j, e', all⟩ := x.decisionDue_of_waiting found open_ shut0 shut1 due waits key entry claim distinct
    exact ⟨_, j, e', exec_decisionDue ref x q, all⟩
  · exact x.decisionDue_of_queued found open_ shut0 shut1 due key entry own distinct refs present queued
  · exact x.decisionDue_of_settling found open_ shut0 shut1 due key entry own distinct refs present settles claimTally

end Sys2Proof.Machine
end

section
/-! SUPPORT. The claims of the items a lane restart removes (R138): what taking back and withdrawing leave of the slot, the flags, the
counts and the ANNOUNCE, and of the transmit queue. -/

namespace Sys2Proof.Machine

/-! ### What the end of the claims changes -/

/-- What the end of claims at a lane restart leaves: abandons alone counted at the link, TX ABANDON alone raised, a waiting ANNOUNCE
offered, the slot's record as it was or moved into the queue, and every frame that is no CLAIM where it was. -/
structure Station.Clears (s t : Station) : Prop where
  frame : Changes [.items, .claimCounts, .txQueue, .linkCounts, .flags, .overflow, .buffers, .calibration, .announce] s t
  linkCounts : t.link.counts = { s.link.counts with abandons := t.link.counts.abandons }
  flags : t.records.flags = s.records.flags ∨ t.records.flags = s.records.flags ||| 512#13
  announce : t.startup.announce = s.startup.announce ∨ (s.startup.announce = .waiting ∧ t.startup.announce = .queued)
  slot : t.records.overflow = s.records.overflow ∨
    t.records.overflow = none ∧ ∀ b, s.records.overflow = some b → b.cls ≠ .claim → ⟨b, 0, .ready, false⟩ ∈ t.link.txQueue
  keeps : ∀ f ∈ s.link.txQueue, f.body.cls ≠ .claim → f ∈ t.link.txQueue

theorem Station.Clears.refl (s : Station) : s.Clears s := ⟨.refl s, rfl, .inl rfl, .inl rfl, .inl rfl, fun _ listed _ => listed⟩

theorem Station.Clears.trans {s t u : Station} (h : s.Clears t) (g : t.Clears u) : s.Clears u where
  frame := h.frame.trans g.frame
  linkCounts := by rw [g.linkCounts, h.linkCounts]
  flags := by
    rcases h.flags with first | first <;> rcases g.flags with second | second <;> rw [second, first]
    · exact .inl rfl
    · exact .inr rfl
    · exact .inr rfl
    · exact .inr (by rw [BitVec.or_assoc, BitVec.or_self])
  announce := by
    rcases h.announce with first | ⟨waits, first⟩
    · rw [← first]
      exact g.announce
    · rcases g.announce with second | ⟨no, -⟩
      · exact .inr ⟨waits, second.trans first⟩
      · exact absurd (first.symm.trans no) (by decide)
  slot := by
    rcases g.slot with second | ⟨gone, moved⟩
    · rcases h.slot with first | ⟨gone, moved⟩
      · exact .inl (second.trans first)
      · exact .inr ⟨second.trans gone, fun b held kind => g.keeps _ (moved b held kind) kind⟩
    · rcases h.slot with first | ⟨-, moved'⟩
      · exact .inr ⟨gone, by rw [← first]; exact moved⟩
      · exact .inr ⟨gone, fun b held kind => g.keeps _ (moved' b held kind) kind⟩
  keeps f listed kind := g.keeps f (h.keeps f listed kind) kind

theorem Station.Clears.noSlot {s t : Station} (h : s.Clears t) (empty : s.records.overflow = none) : t.records.overflow = none := by
  rcases h.slot with same | ⟨gone, -⟩
  · exact same.trans empty
  · exact gone

/-- A change of items, buffers, calibration and claim counts alone. -/
theorem Station.Clears.of_frame {s t : Station} (h : Changes [.items, .buffers, .calibration, .claimCounts] s t) : s.Clears t where
  frame := h.mono rfl
  linkCounts := by rw [show t.link.counts = s.link.counts from h .linkCounts (by decide)]
  flags := .inl (h .flags (by decide))
  announce := .inl (h .announce (by decide))
  slot := .inl (h .overflow (by decide))
  keeps f listed _ := by
    rw [show t.link.txQueue = s.link.txQueue from h .txQueue (by decide)]
    exact listed

variable (s : Station)

/-- The transmit queue written, with every frame that is no CLAIM kept. -/
theorem Station.clears_txQueue (l : List TxFrame) (keeps : ∀ f ∈ s.link.txQueue, f.body.cls ≠ .claim → f ∈ l) :
    s.Clears { s with link := { s.link with txQueue := l } } :=
  ⟨(changes_txQueue s l).mono rfl, rfl, .inl rfl, .inl rfl, .inl rfl, keeps⟩

theorem Station.offerNotice_clears (b : Body) : s.Clears (s.offerNotice b) where
  frame := (s.offerNotice_changes b).mono rfl
  linkCounts := by rw [Station.offerNotice_eq]; split <;> rfl
  flags := by
    rw [Station.offerNotice_eq]
    split
    · exact .inl rfl
    · exact .inr rfl
  announce := .inl (s.offerNotice_changes b .announce (by decide))
  slot := .inl (s.offerNotice_changes b .overflow (by decide))
  keeps f listed _ := (s.offerNotice_sends (P := fun _ => True) (b := b) trivial).mem listed

theorem Station.offerWithdraw_clears (k : Key) (t : Tally) (r : ItemRef) : s.Clears (s.offerWithdraw k t r) :=
  (Station.Clears.of_frame ((changes_claimCounts s _).mono rfl)).trans (Station.offerNotice_clears _ _)

/-- An item removed at a lane restart sets no flag. -/
theorem Station.removeDeposited_unflagged (b : Body) : Changes [.items, .buffers, .calibration, .claimCounts] s (s.removeDeposited b false) := by
  have frame := s.removeDeposited_changes b false
  have flags : (s.removeDeposited b false).records.flags = s.records.flags := by
    unfold Station.removeDeposited
    split
    · split
      · split
        · unfold Station.removeItem Station.endCalibrationOf
          dsimp only
          split
          · split <;> rfl
          · rfl
        · rfl
      · rfl
    · rfl
  intro block apart
  by_cases is : block = .flags
  · rw [is]
    exact flags
  · exact frame block fun listed => apart (by
      simp only [List.mem_cons, List.not_mem_nil, is, or_false] at listed ⊢
      rcases listed with h | h | h <;> simp [h])

theorem Station.moveOverflow_clears : s.Clears (s.moveOverflow true) := by
  unfold Station.moveOverflow
  split
  · exact .refl s
  next b slot =>
    split
    · refine Station.Clears.trans (t := { s with records := { s.records with overflow := none } }.txPush b) ?_
        (.of_frame (Station.removeDeposited_unflagged _ b))
      refine ⟨((changes_overflow s none).then (Station.txPush_changes _ b) rfl rfl), rfl, .inl rfl, .inl rfl, .inr ⟨rfl, fun c held _ => ?_⟩,
        fun f listed _ => List.mem_append_left _ listed⟩
      cases slot.symm.trans held
      exact List.mem_append_right _ (List.mem_singleton_self _)
    · exact .refl s

theorem Station.offerAnnounce_clears (waits : s.startup.announce = .waiting) : s.Clears s.offerAnnounce := by
  have offered := s.offerNotice_clears (.announce s.claims.tally s.cfg.version)
  exact {
    frame := s.offerAnnounce_changes.mono rfl
    linkCounts := offered.linkCounts
    flags := offered.flags
    announce := by
      show (if s.txRoom then AnnounceStanding.queued else .waiting) = _ ∨ _ ∧ (if s.txRoom then AnnounceStanding.queued else .waiting) = _
      split
      · exact .inr ⟨waits, rfl⟩
      · exact .inl waits.symm
    slot := offered.slot
    keeps := offered.keeps }

theorem Station.roomReport_clears : s.Clears (s.roomReport true) := by
  unfold Station.roomReport
  dsimp only
  split
  next waits => exact s.moveOverflow_clears.trans (Station.offerAnnounce_clears _ waits)
  next => exact s.moveOverflow_clears

theorem TxFrame.not_isClaimOf_of_cls {f : TxFrame} (r : ItemRef) (kind : f.body.cls ≠ .claim) : f.isClaimOf r = false := by
  unfold TxFrame.isClaimOf
  split
  next body => exact absurd (by rw [body]; rfl) kind
  next => rfl

theorem Station.takeBack_clears (r : ItemRef) : s.Clears (s.takeBack r true) := by
  unfold Station.takeBack
  split
  · exact .refl s
  · split
    · refine s.clears_txQueue _ fun f listed kind => List.mem_map.mpr ⟨f, listed, ?_⟩
      rw [f.not_isClaimOf_of_cls r kind]
      rfl
    · refine (s.clears_txQueue _ fun f listed kind => ?_).trans (Station.roomReport_clears _)
      exact (List.mem_eraseP_of_neg (by simp [f.not_isClaimOf_of_cls r kind])).mpr listed

theorem Station.restartClaim_clears (i : Item) : s.Clears (s.restartClaim i) := by
  unfold Station.restartClaim
  split
  · exact s.takeBack_clears _
  · exact s.offerWithdraw_clears _ _ _
  · exact s.offerWithdraw_clears _ _ _
  · exact .refl s

theorem Station.restartClaims_clears (l : List Item) : s.Clears (l.foldl Station.restartClaim s) :=
  l.foldlRecOn Station.restartClaim (.refl s) fun t held i _ => held.trans (t.restartClaim_clears i)

end Sys2Proof.Machine
end

section
/-! SUPPORT. The transmit queue through the claims of the items a lane restart removes (R138, R151): frames kept, taken back and added. -/

namespace Sys2Proof.Machine

/-! ### The frames that one item's claim leaves -/

/-- The frames of a queue that the end of an item's claim leaves: all of them, or all with the item's CLAIM marked taken back, or all
but that CLAIM. -/
def Item.LeavesOf (i : Item) (l kept : List TxFrame) : Prop :=
  kept = l ∨ i.corr = .queued ∧
    (kept = l.map (fun g => if g.isClaimOf i.ref then { g with takenBack := true } else g) ∨ kept = l.eraseP (fun g => g.isClaimOf i.ref))

/-- A frame that the end of an item's claim adds: of the room its CLAIM leaves, or its WITHDRAW. -/
def Station.Adds (i : Item) (s : Station) (f : TxFrame) : Prop :=
  f = ⟨f.body, 0, .ready, false⟩ ∧ (s.FromRoom true f ∨
    ∃ k, i.settlingOrWaiting = true ∧ i.key = some k ∧ f.body = .withdraw k (i.claimTally.getD 0) i.ref)

theorem TxFrame.ref_of_isClaimOf {f : TxFrame} {r r' : ItemRef} (h : f.isClaimOf r = true) (g : f.isClaimOf r' = true) : r = r' := by
  unfold TxFrame.isClaimOf at h g
  split at h
  next body =>
    rw [body] at g
    simp only [Bool.and_eq_true, decide_eq_true_eq] at h g
    exact h.1.symm.trans g.1
  next => cases h

theorem TxFrame.isClaimOf_takenBack (f : TxFrame) (r : ItemRef) : ({ f with takenBack := true } : TxFrame).isClaimOf r = false := by
  unfold TxFrame.isClaimOf
  split
  · exact Bool.and_false _
  · rfl

section leavesOf

variable {i : Item} {l kept : List TxFrame}

theorem Item.LeavesOf.sublist {p : TxFrame → Bool} (h : i.LeavesOf l kept)
    (claims : i.corr = .queued → ∀ f : TxFrame, f.isClaimOf i.ref = true → p f = false) : (l.filter p).Sublist kept := by
  rcases h with rfl | ⟨queued, rfl | rfl⟩
  · exact List.filter_sublist
  · have same : (l.filter p).map (fun g => if g.isClaimOf i.ref then { g with takenBack := true } else g) = l.filter p :=
      (List.map_congr_left (g := id) fun f listed => if_neg fun is => by
        simpa [claims queued f is] using (List.mem_filter.mp listed).2).trans (List.map_id _)
    rw [← same]
    exact List.filter_sublist.map _
  · have same : (l.filter p).eraseP (fun g => g.isClaimOf i.ref) = l.filter p :=
      List.eraseP_of_forall_not fun f listed is => by simpa [claims queued f is] using (List.mem_filter.mp listed).2
    rw [← same]
    exact List.filter_sublist.eraseP

theorem Item.LeavesOf.origin (h : i.LeavesOf l kept) {f : TxFrame} (listed : f ∈ kept) : f ∈ l ∨ ∃ g ∈ l, f = { g with takenBack := true } := by
  rcases h with rfl | ⟨-, rfl | rfl⟩
  · exact .inl listed
  · obtain ⟨g, there, rfl⟩ := List.mem_map.mp listed
    split
    · exact .inr ⟨g, there, rfl⟩
    · exact .inl there
  · exact .inl (List.mem_of_mem_eraseP listed)

theorem Item.LeavesOf.mem (h : i.LeavesOf l kept) {f : TxFrame} (listed : f ∈ l) (other : f.isClaimOf i.ref = false) : f ∈ kept := by
  rcases h with rfl | ⟨-, rfl | rfl⟩
  · exact listed
  · exact List.mem_map.mpr ⟨f, listed, by simp [other]⟩
  · exact (List.mem_eraseP_of_neg (by simp [other])).mpr listed

theorem filter_eraseP_of_disjoint {α : Type} {p q : α → Bool} (disjoint : ∀ a, q a = true → p a = false) (l : List α) :
    (l.eraseP q).filter p = l.filter p := by
  induction l with
  | nil => rfl
  | cons a l ih =>
    cases is : q a with
    | true => rw [List.eraseP_cons_of_pos is, List.filter_cons_of_neg (by simp [disjoint a is])]
    | false =>
      rw [List.eraseP_cons_of_neg (by simp [is]), List.filter_cons, ih, List.filter_cons]

/-- The CLAIMs of other items stay as they are. -/
theorem Item.LeavesOf.filter (h : i.LeavesOf l kept) {r : ItemRef} (other : i.corr = .queued → r ≠ i.ref) :
    kept.filter (fun g => g.isClaimOf r) = l.filter (fun g => g.isClaimOf r) := by
  rcases h with rfl | ⟨queued, rfl | rfl⟩
  · rfl
  · have stays (g : TxFrame) (_ : g ∈ l) : ((fun g => g.isClaimOf r) ∘ fun g : TxFrame =>
        if g.isClaimOf i.ref then { g with takenBack := true } else g) g = g.isClaimOf r := by
      dsimp only [Function.comp]
      split
      next is =>
        rw [TxFrame.isClaimOf_takenBack]
        exact (Bool.eq_false_iff.mpr fun no => other queued (TxFrame.ref_of_isClaimOf no is)).symm
      next => rfl
    refine (List.filter_map.trans (congrArg _ (List.filter_congr stays))).trans ?_
    refine (List.map_congr_left (g := id) fun g listed => if_neg fun is => ?_).trans (List.map_id _)
    exact other queued (TxFrame.ref_of_isClaimOf (List.mem_filter.mp listed).2 is)
  · exact filter_eraseP_of_disjoint (fun g is => Bool.eq_false_iff.mpr fun no => other queued (TxFrame.ref_of_isClaimOf no is)) l

end leavesOf

variable (s : Station)

/-- The end of an item's claim on the transmit queue. -/
theorem Station.restartClaim_txQueue (i : Item) :
    ∃ kept fs, (s.restartClaim i).link.txQueue = kept ++ fs ∧ i.LeavesOf s.link.txQueue kept ∧ ∀ f ∈ fs, s.Adds i f := by
  have withdraw (k : Key) (key : i.key = some k) (sent : i.settlingOrWaiting = true) :
      ∃ kept fs, (s.offerWithdraw k (i.claimTally.getD 0) i.ref).link.txQueue = kept ++ fs ∧ i.LeavesOf s.link.txQueue kept ∧ ∀ f ∈ fs, s.Adds i f := by
    obtain ⟨fs, queue, kind⟩ := Station.offerNotice_sends (P := s.Adds i)
      { s with claims := { s.claims with counts := { s.claims.counts with withdrawals := s.claims.counts.withdrawals + 1 } } }
      (b := .withdraw k (i.claimTally.getD 0) i.ref) ⟨rfl, .inr ⟨k, sent, key, rfl⟩⟩
    exact ⟨_, fs, queue, .inl rfl, kind⟩
  have taken (corr : i.corr = .queued) :
      ∃ kept fs, (s.takeBack i.ref true).link.txQueue = kept ++ fs ∧ i.LeavesOf s.link.txQueue kept ∧ ∀ f ∈ fs, s.Adds i f := by
    unfold Station.takeBack
    split
    · exact ⟨_, [], (List.append_nil _).symm, .inl rfl, fun _ no => absurd no List.not_mem_nil⟩
    · split
      · exact ⟨_, [], (List.append_nil _).symm, .inr ⟨corr, .inl rfl⟩, fun _ no => absurd no List.not_mem_nil⟩
      · obtain ⟨fs, queue, kind⟩ := Station.roomReport_sends
          { s with link := { s.link with txQueue := s.link.txQueue.eraseP (fun g => g.isClaimOf i.ref) } } true
        exact ⟨_, fs, queue, .inr ⟨corr, .inr rfl⟩, fun f listed => ⟨(kind f listed).1, .inl (kind f listed)⟩⟩
  unfold Station.restartClaim
  split
  next corr => exact taken corr
  next corr key => exact withdraw _ key (by simp [Item.settlingOrWaiting, corr])
  next corr key => exact withdraw _ key (by simp [Item.settlingOrWaiting, corr])
  next => exact ⟨_, [], (List.append_nil _).symm, .inl rfl, fun _ no => absurd no List.not_mem_nil⟩

/-! ### The frames after all of them -/

/-- What an item's claim adds on the way is what a lane restart may add. -/
theorem Station.Adds.offers {s u : Station} {i : Item} {f : TxFrame} (h : u.Adds i f) (cleared : s.Clears u) (listed : i ∈ s.lane.queue) :
    s.restartOffers f.body := by
  obtain ⟨-, ⟨-, held | ⟨no, -⟩ | ⟨waits, announce⟩⟩ | ⟨k, sent, key, withdraw⟩⟩ := h
  · refine .inl ?_
    rcases cleared.slot with same | ⟨gone, -⟩
    · exact same.symm.trans held
    · exact absurd (gone.symm.trans held) nofun
  · cases no
  · refine .inr (.inr (.inl ⟨?_, ?_⟩))
    · rcases cleared.announce with same | ⟨before, -⟩
      · exact same.symm.trans waits
      · exact before
    · obtain ⟨settings, -⟩ := cleared.frame .settings (by decide)
      have tally : u.claims.tally = s.claims.tally := cleared.frame .tally (by decide)
      rw [announce, tally, Station.cfg, settings, Station.cfg]
  · exact .inr (.inl ⟨i, listed, k, sent, key, withdraw⟩)

/-- A frame of the queue after the claims: one of the queue before, one of those marked taken back, or one the restart offers. -/
def Station.RestartFrame (s : Station) (f : TxFrame) : Prop :=
  f ∈ s.link.txQueue ∨ (∃ g ∈ s.link.txQueue, f = { g with takenBack := true }) ∨
    (s.restartOffers f.body ∧ f = ⟨f.body, 0, .ready, f.takenBack⟩)

theorem Station.RestartFrame.takenBack {s : Station} {f : TxFrame} (h : s.RestartFrame f) : s.RestartFrame { f with takenBack := true } := by
  rcases h with listed | ⟨g, listed, rfl⟩ | ⟨offers, is⟩
  · exact .inr (.inl ⟨f, listed, rfl⟩)
  · exact .inr (.inl ⟨g, listed, rfl⟩)
  · exact .inr (.inr ⟨offers, by rw [is]⟩)

theorem Station.restartClaims_added : ∀ f ∈ (s.lane.queue.foldl Station.restartClaim s).link.txQueue, s.RestartFrame f := by
  have both : s.Clears (s.lane.queue.foldl Station.restartClaim s) ∧
      ∀ f ∈ (s.lane.queue.foldl Station.restartClaim s).link.txQueue, s.RestartFrame f := by
    refine s.lane.queue.foldlRecOn Station.restartClaim (motive := fun u => s.Clears u ∧ ∀ f ∈ u.link.txQueue, s.RestartFrame f)
      ⟨.refl s, fun _ => .inl⟩ fun u held i listed => ?_
    obtain ⟨cleared, added⟩ := held
    obtain ⟨kept, fs, queue, leaves, adds⟩ := u.restartClaim_txQueue i
    refine ⟨cleared.trans (u.restartClaim_clears i), fun f there => ?_⟩
    rw [queue] at there
    rcases List.mem_append.mp there with old | new
    · rcases leaves.origin old with before | ⟨g, before, rfl⟩
      · exact added f before
      · exact (added g before).takenBack
    · obtain ⟨is, -⟩ := adds f new
      exact .inr (.inr ⟨(adds f new).offers cleared listed, by rw [is]⟩)
  exact both.2

/-- A CLAIM of a QUEUED item is one that waits. -/
theorem Station.claimWaits_of {i : Item} {f : TxFrame} (listed : i ∈ s.lane.queue) (queued : i.corr = .queued) (claim : f.isClaimOf i.ref = true) :
    s.claimWaits f = true := List.any_eq_true.mpr ⟨i, listed, by simp [queued, claim]⟩

theorem Station.restartClaims_kept :
    (s.link.txQueue.filter (fun f => !s.claimWaits f)).Sublist (s.lane.queue.foldl Station.restartClaim s).link.txQueue := by
  refine s.lane.queue.foldlRecOn Station.restartClaim (motive := fun u =>
    (s.link.txQueue.filter (fun f => !s.claimWaits f)).Sublist u.link.txQueue) List.filter_sublist fun u held i listed => ?_
  obtain ⟨kept, fs, queue, leaves, -⟩ := u.restartClaim_txQueue i
  have again := held.filter (fun f => !s.claimWaits f)
  rw [List.filter_filter, List.filter_congr (q := fun f => !s.claimWaits f) fun f _ => Bool.and_self _] at again
  rw [queue]
  exact (again.trans (leaves.sublist fun queued f claim => by simp [s.claimWaits_of listed queued claim])).trans (List.sublist_append_left _ _)

/-! ### The CLAIM of one item -/

/-- The one CLAIM of an item has been taken back: marked where it was ON LINE, and else gone. -/
def ClaimTakenBack (r : ItemRef) (f : TxFrame) (l : List TxFrame) : Prop :=
  if f.standing = .onLine then { f with takenBack := true } ∈ l else ∀ g ∈ l, g.isClaimOf r = false

theorem Station.Adds.not_isClaimOf {s : Station} {i : Item} {f : TxFrame} (h : s.Adds i f) (empty : s.records.overflow = none) (r : ItemRef) :
    f.isClaimOf r = false := by
  obtain ⟨-, room | ⟨k, -, -, withdraw⟩⟩ := h
  · exact room.not_isClaimOf fun b held => absurd (empty.symm.trans held) nofun
  · exact f.not_isClaimOf_of_cls r (by rw [withdraw]; exact nofun)

theorem Station.restartClaim_takenBack {r : ItemRef} {f : TxFrame} (i : Item) (done : ClaimTakenBack r f s.link.txQueue)
    (empty : s.records.overflow = none) : ClaimTakenBack r f (s.restartClaim i).link.txQueue := by
  obtain ⟨kept, fs, queue, leaves, adds⟩ := s.restartClaim_txQueue i
  unfold ClaimTakenBack at done ⊢
  rw [queue]
  split
  next onLine =>
    rw [if_pos onLine] at done
    exact List.mem_append_left _ (leaves.mem done (f.isClaimOf_takenBack _))
  next waits =>
    rw [if_neg waits] at done
    intro g listed
    rcases List.mem_append.mp listed with old | new
    · rcases leaves.origin old with before | ⟨h, -, rfl⟩
      · exact done g before
      · exact h.isClaimOf_takenBack r
    · exact (adds g new).not_isClaimOf empty r

/-- The one CLAIM of an item stays, or is taken back, through the end of any item's claim. -/
theorem Station.restartClaim_claim {r : ItemRef} {f : TxFrame} (i : Item) (only : s.link.txQueue.filter (fun g => g.isClaimOf r) = [f])
    (empty : s.records.overflow = none) :
    (s.restartClaim i).link.txQueue.filter (fun g => g.isClaimOf r) = [f] ∧ (i.corr = .queued → r ≠ i.ref) ∨
      ClaimTakenBack r f (s.restartClaim i).link.txQueue := by
  by_cases own : i.corr = .queued ∧ r = i.ref
  · obtain ⟨queued, rfl⟩ := own
    have taken := s.takeBack_claim true only
    have is : s.restartClaim i = s.takeBack i.ref true := by rw [Station.restartClaim, queued]
    refine .inr ?_
    unfold ClaimTakenBack
    rw [is]
    split
    next onLine => rwa [if_pos onLine] at taken
    next waits =>
      rw [if_neg waits] at taken
      exact taken fun b held => absurd (empty.symm.trans held) nofun
  · obtain ⟨kept, fs, queue, leaves, adds⟩ := s.restartClaim_txQueue i
    have other : i.corr = .queued → r ≠ i.ref := fun queued same => own ⟨queued, same⟩
    refine .inl ⟨?_, other⟩
    rw [queue, List.filter_append, leaves.filter other, only,
      List.filter_eq_nil_iff.mpr fun g listed => by simp [(adds g listed).not_isClaimOf empty r], List.append_nil]

theorem Station.restartClaims_claim {r : ItemRef} {f : TxFrame} {i : Item} {l : List Item} (listed : i ∈ l) (queued : i.corr = .queued)
    (own : i.ref = r) : ∀ s : Station, s.records.overflow = none →
      (s.link.txQueue.filter (fun g => g.isClaimOf r) = [f] ∨ ClaimTakenBack r f s.link.txQueue) →
      ClaimTakenBack r f (l.foldl Station.restartClaim s).link.txQueue := by
  have stays (l : List Item) (s : Station) (empty : s.records.overflow = none) (done : ClaimTakenBack r f s.link.txQueue) :
      ClaimTakenBack r f (l.foldl Station.restartClaim s).link.txQueue :=
    (l.foldlRecOn Station.restartClaim (motive := fun u => u.records.overflow = none ∧ ClaimTakenBack r f u.link.txQueue) ⟨empty, done⟩
      fun u held j _ => ⟨(u.restartClaim_clears j).noSlot held.1, u.restartClaim_takenBack j held.2 held.1⟩).2
  induction l with
  | nil => cases listed
  | cons a l ih =>
    intro s empty still
    have emptyToo := (s.restartClaim_clears a).noSlot empty
    rcases still with only | done
    · rcases s.restartClaim_claim a only empty with ⟨only, other⟩ | done
      · rcases List.mem_cons.mp listed with rfl | later
        · exact absurd own.symm (other queued)
        · exact ih later _ emptyToo (.inl only)
      · exact stays l _ emptyToo done
    · exact stays l _ emptyToo (s.restartClaim_takenBack a done empty)

end Sys2Proof.Machine
end

section
/-! SUPPORT. The claims of the items a lane restart removes, counted and in order; the summary of the context it closes (R80, R89). -/

namespace Sys2Proof.Machine

variable (s : Station)

/-! ### Counts and room -/

theorem Station.restartClaim_counts (i : Item) : (s.restartClaim i).claims.counts = { s.claims.counts with
    withdrawals := s.claims.counts.withdrawals + if i.key.isSome && i.settlingOrWaiting then 1 else 0 } := by
  have offered (k : Key) : (s.offerWithdraw k (i.claimTally.getD 0) i.ref).claims.counts =
      { s.claims.counts with withdrawals := s.claims.counts.withdrawals + 1 } :=
    Station.offerNotice_changes _ _ .claimCounts (by decide)
  unfold Station.restartClaim
  split
  next queued =>
    have idle : i.settlingOrWaiting = false := by simp [Item.settlingOrWaiting, queued]
    rw [idle, Bool.and_false]
    exact (s.takeBack_changes _ true .claimCounts (by decide)).trans (by simp)
  next settles key => rw [offered]; simp [Item.settlingOrWaiting, settles, key]
  next waits key => rw [offered]; simp [Item.settlingOrWaiting, waits, key]
  next queued settles waits =>
    have idle : (i.key.isSome && i.settlingOrWaiting) = false := by
      cases key : i.key with
      | none => rfl
      | some k =>
        cases corr : i.corr with
        | settling d => exact absurd key (settles d k corr)
        | waiting => exact absurd key (waits k corr)
        | _ => simp [Item.settlingOrWaiting, corr]
    simp [idle]

theorem Station.restartClaims_counts (l : List Item) : ∀ s : Station, (l.foldl Station.restartClaim s).claims.counts = { s.claims.counts with
    withdrawals := s.claims.counts.withdrawals + BitVec.ofNat 16 (l.countP fun i => i.key.isSome && i.settlingOrWaiting) } := by
  induction l with
  | nil => intro s; simp
  | cons i l ih =>
    intro s
    rw [List.foldl_cons, ih, s.restartClaim_counts, List.countP_cons]
    cases i.key.isSome && i.settlingOrWaiting with
    | true => simp [BitVec.ofNat_add, BitVec.add_assoc, BitVec.add_comm]
    | false => simp

/-- With an empty slot, no ANNOUNCE waiting and room, the end of a claim changes no record and no link count, and its WITHDRAW joins. -/
theorem Station.restartClaim_room (i : Item) (empty : s.records.overflow = none) (noAnnounce : s.startup.announce ≠ .waiting)
    (room : s.link.txQueue.length < 16) :
    (s.restartClaim i).records = s.records ∧ (s.restartClaim i).link.counts = s.link.counts ∧ (s.restartClaim i).startup = s.startup ∧
    (s.restartClaim i).link.txQueue.length ≤ s.link.txQueue.length + 1 ∧
    (i.settlingOrWaiting = true → ∀ k, i.key = some k →
      ⟨.withdraw k (i.claimTally.getD 0) i.ref, 0, .ready, false⟩ ∈ (s.restartClaim i).link.txQueue) := by
  have offered (k : Key) : s.offerWithdraw k (i.claimTally.getD 0) i.ref =
      { s with claims := { s.claims with counts := { s.claims.counts with withdrawals := s.claims.counts.withdrawals + 1 } } }.txPush
        (.withdraw k (i.claimTally.getD 0) i.ref) := (Station.offerNotice_eq _ _).trans (if_pos room)
  have joins (k : Key) (key : i.key = some k) :
      (s.offerWithdraw k (i.claimTally.getD 0) i.ref).records = s.records ∧ (s.offerWithdraw k (i.claimTally.getD 0) i.ref).link.counts = s.link.counts ∧
      (s.offerWithdraw k (i.claimTally.getD 0) i.ref).startup = s.startup ∧
      (s.offerWithdraw k (i.claimTally.getD 0) i.ref).link.txQueue.length ≤ s.link.txQueue.length + 1 ∧
      (i.settlingOrWaiting = true → ∀ k', i.key = some k' →
        ⟨.withdraw k' (i.claimTally.getD 0) i.ref, 0, .ready, false⟩ ∈ (s.offerWithdraw k (i.claimTally.getD 0) i.ref).link.txQueue) := by
    rw [offered]
    refine ⟨rfl, rfl, rfl, by simp, fun _ k' key' => ?_⟩
    cases key.symm.trans key'
    exact List.mem_append_right _ (List.mem_singleton_self _)
  unfold Station.restartClaim
  split
  next queued =>
    have idle : i.settlingOrWaiting = false := by simp [Item.settlingOrWaiting, queued]
    unfold Station.takeBack
    split
    · exact ⟨rfl, rfl, rfl, by simp, fun no => absurd (idle.symm.trans no) (by decide)⟩
    · split
      · exact ⟨rfl, rfl, rfl, by simp, fun no => absurd (idle.symm.trans no) (by decide)⟩
      · rw [Station.roomReport_of_none _ true (by exact empty) (by exact noAnnounce)]
        exact ⟨rfl, rfl, rfl, (List.length_eraseP_le).trans (Nat.le_succ _), fun no => absurd (idle.symm.trans no) (by decide)⟩
  next k _ key => exact joins k key
  next k _ key => exact joins k key
  next queued settles waits =>
    refine ⟨rfl, rfl, rfl, by simp, fun sent k key => ?_⟩
    cases corr : i.corr with
    | settling d => exact absurd key (settles d k corr)
    | waiting => exact absurd key (waits k corr)
    | _ => simp [Item.settlingOrWaiting, corr] at sent

theorem Station.restartClaims_room (l : List Item) : ∀ s : Station, s.records.overflow = none → s.startup.announce ≠ .waiting →
    s.link.txQueue.length + l.length < 16 →
    (l.foldl Station.restartClaim s).records = s.records ∧ (l.foldl Station.restartClaim s).link.counts = s.link.counts ∧
    (l.foldl Station.restartClaim s).link.txQueue.length < 16 ∧
    ∀ i ∈ l, i.settlingOrWaiting = true → ∀ k, i.key = some k →
      ⟨.withdraw k (i.claimTally.getD 0) i.ref, 0, .ready, false⟩ ∈ (l.foldl Station.restartClaim s).link.txQueue := by
  induction l with
  | nil => exact fun s _ _ room => ⟨rfl, rfl, room, fun _ no => absurd no List.not_mem_nil⟩
  | cons a l ih =>
    intro s empty noAnnounce room
    rw [List.length_cons] at room
    obtain ⟨records, counts, startup, longer, joins⟩ := s.restartClaim_room a empty noAnnounce (by omega)
    obtain ⟨recordsToo, countsToo, roomToo, joinsToo⟩ := ih (s.restartClaim a) (by rw [records]; exact empty) (by rw [startup]; exact noAnnounce) (by omega)
    refine ⟨recordsToo.trans records, countsToo.trans counts, roomToo, fun i listed sent k key => ?_⟩
    rcases List.mem_cons.mp listed with rfl | later
    · exact (Station.restartClaims_clears _ l).keeps _ (joins sent k key) nofun
    · exact joinsToo i later sent k key

/-- An item with no claim in flight changes nothing. -/
theorem Station.restartClaims_idle {l : List Item} (idle : ∀ i ∈ l, i.corr ≠ .queued ∧ i.settlingOrWaiting = false) :
    l.foldl Station.restartClaim s = s := by
  refine l.foldlRecOn Station.restartClaim (motive := fun u => u = s) rfl fun u same i listed => ?_
  obtain ⟨notQueued, notSent⟩ := idle i listed
  rw [← same, Station.restartClaim]
  split
  next queued => exact absurd queued notQueued
  next settles _ => simp [Item.settlingOrWaiting, settles] at notSent
  next waits _ => simp [Item.settlingOrWaiting, waits] at notSent
  next => rfl

/-- Where every CLAIM of the removed items is ON LINE, no room comes about and the slot stays as it is. -/
theorem Station.restartClaims_slotKept (onLine : ∀ f ∈ s.link.txQueue, s.claimWaits f = true → f.standing = .onLine) :
    (s.lane.queue.foldl Station.restartClaim s).records.overflow = s.records.overflow := by
  refine (s.lane.queue.foldlRecOn Station.restartClaim (motive := fun u => u.records.overflow = s.records.overflow ∧
    ∀ f ∈ u.link.txQueue, s.claimWaits f = true → f.standing = .onLine) ⟨rfl, onLine⟩ fun u held i listed => ?_).1
  obtain ⟨slot, still⟩ := held
  have offered (k : Key) : (u.offerWithdraw k (i.claimTally.getD 0) i.ref).records.overflow = s.records.overflow ∧
      ∀ f ∈ (u.offerWithdraw k (i.claimTally.getD 0) i.ref).link.txQueue, s.claimWaits f = true → f.standing = .onLine := by
    refine ⟨(u.offerWithdraw_changes k _ _ .overflow (by decide)).trans slot, fun f there claim => ?_⟩
    rcases (Station.offerNotice_sends (P := fun f => f.body.cls ≠ .claim) _ (b := .withdraw k (i.claimTally.getD 0) i.ref) nofun).origin there with old | new
    · exact still f old claim
    · obtain ⟨j, -, is⟩ := List.any_eq_true.mp claim
      simp [f.not_isClaimOf_of_cls _ new] at is
  unfold Station.restartClaim
  split
  next queued =>
    unfold Station.takeBack
    split
    · exact ⟨slot, still⟩
    next f found =>
      have claim := List.find?_some found
      rw [if_pos (still f (List.mem_of_find?_eq_some found) (s.claimWaits_of listed queued claim))]
      refine ⟨slot, fun g there waits => ?_⟩
      obtain ⟨h, before, rfl⟩ := List.mem_map.mp there
      split at waits
      · obtain ⟨j, -, is⟩ := List.any_eq_true.mp waits
        simp [h.isClaimOf_takenBack] at is
      next other => rw [if_neg other]; exact still h before waits
  · exact offered _
  · exact offered _
  · exact ⟨slot, still⟩

/-! ### The summary -/

theorem Station.offerRecord_eq (b : Body) : s.offerRecord b =
    if s.link.txQueue.length < 16 then s.txPush b
    else if s.records.overflow = none then { s with records := { s.records with overflow := some b } }
    else { s with records := { s.records with counts := { s.records.counts with lost := s.records.counts.lost + 1 } } } := by
  unfold Station.offerRecord Station.placing
  by_cases room : s.link.txQueue.length < 16
  · rw [if_pos room, if_pos (s.txRoom_iff.mpr room)]
  · rw [if_neg room, if_neg (mt s.txRoom_iff.mp room)]
    by_cases empty : s.records.overflow = none
    · rw [if_pos empty, if_pos empty]
    · rw [if_neg empty, if_neg empty]

/-- The summary of a context that closes: into the queue, else the empty slot, else lost. -/
theorem Station.closeContext_of_ready {c : Consignment} (cause : EndCause) (open_ : s.tracker.context = some c) (ready : s.startup.state ≠ .listenOnly) :
    (s.link.txQueue.length < 16 → (s.closeContext cause).link.txQueue = s.link.txQueue ++ [⟨.summary (c.summary cause), 0, .ready, false⟩] ∧
      (s.closeContext cause).records = s.records) ∧
    (¬ s.link.txQueue.length < 16 → (s.closeContext cause).link.txQueue = s.link.txQueue ∧ (s.closeContext cause).records =
      if s.records.overflow = none then { s.records with overflow := some (.summary (c.summary cause)) }
      else { s.records with counts := { s.records.counts with lost := s.records.counts.lost + 1 } }) := by
  have is : s.closeContext cause = { s with tracker := { s.tracker with context := none } }.offerRecord (.summary (c.summary cause)) := by
    rw [s.closeContext_of_open cause open_, Station.buildRecord, if_neg (mt (Station.listening_iff _).mp (by exact ready))]
  rw [is, Station.offerRecord_eq]
  refine ⟨fun room => ?_, fun full => ?_⟩
  · rw [if_pos (by exact room)]
    exact ⟨rfl, rfl⟩
  · rw [if_neg (by exact full)]
    show _ ∧ (if s.records.overflow = none then _ else _ : Station).records = _
    split
    next => exact ⟨rfl, rfl⟩
    next => exact ⟨rfl, rfl⟩

theorem Station.closeContext_of_idle (cause : EndCause) (idle : s.tracker.context = none ∨ s.startup.state = .listenOnly) :
    (s.closeContext cause).link.txQueue = s.link.txQueue ∧ (s.closeContext cause).records = s.records := by
  unfold Station.closeContext
  split
  · exact ⟨rfl, rfl⟩
  next c open_ =>
    rcases idle with none | listens
    · exact absurd (open_.symm.trans none) nofun
    · rw [Station.buildRecord, if_pos ((Station.listening_iff _).mpr (by exact listens))]
      exact ⟨rfl, rfl⟩

end Sys2Proof.Machine
end

section
/-! PROOF. The statement on the lane restart (R188, R189): what the end of the claims leaves, then the summary, then the blocks reset. -/

namespace Sys2Proof.Machine

/-! ### Pieces kept -/

section kept

variable {x t : Station}

theorem link_but_queues (line : Block.line.same x t) (generator : Block.generator.same x t) (gate : Block.gate.same x t) :
    t.link = { x.link with txQueue := t.link.txQueue, rxQueue := t.link.rxQueue, counts := t.link.counts } := by
  cases h : t.link
  cases g : x.link
  simp only [Block.same, h, g] at line generator gate
  obtain ⟨sending, holding, chain, lineIdle, reception⟩ := line
  rw [sending, holding, chain, lineIdle, reception, generator, gate]

theorem startup_but_announce (state : Block.stationState.same x t) (settings : Block.settings.same x t) (timer : Block.joinTimer.same x t) :
    t.startup = { x.startup with announce := t.startup.announce, restartInput := t.startup.restartInput } := by
  cases h : t.startup
  cases g : x.startup
  simp only [Block.same, h, g] at state settings timer
  obtain ⟨values, id, port⟩ := settings
  rw [state, values, id, port, timer]

theorem measurement_restarted (tare : Block.tare.same x t) (factor : Block.factor.same x t) (counts : Block.measureCounts.same x t) :
    t.measurement.restarted = x.measurement.restarted := by
  obtain ⟨value, run⟩ := tare
  unfold Measurement.restarted
  rw [value, run, show t.measurement.factor = x.measurement.factor from factor, show t.measurement.counts = x.measurement.counts from counts]

end kept

variable (s : Station)

/-! ### The steps of a lane restart -/

/-- The station with the claims of its items ended. -/
def Station.claimsEnded (s : Station) : Station := s.lane.queue.foldl Station.restartClaim s

theorem Station.claimsEnded_clears : s.Clears s.claimsEnded := s.restartClaims_clears _

/-- The station with the claims ended, the lane emptied and the context closed. -/
def Station.laneEnded (s : Station) : Station := s.claimsEnded.removeOwnClaims.clearLane.closeContext .interrupted

theorem Station.laneRestart_eq : s.laneRestart = { s.laneEnded with
    receivers := PerHead.same Receiver.restarted, measurement := s.laneEnded.measurement.restarted } := rfl

/-- The summary of the open context, as a lane restart offers it. -/
def Station.offersSummary (s : Station) (f : TxFrame) : Prop :=
  s.startup.state ≠ .listenOnly ∧ ∃ c, s.tracker.context = some c ∧ f = ⟨.summary (c.summary .interrupted), 0, .ready, false⟩

/-- The end of the claims leaves context and station state, which the summary goes by. -/
theorem Station.claimsEnded_context : s.claimsEnded.tracker.context = s.tracker.context ∧ s.claimsEnded.startup.state = s.startup.state :=
  ⟨s.claimsEnded_clears.frame .context (by decide), s.claimsEnded_clears.frame .stationState (by decide)⟩

theorem Station.laneEnded_sends : s.claimsEnded.Sends s.offersSummary s.laneEnded := by
  obtain ⟨context, state⟩ := s.claimsEnded_context
  by_cases ready : s.startup.state = .listenOnly
  · exact .of_queue (Station.closeContext_of_idle _ .interrupted (.inr (by exact state.trans ready))).1
  · cases open_ : s.tracker.context with
    | none => exact .of_queue (Station.closeContext_of_idle _ .interrupted (.inl (by exact context.trans open_))).1
    | some c =>
      rw [Station.laneEnded, Station.closeContext_of_open _ .interrupted (by exact context.trans open_)]
      exact (Station.Sends.of_queue (t := { s.claimsEnded.removeOwnClaims.clearLane with
        tracker := { s.claimsEnded.removeOwnClaims.clearLane.tracker with context := none } }) rfl).trans
        (Station.buildRecord_sends _ ⟨ready, c, open_, rfl⟩)

/-- What the summary does with the records. -/
theorem Station.laneEnded_records : s.laneEnded.records = s.claimsEnded.records ∨
    ∃ c, s.tracker.context = some c ∧
      (s.claimsEnded.records.overflow = none ∧
        s.laneEnded.records = { s.claimsEnded.records with overflow := some (.summary (c.summary .interrupted)) } ∨
      s.claimsEnded.records.overflow ≠ none ∧ s.laneEnded.records =
        { s.claimsEnded.records with counts := { s.claimsEnded.records.counts with lost := s.claimsEnded.records.counts.lost + 1 } }) := by
  obtain ⟨context, state⟩ := s.claimsEnded_context
  by_cases ready : s.startup.state = .listenOnly
  · exact .inl (Station.closeContext_of_idle _ .interrupted (.inr (by exact state.trans ready))).2
  · cases open_ : s.tracker.context with
    | none => exact .inl (Station.closeContext_of_idle _ .interrupted (.inl (by exact context.trans open_))).2
    | some c =>
      obtain ⟨room, full⟩ := s.claimsEnded.removeOwnClaims.clearLane.closeContext_of_ready .interrupted (by exact context.trans open_)
        (by rw [← state] at ready; exact ready)
      by_cases place : s.claimsEnded.link.txQueue.length < 16
      · exact .inl (room place).2
      · refine .inr ⟨c, rfl, ?_⟩
        have records := (full place).2
        by_cases empty : s.claimsEnded.records.overflow = none
        · exact .inl ⟨empty, records.trans (if_pos empty)⟩
        · exact .inr ⟨empty, records.trans (if_neg empty)⟩

theorem Station.laneEnded_changes : Changes [.items, .entries, .sensorOwner, .diverter, .context, .txQueue, .overflow, .recordCounts]
    s.claimsEnded s.laneEnded :=
  (((Station.removeOwnClaims_changes _).then (Station.clearLane_changes _) rfl rfl :
    Changes [.items, .entries, .sensorOwner, .diverter] s.claimsEnded _).then (Station.closeContext_changes _ .interrupted) rfl rfl)

/-- Every frame in the queue after the claims have ended is there after the restart. -/
theorem Station.mem_laneRestart {f : TxFrame} (listed : f ∈ s.claimsEnded.link.txQueue) : f ∈ s.laneRestart.link.txQueue := by
  rw [s.laneRestart_eq]
  exact s.laneEnded_sends.mem listed

/-! ### The blocks -/

theorem Station.laneRestart_table : s.laneRestart.table =
    { s.table with entries := s.table.entries.map (Entry.removeClaims (fun c => c.own)) } := by
  have before : s.claimsEnded.table = s.table :=
    table_of_same (s.claimsEnded_clears.frame .entries (by decide)) (s.claimsEnded_clears.frame .tableCounts (by decide))
  have close := Station.closeContext_changes s.claimsEnded.removeOwnClaims.clearLane .interrupted
  have after : s.laneEnded.table = s.claimsEnded.removeOwnClaims.clearLane.table :=
    table_of_same (close .entries (by decide)) (close .tableCounts (by decide))
  show s.laneEnded.table = _
  rw [after, ← before]
  rfl

theorem Station.laneRestart_claims : s.laneRestart.claims = { s.claims with counts := { s.claims.counts with
    withdrawals := s.claims.counts.withdrawals +
      BitVec.ofNat 16 (s.lane.queue.countP (fun i => i.key.isSome && i.settlingOrWaiting)) } } := by
  have after : s.laneEnded.claims = s.claimsEnded.claims :=
    claims_of_same (s.laneEnded_changes .tally (by decide)) (s.laneEnded_changes .claimCounts (by decide))
  have tally : s.claimsEnded.claims.tally = s.claims.tally := s.claimsEnded_clears.frame .tally (by decide)
  have counts : s.claimsEnded.claims.counts = _ := Station.restartClaims_counts s.lane.queue s
  show s.laneEnded.claims = _
  rw [after]
  exact congrArg₂ ClaimEngine.mk tally counts

theorem Station.laneRestart_tracker : s.laneRestart.tracker = { s.tracker with context := none } := by
  have frame := s.laneRestart_changes
  obtain ⟨matched, issued⟩ := frame .trackerCounts (by decide)
  have closed : s.laneRestart.tracker.context = none := Station.closeContext_context _ .interrupted
  rw [show s.laneRestart.tracker = ⟨s.laneRestart.tracker.context, s.laneRestart.tracker.matches_, s.laneRestart.tracker.issued⟩ from rfl,
    closed, matched, issued]

/-! ### The statement's parts -/

theorem Station.laneRestart_added : ∀ f ∈ s.laneRestart.link.txQueue, s.RestartFrame f := by
  intro f listed
  rcases s.laneEnded_sends.origin listed with before | ⟨ready, c, open_, is⟩
  · exact s.restartClaims_added f before
  · exact .inr (.inr ⟨.inr (.inr (.inr ⟨ready, c, open_, by rw [is]⟩)), by rw [is]⟩)

theorem Station.laneRestart_takenBack (empty : s.records.overflow = none) {i : Item} (listed : i ∈ s.lane.queue) (queued : i.corr = .queued)
    {f : TxFrame} (only : s.link.txQueue.filter (fun g => g.isClaimOf i.ref) = [f]) : ClaimTakenBack i.ref f s.laneRestart.link.txQueue := by
  have done : ClaimTakenBack i.ref f s.claimsEnded.link.txQueue := Station.restartClaims_claim listed queued rfl s empty (.inl only)
  unfold ClaimTakenBack at done ⊢
  split
  next onLine =>
    rw [if_pos onLine] at done
    exact s.mem_laneRestart done
  next waits =>
    rw [if_neg waits] at done
    intro g there
    rcases s.laneEnded_sends.origin there with before | ⟨-, c, -, is⟩
    · exact done g before
    · rw [is]
      rfl

theorem Station.laneRestart_slot {b : Body} (held : s.records.overflow = some b) (kind : b.cls ≠ .claim) :
    s.laneRestart.records.overflow = some b ∨ ⟨b, 0, .ready, false⟩ ∈ s.laneRestart.link.txQueue := by
  rcases s.claimsEnded_clears.slot with same | ⟨-, moved⟩
  · refine .inl ?_
    have still := same.trans held
    show s.laneEnded.records.overflow = some b
    rcases s.laneEnded_records with records | ⟨c, -, ⟨empty, -⟩ | ⟨-, records⟩⟩
    · rw [records]
      exact still
    · exact absurd (still.symm.trans empty) nofun
    · rw [records]
      exact still
  · exact .inr (s.mem_laneRestart (moved b held kind))

theorem Station.laneRestart_slotKept (onLine : ∀ f ∈ s.link.txQueue, s.claimWaits f = true → f.standing = .onLine) {b : Body}
    (held : s.records.overflow = some b) : s.laneRestart.records.overflow = some b := by
  have still : s.claimsEnded.records.overflow = some b := (s.restartClaims_slotKept onLine).trans held
  show s.laneEnded.records.overflow = some b
  rcases s.laneEnded_records with records | ⟨c, -, ⟨empty, -⟩ | ⟨-, records⟩⟩
  · rw [records]
    exact still
  · exact absurd (still.symm.trans empty) nofun
  · rw [records]
    exact still

theorem Station.laneRestart_slotEmpty (empty : s.records.overflow = none) : s.laneRestart.records.overflow = none ∨
    ∃ c, s.tracker.context = some c ∧ s.laneRestart.records.overflow = some (.summary (c.summary .interrupted)) := by
  have still := s.claimsEnded_clears.noSlot empty
  show s.laneEnded.records.overflow = none ∨ ∃ c, _ ∧ s.laneEnded.records.overflow = _
  rcases s.laneEnded_records with records | ⟨c, open_, ⟨-, records⟩ | ⟨full, -⟩⟩
  · exact .inl (by rw [records]; exact still)
  · exact .inr ⟨c, open_, by rw [records]⟩
  · exact absurd still full

theorem Station.laneRestart_recordCounts : s.laneRestart.records.counts = s.records.counts ∨
    (s.tracker.context.isSome ∧ s.laneRestart.records.counts = { s.records.counts with lost := s.records.counts.lost + 1 }) := by
  have before : s.claimsEnded.records.counts = s.records.counts := s.claimsEnded_clears.frame .recordCounts (by decide)
  show s.laneEnded.records.counts = _ ∨ _ ∧ s.laneEnded.records.counts = _
  rcases s.laneEnded_records with records | ⟨c, open_, ⟨-, records⟩ | ⟨-, records⟩⟩
  · exact .inl (by rw [records, before])
  · exact .inl (by rw [records, before])
  · exact .inr ⟨by rw [open_]; rfl, by rw [records, before]⟩

/-- With an empty slot, no ANNOUNCE waiting and room for every frame, records and link counts stay, and the summary and every WITHDRAW join. -/
theorem Station.laneRestart_room (empty : s.records.overflow = none) (noAnnounce : s.startup.announce ≠ .waiting)
    (room : s.link.txQueue.length + s.lane.queue.length < 16) :
    (s.laneRestart.records = s.records ∧ s.laneRestart.link.counts = s.link.counts) ∧
    (∀ i ∈ s.lane.queue, i.settlingOrWaiting = true → ∀ k, i.key = some k →
      ⟨.withdraw k (i.claimTally.getD 0) i.ref, 0, .ready, false⟩ ∈ s.laneRestart.link.txQueue) ∧
    (s.startup.state ≠ .listenOnly → ∀ c, s.tracker.context = some c →
      ⟨.summary (c.summary .interrupted), 0, .ready, false⟩ ∈ s.laneRestart.link.txQueue) := by
  obtain ⟨context, state⟩ := s.claimsEnded_context
  obtain ⟨records, counts, place, joins⟩ := Station.restartClaims_room s.lane.queue s empty noAnnounce room
  have countsToo : s.laneRestart.link.counts = s.claimsEnded.link.counts := s.laneEnded_changes .linkCounts (by decide)
  have summary (ready : s.startup.state ≠ .listenOnly) (c : Consignment) (open_ : s.tracker.context = some c) :
      s.laneEnded.link.txQueue = s.claimsEnded.link.txQueue ++ [⟨.summary (c.summary .interrupted), 0, .ready, false⟩] ∧
        s.laneEnded.records = s.claimsEnded.records :=
    (Station.closeContext_of_ready s.claimsEnded.removeOwnClaims.clearLane .interrupted (by exact context.trans open_)
      (by rw [← state] at ready; exact ready)).1 place
  refine ⟨⟨?_, countsToo.trans counts⟩, fun i listed sent k key => s.mem_laneRestart (joins i listed sent k key), fun ready c open_ => ?_⟩
  · refine Eq.trans (show s.laneEnded.records = s.claimsEnded.records from ?_) records
    by_cases ready : s.startup.state = .listenOnly
    · exact (Station.closeContext_of_idle _ .interrupted (.inr (by exact state.trans ready))).2
    · cases open_ : s.tracker.context with
      | none => exact (Station.closeContext_of_idle _ .interrupted (.inl (by exact context.trans open_))).2
      | some c => exact (summary ready c open_).2
  · show _ ∈ s.laneEnded.link.txQueue
    rw [(summary ready c open_).1]
    exact List.mem_append_right _ (List.mem_singleton_self _)

/-- With no claim in flight a lane restart offers the summary alone. -/
theorem Station.laneRestart_quiet (idle : ∀ i ∈ s.lane.queue, i.corr ≠ .queued ∧ i.settlingOrWaiting = false) :
    s.laneRestart.startup.announce = s.startup.announce ∧ s.laneRestart.link.counts = s.link.counts ∧
    (s.tracker.context = none ∨ s.startup.state = .listenOnly →
      s.laneRestart.link.txQueue = s.link.txQueue ∧ s.laneRestart.records = s.records) ∧
    ∀ c, s.tracker.context = some c → s.startup.state ≠ .listenOnly →
      if s.link.txQueue.length < 16 then
        s.laneRestart.link.txQueue = s.link.txQueue ++ [⟨.summary (c.summary .interrupted), 0, .ready, false⟩] ∧ s.laneRestart.records = s.records
      else s.laneRestart.link.txQueue = s.link.txQueue ∧ s.laneRestart.records =
        if s.records.overflow = none then { s.records with overflow := some (.summary (c.summary .interrupted)) }
        else { s.records with counts := { s.records.counts with lost := s.records.counts.lost + 1 } } := by
  have none : s.claimsEnded = s := s.restartClaims_idle idle
  have ended : s.laneEnded = s.removeOwnClaims.clearLane.closeContext .interrupted := by rw [Station.laneEnded, none]
  have frame := s.laneEnded_changes
  rw [none] at frame
  refine ⟨frame .announce (by decide), frame .linkCounts (by decide), fun still => ?_, fun c open_ ready => ?_⟩
  · show s.laneEnded.link.txQueue = _ ∧ s.laneEnded.records = _
    rw [ended]
    exact Station.closeContext_of_idle _ .interrupted (by exact still)
  · show if _ then s.laneEnded.link.txQueue = _ ∧ s.laneEnded.records = _ else s.laneEnded.link.txQueue = _ ∧ s.laneEnded.records = _
    rw [ended]
    obtain ⟨room, full⟩ := s.removeOwnClaims.clearLane.closeContext_of_ready .interrupted (by exact open_) (by exact ready)
    split
    next place => exact room place
    next place => exact full place

/-- A lane restart is as the claims say. -/
theorem Station.laneRestart_restarted : s.Restarted s.laneRestart := by
  have frame := s.laneRestart_changes
  have cleared := s.claimsEnded_clears
  have frameToo := s.laneEnded_changes
  have counts : s.laneRestart.link.counts = s.claimsEnded.link.counts := frameToo .linkCounts (by decide)
  have flags : s.laneRestart.records.flags = s.claimsEnded.records.flags := frameToo .flags (by decide)
  have announce : s.laneRestart.startup.announce = s.claimsEnded.startup.announce := frameToo .announce (by decide)
  have close := Station.closeContext_changes s.claimsEnded.removeOwnClaims.clearLane .interrupted
  have sent {i : Item} (is : i.corr = .waiting ∨ ∃ d, i.corr = .settling d) : i.settlingOrWaiting = true := by
    rcases is with is | ⟨d, is⟩ <;> rw [Item.settlingOrWaiting, is]
  exact {
    items := s.laneRestart_empty
    sensorOwner := close .sensorOwner (by decide)
    diverter := close .diverter (by decide)
    receivers := fun h => by cases h <;> rfl
    measurement := by
      exact (measurement_restarted (frameToo .tare (by decide)) (frameToo .factor (by decide)) (frameToo .measureCounts (by decide))).trans
        (measurement_restarted (cleared.frame .tare (by decide)) (cleared.frame .factor (by decide)) (cleared.frame .measureCounts (by decide)))
    context := s.laneRestart_tracker
    table := s.laneRestart_table
    claims := s.laneRestart_claims
    lane := ⟨frame .position (by decide), frame .nextRef (by decide), frame .laneCounts (by decide)⟩
    counts := ⟨frame .headCounts (by decide), frame .keyCounts (by decide)⟩
    link := link_but_queues (frame .line (by decide)) (frame .generator (by decide)) (frame .gate (by decide))
    linkCounts := by rw [counts]; exact cleared.linkCounts
    kept := by
      obtain ⟨fs, queue, -⟩ := s.laneEnded_sends
      exact s.restartClaims_kept.trans (by
        show s.claimsEnded.link.txQueue.Sublist s.laneEnded.link.txQueue
        rw [queue]
        exact List.sublist_append_left _ _)
    added := s.laneRestart_added
    withdrawals := fun empty noAnnounce room i listed is k tally key claimTally => by
      have joins := (s.laneRestart_room empty noAnnounce room).2.1 i listed (sent is) k key
      rw [claimTally] at joins
      exact joins
    takenBack := fun empty i listed queued f only => s.laneRestart_takenBack empty listed queued only
    summary := fun empty noAnnounce room => (s.laneRestart_room empty noAnnounce room).2.2
    slot := fun b held kind => s.laneRestart_slot held kind
    slotKept := fun onLine b held => s.laneRestart_slotKept onLine held
    slotEmpty := s.laneRestart_slotEmpty
    pending := frame .pendingStatus (by decide)
    flags := by rw [flags]; exact cleared.flags
    recordCounts := s.laneRestart_recordCounts
    room := fun empty noAnnounce room => (s.laneRestart_room empty noAnnounce room).1
    quiet := s.laneRestart_quiet
    startup := startup_but_announce (frame .stationState (by decide)) (frame .settings (by decide)) (frame .joinTimer (by decide))
    announce := by rw [announce]; exact cleared.announce
    clock := frame .clock (by decide) }

/-! ### The statement -/

theorem exec_localRestart (x : Station) (q : List Instr) : exec .localRestart ⟨x, q⟩ = .next ⟨x.restartPressed, q⟩ := rfl

theorem exec_restart (x : Station) (q : List Instr) :
    exec .restart ⟨x, q⟩ = .next ⟨x.deliver .restart (fun _ => Station.laneRestart), q⟩ := rfl

/-- A RESTART from the gateway to this station is delivered as one. -/
theorem classify_restart {own : Option Nat} {f : RxFrame} (kind : f.kind = 0x24) (empty : f.payload = []) (gateway : f.source = 0)
    (addressed : own = some f.dest.toNat) : classify own f = .restart := by
  simp [classify, kindLength, requestKind, kind, empty, gateway, addressed]

/-- A restart of a station that differs in receive queue and restart input alone is one of the station. -/
theorem Station.Restarted.of_input {x t : Station} (rest : List RxFrame) (input : Bool)
    (h : { x with link := { x.link with rxQueue := rest }, startup := { x.startup with restartInput := input } }.Restarted t) : x.Restarted t :=
  { h with }

/-- Settles O12: a lane restart ends the claims, empties the lane, closes the context and resets the blocks; each part of the statement is
what one of these steps leaves. -/
theorem laneRestart : Obligations.LaneRestart := by
  unfold Obligations.LaneRestart
  refine ⟨fun x q => ⟨fun ready released => ⟨_, exec_localRestart x q, ?_⟩, fun f rest ready front kind gateway empty addressed =>
    ⟨_, exec_restart x q, ?_⟩⟩, fun x q => ⟨fun held => ?_, fun released loading => ?_, rfl⟩⟩
  · have pressed : x.restartPressed = Station.laneRestart { x with startup := { x.startup with restartInput := true } } :=
      (if_neg (by simp [released])).trans (if_pos ((Station.ready_iff _).mpr (by exact ready)))
    have frame := Station.laneRestart_changes { x with startup := { x.startup with restartInput := true } }
    rw [pressed]
    exact ⟨.of_input x.link.rxQueue true (by exact Station.laneRestart_restarted _), frame .rxQueue (by decide), frame .restartInput (by decide)⟩
  · rw [x.deliver_of_front _ ready front (classify_restart kind empty gateway addressed)]
    have frame := Station.laneRestart_changes { x with link := { x.link with rxQueue := rest } }
    exact ⟨.of_input rest x.startup.restartInput (by exact Station.laneRestart_restarted _), frame .rxQueue (by decide), frame .restartInput (by decide)⟩
  · rw [exec_localRestart, Station.restartPressed, if_pos held]
  · have pressed : x.restartPressed = { x with startup := { x.startup with restartInput := true } } :=
      (if_neg (by simp [released])).trans (if_neg (mt (Station.ready_iff _).mp (by simp [loading])))
    rw [exec_localRestart, pressed]

end Sys2Proof.Machine
end
